-- ==== Sys2Proof/Word.lean ====
section
/-!
DEFINITION. The two word types of the part: a byte that crosses a port, a link or the memory interface, and the
16-bit sets and fields of spec/11_formats.md.
-/
namespace Sys2Proof

/-- One byte of a frame, a record or a stored area (R174). -/
abbrev Byte := BitVec 8

/-- A 16-bit word: an event set, an enable mask, a CRC-16 (R163, R168). -/
abbrev Word16 := BitVec 16

end Sys2Proof
end

