-- ==== Sys2Proof/Syntax.lean ====
section
/-!
DEFINITION. The names the commands use (zones, doors, channels, ports) and the commands themselves: one constructor of
Instr for each row of spec/opcode_table.json. The table gives no row an operand field; the operands are read from the
rules (INVENTORY.md, Instructions; log entries 4 and 5).
-/
namespace Sys2Proof

/-- The four zones (spec/00 "Zone names"; coded 0 to 3, R174). -/
inductive Zone where
  | fresh | flex | freezer | ice
deriving DecidableEq, Repr, Inhabited

/-- The two refrigerant paths (spec/00 "Path names"). -/
inductive Path where
  | upper | lower
deriving DecidableEq, Repr, Inhabited

/-- The four doors (spec/03 "Door Inputs"). -/
inductive Door where
  | leftFresh | rightFresh | flexDrawer | freezerDrawer
deriving DecidableEq, Repr, Inhabited

/-- The raw level of an input pin. -/
inductive PinLevel where
  | low | high
deriving DecidableEq, Repr, Inhabited

/-- The seven sensor channels (spec/01 "Channel Assignment"). -/
inductive Channel where
  | ch0 | ch1 | ch2 | ch3 | ch4 | ch5 | ch6
deriving DecidableEq, Repr, Inhabited

/-- The three fans (R108). -/
inductive Fan where
  | upper | lower | condenser
deriving DecidableEq, Repr, Inhabited

/-- The three dampers (R114). -/
inductive Damper where
  | flexLower | flexUpper | ice
deriving DecidableEq, Repr, Inhabited

/-- The three request ports (R150). -/
inductive Port where
  | s | a | b
deriving DecidableEq, Repr, Inhabited

/-- The two I2C ports, which take write transactions (R151). -/
inductive I2cPort where
  | a | b
deriving DecidableEq, Repr, Inhabited

/-- The two kinds of save (R167). -/
inductive SaveKind where
  | settings | tables
deriving DecidableEq, Repr, Inhabited

/-- What ends a request frame and so takes the request: the STOP or repeated START of a write transaction (R151), or
the last byte of a Port S frame's BODY (R152). -/
inductive Ending where
  | stop (p : I2cPort)
  | lastByteS (b : Byte)
deriving DecidableEq, Repr, Inhabited

/-- The raw levels of the four door inputs, as one reading finds them (R48). -/
structure DoorLevels where
  leftFresh : PinLevel
  rightFresh : PinLevel
  flexDrawer : PinLevel
  freezerDrawer : PinLevel
deriving DecidableEq, Repr, Inhabited

/-- The commands: the rows of spec/opcode_table.json, in the table's order. -/
inductive Instr where
  /-- DEVICE_RESET (R170), with the door levels read as the reset ends (R48). -/
  | deviceReset (raw : DoorLevels)
  /-- IMAGE_LOAD_COMPLETE (R168), with the header and body bytes the memory returned. -/
  | imageLoadComplete (header body : List Byte)
  /-- SETTINGS_LOAD_COMPLETE (R169), with the record's bytes the memory returned. -/
  | settingsLoadComplete (record : List Byte)
  /-- READY (R170). -/
  | ready
  /-- SAMPLE_COMPLETION (R1), with the channel and its 12-bit converter code. -/
  | sampleCompletion (ch : Channel) (code : BitVec 12)
  /-- DOOR_EDGE (R47): the raw level of a door input changes. -/
  | doorEdge (d : Door) (level : PinLevel)
  /-- DOOR_TRANSITION (R47). -/
  | doorTransition (d : Door)
  /-- DOOR_LONG (R51). -/
  | doorLong (d : Door)
  /-- LAPSE (R52). -/
  | lapse (d : Door)
  /-- DOOR_MINUTE (R53). -/
  | doorMinute (d : Door)
  /-- BOOST_EXPIRY (R40). -/
  | boostExpiry (z : Zone)
  /-- DEFROST_WINDOW_CLOSE (R32). -/
  | defrostWindowClose
  /-- FAULT_TIMER_EXPIRY (R57). -/
  | faultTimerExpiry (p : Path)
  /-- TURN_MAXIMUM (R85, R73). -/
  | turnMaximum
  /-- ON_TIMER_MINIMUM (R85, R70). -/
  | onTimerMinimum
  /-- LOWER_RUN_MINUTE (R85, R127). -/
  | lowerRunMinute
  /-- VALVE_MOVE_COMPLETE (R116). -/
  | valveMoveComplete
  /-- START_WINDOW_EXPIRY (R84, R101). -/
  | startWindowExpiry
  /-- START_HOLD_END (R90). -/
  | startHoldEnd
  /-- SPEED_UPDATE (R91, R92). -/
  | speedUpdate
  /-- TRANSFER_TIMER_EXPIRY (R86). -/
  | transferTimerExpiry
  /-- STOP_TIMER_EXPIRY (R88). -/
  | stopTimerExpiry
  /-- MINIMUM_OFF_TIME_OVER (R89). -/
  | minimumOffTimeOver
  /-- FAULT_WAIT_END (R89, R102). -/
  | faultWaitEnd
  /-- POWER_CAP_EXPIRY (R95). -/
  | powerCapExpiry
  /-- DRIVE_COMMAND (R97). -/
  | driveCommand
  /-- DRIVE_STATUS (R98), with the bytes received in the answer window. -/
  | driveStatus (frame : List Byte)
  /-- DRIVE_MISS (R98). -/
  | driveMiss
  /-- TACH_READING (R108), with the fan and the speed measured, in rpm. -/
  | tachReading (f : Fan) (rpm : Word16)
  /-- CONDENSER_RETRY_EXPIRY (R112). -/
  | condenserRetryExpiry
  /-- CONDENSER_RUN_ON_EXPIRY (R112). -/
  | condenserRunOnExpiry
  /-- AFTER_RUN_EXPIRY (R110). -/
  | afterRunExpiry
  /-- FAN_DELAY_EXPIRY (R111). -/
  | fanDelayExpiry
  /-- DAMPER_MOVE_COMPLETE (R115). -/
  | damperMoveComplete (d : Damper)
  /-- DAMPER_HOMING_COMPLETE (R115). -/
  | damperHomingComplete (d : Damper)
  /-- HEATER_LIMIT (R118). -/
  | heaterLimit
  /-- FLEX_HEATER_LIMIT (R119). -/
  | flexHeaterLimit
  /-- FLEX_HEATER_REST_END (R119). -/
  | flexHeaterRestEnd
  /-- HOLD_TIMEOUT (R123). -/
  | holdTimeout
  /-- DEFROST_AGE_LIMIT (R128). -/
  | defrostAgeLimit
  /-- DEFERRAL_END (R131). -/
  | deferralEnd
  /-- PATH_WAIT_EXPIRY (R131). -/
  | pathWaitExpiry
  /-- STEP_DURATION_EXPIRY (R140). -/
  | stepDurationExpiry
  /-- STEP_TIMEOUT_EXPIRY (R140). -/
  | stepTimeoutExpiry
  /-- HOLDOFF_END (R144). -/
  | holdoffEnd
  /-- PORT_S_GAP_TIMEOUT (R152). -/
  | portSGapTimeout
  /-- PORT_S_LENGTH_REJECT (R152), with the length byte received. -/
  | portSLengthReject (b : Byte)
  /-- PORT_S_FRAME_SENT (R152). -/
  | portSFrameSent
  /-- UNKNOWN_COMMAND (R154). -/
  | unknownCommand (e : Ending)
  /-- IDENTIFY (R158), code 0x01. -/
  | identify (e : Ending)
  /-- GET_ZONE (R44), code 0x10. -/
  | getZone (e : Ending)
  /-- GET_SYSTEM (R158), code 0x02. -/
  | getSystem (e : Ending)
  /-- READ_EVENTS (R164), code 0x03. -/
  | readEvents (e : Ending)
  /-- ACK_EVENTS (R164), code 0x04. -/
  | ackEvents (e : Ending)
  /-- SET_EVENT_MASK (R165), code 0x05. -/
  | setEventMask (e : Ending)
  /-- SET_SETPOINT (R41), code 0x11. -/
  | setSetpoint (e : Ending)
  /-- SET_MODE (R42), code 0x12. -/
  | setMode (e : Ending)
  /-- START_BOOST (R38), code 0x13. -/
  | startBoost (e : Ending)
  /-- CANCEL_BOOST (R39), code 0x14. -/
  | cancelBoost (e : Ending)
  /-- LIMIT_POWER (R94), code 0x20. -/
  | limitPower (e : Ending)
  /-- DEFER_DEFROST (R130), code 0x21. -/
  | deferDefrost (e : Ending)
  /-- RUN_PROGRAM (R146), code 0x22. -/
  | runProgram (e : Ending)
  /-- ABORT_PROGRAM (R143), code 0x23. -/
  | abortProgram (e : Ending)
  /-- SET_PANEL_MAP (R156), code 0x24. -/
  | setPanelMap (e : Ending)
  /-- COOLING_RESTART (R159): RESTART, code 0x25, with a level other than 2. -/
  | coolingRestart (e : Ending)
  /-- FULL_RESTART (R159): RESTART, code 0x25, with level 2. -/
  | fullRestart (e : Ending)
  /-- READ_TABLE (R160), code 0x26. -/
  | readTable (e : Ending)
  /-- WRITE_TABLE_CONVERSION (R6): code 0x30, kind 0. -/
  | writeTableConversion (e : Ending)
  /-- WRITE_TABLE_PRESET (R19): code 0x30, kind 1. -/
  | writeTablePreset (e : Ending)
  /-- WRITE_TABLE_LADDER (R22): code 0x30, kind 2. -/
  | writeTableLadder (e : Ending)
  /-- WRITE_TABLE_STEP (R137): code 0x30, kind 3. -/
  | writeTableStep (e : Ending)
  /-- WRITE_TABLE_PROGRAM (R137): code 0x30, kind 4. -/
  | writeTableProgram (e : Ending)
  /-- WRITE_TABLE_GLOBAL (R160): code 0x30, kind 5, and the frames of code 0x30 that name none of the six kinds. -/
  | writeTableGlobal (e : Ending)
  /-- SAVE_TABLES (R161), code 0x31. -/
  | saveTables (e : Ending)
  /-- SERVICE_HOLD_ON (R121): code 0x32, argument 1. -/
  | serviceHoldOn (e : Ending)
  /-- SERVICE_HOLD_OFF (R123): code 0x32, argument other than 1. -/
  | serviceHoldOff (e : Ending)
  /-- FORCE_OUTPUT (R122), code 0x33. -/
  | forceOutput (e : Ending)
  /-- QUIET_TIMER_EXPIRY (R171). -/
  | quietTimerExpiry
  /-- HOURLY_MARK (R171). -/
  | hourlyMark
  /-- PAGE_WRITE_COMPLETE (R172), with the bytes read back. -/
  | pageWriteComplete (readBack : List Byte)
  /-- PAGE_BUSY_TIMEOUT (R172). -/
  | pageBusyTimeout
  /-- SAVE_RETRY_EXPIRY (R172). -/
  | saveRetryExpiry (k : SaveKind)
  /-- PORT_S_BYTE_RECEIVED (R152). -/
  | portSByteReceived (b : Byte)
  /-- WRITE_TRANSACTION_BYTE (R151). -/
  | writeTransactionByte (p : I2cPort) (b : Byte)
deriving DecidableEq, Repr

end Sys2Proof
end

