-- ==== Sys2Proof/Decode.lean ====
section
/-!
DEFINITION. The command that a word spells by the bits of spec/opcode_table.json. No row of the table gives bits ("fields" is
empty in every row), so no word spells a command. The frames that do spell requests are read in Machine/Operands.lean and
Machine/Requests.lean.
-/
namespace Sys2Proof

/-- No row of the table gives bits: none for every word. -/
def decodeTableWord (_nbits _w : Nat) : Option Instr := none

end Sys2Proof
end

