-- ==== Sys2Proof/Config.lean ====
section
/-!
DEFINITION. What the spec leaves to the implementation or to no one: constants without a body, so that no proof can lean on a
value of theirs.
-/
namespace Sys2Proof

/-- The silicon revision that IDENTIFY returns (R158); the spec gives no value (log entry 15). -/
opaque Config.siliconRevision : Byte

/-- A fresh free number for each value of the model's counter: it decides an order that the spec leaves open, of events that
fall due together (log entry 2) and of two blocks that act on one hand-over (log entry 17). -/
opaque Config.pick : Nat → Nat

end Sys2Proof
end

