-- ==== Sys2Proof/Machine/Types.lean ====
section
/-!
DEFINITION. One value for each zone, path, door, channel, fan, damper or port: plain structures with a read and a write, through
which every record of the part is reached.
-/
namespace Sys2Proof.Machine

/-- One value for each zone. -/
structure PerZone (α : Type) where
  fresh : α
  flex : α
  freezer : α
  ice : α
deriving DecidableEq, Repr, Inhabited

def PerZone.get {α : Type} (m : PerZone α) : Zone → α
  | .fresh => m.fresh
  | .flex => m.flex
  | .freezer => m.freezer
  | .ice => m.ice

def PerZone.set {α : Type} (m : PerZone α) (z : Zone) (v : α) : PerZone α :=
  match z with
  | .fresh => { m with fresh := v }
  | .flex => { m with flex := v }
  | .freezer => { m with freezer := v }
  | .ice => { m with ice := v }

def PerZone.map {α β : Type} (f : α → β) (m : PerZone α) : PerZone β :=
  { fresh := f m.fresh, flex := f m.flex, freezer := f m.freezer, ice := f m.ice }

/-- The values in zone order FRESH, FLEX, FREEZER, ICE. -/
def PerZone.toList {α : Type} (m : PerZone α) : List α := [m.fresh, m.flex, m.freezer, m.ice]

/-- One value for each path. -/
structure PerPath (α : Type) where
  upper : α
  lower : α
deriving DecidableEq, Repr, Inhabited

def PerPath.get {α : Type} (m : PerPath α) : Path → α
  | .upper => m.upper
  | .lower => m.lower

def PerPath.set {α : Type} (m : PerPath α) (p : Path) (v : α) : PerPath α :=
  match p with
  | .upper => { m with upper := v }
  | .lower => { m with lower := v }

def PerPath.map {α β : Type} (f : α → β) (m : PerPath α) : PerPath β :=
  { upper := f m.upper, lower := f m.lower }

/-- One value for each door. -/
structure PerDoor (α : Type) where
  leftFresh : α
  rightFresh : α
  flexDrawer : α
  freezerDrawer : α
deriving DecidableEq, Repr, Inhabited

def PerDoor.get {α : Type} (m : PerDoor α) : Door → α
  | .leftFresh => m.leftFresh
  | .rightFresh => m.rightFresh
  | .flexDrawer => m.flexDrawer
  | .freezerDrawer => m.freezerDrawer

def PerDoor.set {α : Type} (m : PerDoor α) (d : Door) (v : α) : PerDoor α :=
  match d with
  | .leftFresh => { m with leftFresh := v }
  | .rightFresh => { m with rightFresh := v }
  | .flexDrawer => { m with flexDrawer := v }
  | .freezerDrawer => { m with freezerDrawer := v }

def PerDoor.map {α β : Type} (f : α → β) (m : PerDoor α) : PerDoor β :=
  { leftFresh := f m.leftFresh, rightFresh := f m.rightFresh, flexDrawer := f m.flexDrawer,
    freezerDrawer := f m.freezerDrawer }

/-- The values in the order of R158, item 6. -/
def PerDoor.toList {α : Type} (m : PerDoor α) : List α :=
  [m.leftFresh, m.rightFresh, m.flexDrawer, m.freezerDrawer]

/-- One value for each sensor channel. -/
structure PerChannel (α : Type) where
  ch0 : α
  ch1 : α
  ch2 : α
  ch3 : α
  ch4 : α
  ch5 : α
  ch6 : α
deriving DecidableEq, Repr, Inhabited

def PerChannel.get {α : Type} (m : PerChannel α) : Channel → α
  | .ch0 => m.ch0
  | .ch1 => m.ch1
  | .ch2 => m.ch2
  | .ch3 => m.ch3
  | .ch4 => m.ch4
  | .ch5 => m.ch5
  | .ch6 => m.ch6

def PerChannel.set {α : Type} (m : PerChannel α) (c : Channel) (v : α) : PerChannel α :=
  match c with
  | .ch0 => { m with ch0 := v }
  | .ch1 => { m with ch1 := v }
  | .ch2 => { m with ch2 := v }
  | .ch3 => { m with ch3 := v }
  | .ch4 => { m with ch4 := v }
  | .ch5 => { m with ch5 := v }
  | .ch6 => { m with ch6 := v }

def PerChannel.toList {α : Type} (m : PerChannel α) : List α :=
  [m.ch0, m.ch1, m.ch2, m.ch3, m.ch4, m.ch5, m.ch6]

/-- One value for each fan. -/
structure PerFan (α : Type) where
  upper : α
  lower : α
  condenser : α
deriving DecidableEq, Repr, Inhabited

def PerFan.get {α : Type} (m : PerFan α) : Fan → α
  | .upper => m.upper
  | .lower => m.lower
  | .condenser => m.condenser

def PerFan.set {α : Type} (m : PerFan α) (f : Fan) (v : α) : PerFan α :=
  match f with
  | .upper => { m with upper := v }
  | .lower => { m with lower := v }
  | .condenser => { m with condenser := v }

/-- One value for each damper. -/
structure PerDamper (α : Type) where
  flexLower : α
  flexUpper : α
  ice : α
deriving DecidableEq, Repr, Inhabited

def PerDamper.get {α : Type} (m : PerDamper α) : Damper → α
  | .flexLower => m.flexLower
  | .flexUpper => m.flexUpper
  | .ice => m.ice

def PerDamper.set {α : Type} (m : PerDamper α) (d : Damper) (v : α) : PerDamper α :=
  match d with
  | .flexLower => { m with flexLower := v }
  | .flexUpper => { m with flexUpper := v }
  | .ice => { m with ice := v }

def PerDamper.map {α β : Type} (f : α → β) (m : PerDamper α) : PerDamper β :=
  { flexLower := f m.flexLower, flexUpper := f m.flexUpper, ice := f m.ice }

def PerDamper.toList {α : Type} (m : PerDamper α) : List α := [m.flexLower, m.flexUpper, m.ice]

/-- One value for each request port. -/
structure PerPort (α : Type) where
  s : α
  a : α
  b : α
deriving DecidableEq, Repr, Inhabited

def PerPort.get {α : Type} (m : PerPort α) : Port → α
  | .s => m.s
  | .a => m.a
  | .b => m.b

def PerPort.set {α : Type} (m : PerPort α) (p : Port) (v : α) : PerPort α :=
  match p with
  | .s => { m with s := v }
  | .a => { m with a := v }
  | .b => { m with b := v }

def PerPort.map {α β : Type} (f : α → β) (m : PerPort α) : PerPort β :=
  { s := f m.s, a := f m.a, b := f m.b }

end Sys2Proof.Machine
end

