-- ==== Sys2Proof/Machine/Tables.lean ====
section
/-!
DEFINITION. The records of the working tables (presets, ladders, steps, programs, global parameters) and the built-in tables
of R5, R18, R21 and R135.
-/
namespace Sys2Proof.Machine

/-- The paths a zone can be cooled from (spec/00 "Path names"; coded 0, 1, 2, R174). -/
inductive PathSet where
  | upper | lower | either
deriving DecidableEq, Repr, Inhabited

/-- Whether a path set contains a path. -/
def PathSet.contains : PathSet → Path → Bool
  | .either, _ => true
  | .upper, .upper => true
  | .upper, .lower => false
  | .lower, .upper => false
  | .lower, .lower => true

/-- A preset record (R17). -/
structure Preset where
  mask : PerZone Bool
  disabled : Bool
  defaultSetpoint : Int
  minSetpoint : Int
  maxSetpoint : Int
  ladder : Nat
  pathSet : PathSet
  shift : Nat
  doorHold : Nat
  boostDepth : Nat
  boostMax : Nat
  fallbackOn : Nat
  heaterEnable : Bool
deriving DecidableEq, Repr, Inhabited

/-- The demand attribute of a band (R20), in the order R175 codes it. -/
inductive DemandAttr where
  | none | hold | call | urgent
deriving DecidableEq, Repr, Inhabited

/-- The heat attribute of a band (R20), in the order R175 codes it. -/
inductive HeatAttr where
  | off | hold | on
deriving DecidableEq, Repr, Inhabited

/-- The alarm attribute of a band (R20), in the order R175 codes it. -/
inductive AlarmAttr where
  | none | cold | warm
deriving DecidableEq, Repr, Inhabited

/-- The attributes of one band (R20). -/
structure Band where
  demand : DemandAttr
  heat : HeatAttr
  alarm : AlarmAttr
deriving DecidableEq, Repr, Inhabited

/-- A ladder record (R20): n offsets, n + 1 bands, the alarm delay in seconds. -/
structure Ladder where
  offsets : List Int
  bands : List Band
  delay : Nat
deriving DecidableEq, Repr, Inhabited

/-- How a step ends (R134), in the order R175 codes it. -/
inductive EndKind where
  | time | evapAbove | evapBelow
deriving DecidableEq, Repr, Inhabited

/-- A step record (R134). -/
structure Step where
  heater : Bool
  lowerFan : Bool
  upperFan : Bool
  endKind : EndKind
  duration : Nat
  threshold : Int
  timeout : Nat
  abortOnTimeout : Bool
  last : Bool
  notify : Bool
  measure : Bool
  next : Nat
deriving DecidableEq, Repr, Inhabited

/-- A program record (R134). -/
structure Program where
  valid : Bool
  head : Nat
  exitHead : Nat
  path : Path
  compressorOff : Bool
deriving DecidableEq, Repr, Inhabited

/-- The working tables and global parameters. -/
structure Tables where
  conv : List Int
  presets : List Preset
  ladders : List Ladder
  steps : List Step
  programs : List Program
  ambientGain : Nat
  doorWeight : Nat
  autoProgram : Nat
deriving DecidableEq, Repr, Inhabited

/-- The built-in conversion table (R5). -/
def builtInConv : List Int :=
  [700, 560, 430, 330, 250, 180, 115, 55, 0, -55, -115, -180, -255, -340, -430, -500, -500]

/-- A zone mask that holds one zone. -/
def onlyZone (z : Zone) : PerZone Bool := (PerZone.mk false false false false).set z true

/-- A spare preset (R18, last row). -/
def sparePreset : Preset :=
  { mask := { fresh := false, flex := false, freezer := false, ice := false }, disabled := false,
    defaultSetpoint := 0, minSetpoint := 0, maxSetpoint := 0, ladder := 0, pathSet := .upper, shift := 0, doorHold := 0,
    boostDepth := 0, boostMax := 1, fallbackOn := 0, heaterEnable := false }

/-- One row of R18's table, columns in its order. -/
def presetRow (z : Zone) (dflt lo hi : Int) (ladder : Nat) (ps : PathSet) (s hold depth bmax fb : Nat)
    (heater disabled : Bool) : Preset :=
  { mask := onlyZone z, disabled := disabled, defaultSetpoint := dflt, minSetpoint := lo, maxSetpoint := hi,
    ladder := ladder, pathSet := ps, shift := s, doorHold := hold, boostDepth := depth, boostMax := bmax,
    fallbackOn := fb, heaterEnable := heater }

/-- The built-in preset table (R18). -/
def builtInPresets : List Preset :=
  [ presetRow .fresh 37 10 70 0 .upper 3 120 20 240 20 false false,
    presetRow .flex (-180) (-220) (-150) 1 .lower 3 90 30 240 25 false false,
    presetRow .flex (-50) (-70) (-30) 2 .lower 2 90 20 120 20 false false,
    presetRow .flex (-10) (-20) 0 3 .either 2 90 10 120 15 true false,
    presetRow .flex 10 0 20 3 .either 2 90 10 120 15 true false,
    presetRow .flex 30 20 50 4 .upper 3 120 20 240 15 true false,
    presetRow .freezer (-180) (-240) (-140) 1 .lower 3 120 30 480 30 false false,
    presetRow .ice (-150) (-200) (-100) 5 .lower 2 60 30 120 25 false false,
    presetRow .ice (-150) (-200) (-100) 5 .lower 2 60 0 1 0 false true ]
  ++ List.replicate 7 sparePreset

/-- The factory preset of each zone (R18). -/
def factoryPreset : Zone → Nat
  | .fresh => 0
  | .flex => 4
  | .freezer => 6
  | .ice => 7

/-- A ladder of R21 with five separators: bands 0 and 1 as given, then HOLD, CALL, URGENT, and URGENT with WARM. -/
def fiveBandLadder (offsets : List Int) (b0 b1 : Band) (delay : Nat) : Ladder :=
  { offsets := offsets,
    bands := [b0, b1, ⟨.hold, .off, .none⟩, ⟨.call, .off, .none⟩, ⟨.urgent, .off, .none⟩, ⟨.urgent, .off, .warm⟩],
    delay := delay }

/-- A spare ladder (R21). -/
def spareLadder : Ladder :=
  { offsets := [0], bands := [⟨.none, .off, .none⟩, ⟨.call, .off, .none⟩], delay := 0 }

/-- The built-in ladder table (R21). -/
def builtInLadders : List Ladder :=
  [ fiveBandLadder [-20, -5, 5, 15, 40] ⟨.none, .off, .cold⟩ ⟨.none, .off, .none⟩ 1800,
    fiveBandLadder [-30, -10, 10, 30, 80] ⟨.none, .off, .none⟩ ⟨.none, .off, .none⟩ 3600,
    fiveBandLadder [-20, -5, 5, 20, 60] ⟨.none, .off, .cold⟩ ⟨.none, .off, .none⟩ 2700,
    fiveBandLadder [-15, -5, 5, 15, 40] ⟨.none, .on, .cold⟩ ⟨.none, .hold, .none⟩ 1800,
    fiveBandLadder [-20, -5, 10, 25, 50] ⟨.none, .on, .cold⟩ ⟨.none, .hold, .none⟩ 2700,
    { offsets := [-30, -10, 10, 40],
      bands := [⟨.none, .off, .none⟩, ⟨.none, .off, .none⟩, ⟨.hold, .off, .none⟩, ⟨.call, .off, .none⟩,
        ⟨.urgent, .off, .warm⟩],
      delay := 3600 } ]
  ++ List.replicate 6 spareLadder

/-- A TIME step with every actuator off and LAST set (R135). -/
def restStep (duration : Nat) (notify : Bool) : Step :=
  { heater := false, lowerFan := false, upperFan := false, endKind := .time, duration := duration, threshold := 0,
    timeout := 1, abortOnTimeout := false, last := true, notify := notify, measure := false, next := 0 }

/-- The built-in step table (R135). -/
def builtInSteps : List Step :=
  [ { heater := true, lowerFan := false, upperFan := false, endKind := .evapAbove, duration := 1, threshold := 50,
      timeout := 2400, abortOnTimeout := false, last := false, notify := false, measure := true, next := 1 },
    restStep 300 true,
    restStep 300 false,
    restStep 1 false,
    { heater := false, lowerFan := false, upperFan := true, endKind := .evapAbove, duration := 1, threshold := 30,
      timeout := 1800, abortOnTimeout := false, last := true, notify := false, measure := false, next := 0 } ]
  ++ List.replicate 27 (restStep 1 false)

/-- The built-in program table (R135). -/
def builtInPrograms : List Program :=
  [ { valid := true, head := 0, exitHead := 2, path := .lower, compressorOff := false },
    { valid := true, head := 4, exitHead := 3, path := .upper, compressorOff := false } ]
  ++ List.replicate 6 { valid := false, head := 5, exitHead := 5, path := .lower, compressorOff := false }

/-- The built-in tables with the default global parameters: gain 15 (R91), door weight 6 and program 0 (R126). -/
def builtInTables : Tables :=
  { conv := builtInConv, presets := builtInPresets, ladders := builtInLadders, steps := builtInSteps,
    programs := builtInPrograms, ambientGain := 15, doorWeight := 6, autoProgram := 0 }

/-- The preset entry of an index. Outside the table a spare, which no zone can name (R15, R17). -/
def Tables.preset (t : Tables) (i : Nat) : Preset := t.presets.getD i sparePreset

/-- The ladder entry of an index (a preset's ladder index lies in 0..11, R17). -/
def Tables.ladder (t : Tables) (i : Nat) : Ladder := t.ladders.getD i spareLadder

/-- The step entry of an index (0..31, R134). -/
def Tables.step (t : Tables) (i : Nat) : Step := t.steps.getD i (restStep 1 false)

/-- The program entry of an index (0..7, R134). -/
def Tables.program (t : Tables) (i : Nat) : Program :=
  t.programs.getD i { valid := false, head := 5, exitHead := 5, path := .lower, compressorOff := false }

end Sys2Proof.Machine
end

