-- ==== Sys2Proof/Machine/State.lean ====
section
/-!
DEFINITION. The state of the part as plain data, block by block in the order of the chapters, and the state right after a device
reset. The file or rule that names a field stands in its docstring; INVENTORY.md lists them all with their reset values.
-/
namespace Sys2Proof.Machine

/-- Why the part could stop. No rule of the spec stops it: every broken input, partner or request is answered by a status or
a state the part goes on in. So no command raises a fault, and the type is empty (safe). -/
inductive Fault where
deriving DecidableEq, Repr

/-- Why a command has no meaning. -/
inductive Refusal where
  /-- Raised by an arm of exec whose command is not modelled yet; none is left. Safe: the model stops. -/
  | notModelled (mnemonic : String)
deriving DecidableEq, Repr

/-! ## Sensor front end (R2) -/

/-- The state of a channel (R2), in the order R174 codes it. -/
inductive ChannelState where
  | unseeded | ok | fault
deriving DecidableEq, Repr, Inhabited

/-- The fault kind of a channel (R2): NONE, SHORT, OPEN. -/
inductive FaultKind where
  | none | short | openLead
deriving DecidableEq, Repr, Inhabited

/-- A channel record (R2). -/
structure ChannelRecord where
  state : ChannelState
  lastCode : Option Nat
  temperature : Option Int
  faultKind : FaultKind
  debounce : Nat
deriving DecidableEq, Repr, Inhabited

/-! ## Zone controller (R15) -/

/-- The level of a calling zone, 1 to 3 (R15). -/
inductive CallLevel where
  | one | two | three
deriving DecidableEq, Repr, Inhabited

/-- Demand state and level together: IDLE has level 0, CALLING a level of 1 to 3 (R15). -/
inductive Demand where
  | idle
  | calling (level : CallLevel)
deriving DecidableEq, Repr, Inhabited

/-- The alarm state (R15), in the order R174 codes it. -/
inductive AlarmState where
  | none | pendingWarm | warm | pendingCold | cold
deriving DecidableEq, Repr, Inhabited

/-- The mode of a zone (R15), in the order R174 codes it. -/
inductive ZoneMode where
  | normal | fallback | disabled
deriving DecidableEq, Repr, Inhabited

/-- A boost: its expiry, a value of now, and the port that asked last (R15). -/
structure Boost where
  expiry : Nat
  port : Port
deriving DecidableEq, Repr, Inhabited

/-- A zone record (R15). The reported temperature is computed from the estimate (R26). The door hold timer is kept in units of
10 ms and read in whole seconds (log entry 9). kept holds the preset and ladder of the last evaluation while a table write has
replaced them and the zone's next evaluation has not come (R19, R22; log entry 14). -/
structure ZoneRecord where
  preset : Nat
  kept : Option (Preset × Ladder)
  setpoint : Int
  estimate : Option Int
  seeded : Bool
  band : Option Nat
  demand : Demand
  heat : Bool
  alarm : AlarmState
  alarmTimer : Nat
  boost : Option Boost
  doorHold : Option Nat
  mode : ZoneMode
  fallbackStart : Option Nat
deriving DecidableEq, Repr, Inhabited

/-- The defrost window of the zone controller (R32): closed, open while a LOWER program runs, or open until a value of now. -/
inductive DefrostWindow where
  | closed
  | running
  | closing (at_ : Nat)
deriving DecidableEq, Repr, Inhabited

/-! ## Door monitor (R48) -/

/-- A door record (R48), with the raw level and debounce run of R47. openAge is the time since the opening in units of 10 ms:
absent while CLOSED; the state and the open timer are read from it. -/
structure DoorRecord where
  raw : PinLevel
  run : Option Nat
  openAge : Option Nat
  longReported : Bool
  lapsed : Bool
  minutes : Nat
deriving DecidableEq, Repr, Inhabited

/-! ## Demand arbiter (R56, R59, R60) -/

/-- An entry of the turn queue or of the served set (R59): time is joined-at or served-since. -/
structure Entry where
  zone : Zone
  pathSet : PathSet
  level : CallLevel
  time : Nat
deriving DecidableEq, Repr, Inhabited

/-- The fault state of a path (R56). -/
inductive PathFault where
  | none | faulted | locked
deriving DecidableEq, Repr, Inhabited

/-- A path record (R56); timer is the seconds remaining. -/
structure PathRecord where
  blocked : Bool
  fault : PathFault
  count : Nat
  timer : Option Nat
deriving DecidableEq, Repr, Inhabited

/-- The arbiter: turn queue and served set, front first (R59), path records (R56) and turn record (R60). The service hold flag
of R60 is read from the service hold record. -/
structure Arbiter where
  queue : List Entry
  served : List Entry
  paths : PerPath PathRecord
  turnPath : Option Path
  holdover : Bool
  yieldDue : Bool
  compressorHold : Bool
deriving DecidableEq, Repr, Inhabited

/-! ## Cycle controller and drive link (R82) -/

/-- The cycle state (R82), in the order R174 codes it. -/
inductive CycleState where
  | off | starting | running | transfer | stopping
deriving DecidableEq, Repr, Inhabited

/-- The start phase (R82). -/
inductive StartPhase where
  | valve | run
deriving DecidableEq, Repr, Inhabited

/-- The cycle record (R82). The holdover flag is the arbiter's. sinceUpdate counts the seconds since the last speed update or
the entry to RUNNING (R90); the two marks say that a once-a-turn or once-a-run report is made, and runMinutes
how many LOWER run minutes this turn has handed on (R85). -/
structure CycleRecord where
  state : CycleState
  path : Option Path
  phase : Option StartPhase
  runFlag : Bool
  speed : Nat
  target : Option Nat
  startWindow : Option Nat
  startHold : Option Nat
  transferTimer : Option Nat
  turnTimer : Option Nat
  onTimer : Option Nat
  stopTimer : Option Nat
  sinceUpdate : Nat
  turnMaxReported : Bool
  minOnReported : Bool
  runMinutes : Nat
  lastStop : Nat
  stopCommandedSince : Nat
deriving DecidableEq, Repr, Inhabited

/-- A power cap: rpm and expiry, a value of now (R82). -/
structure PowerCap where
  rpm : Nat
  expiry : Nat
deriving DecidableEq, Repr, Inhabited

/-- The power cap record (R82). -/
structure CapRecord where
  power : Option PowerCap
  condenser : Bool
deriving DecidableEq, Repr, Inhabited

/-- The state of the drive link (R82), in the order R174 codes it. -/
inductive LinkState where
  | unknown | up | lost
deriving DecidableEq, Repr, Inhabited

/-- The drive state a DRIVE_STATUS reports (R98), in the order spec/11 codes it. -/
inductive DriveState where
  | stopped | running | fault
deriving DecidableEq, Repr, Inhabited

/-- A valid DRIVE_STATUS: drive state, actual speed in units of 10 rpm, fault code (R98). -/
structure DriveReply where
  state : DriveState
  units : Nat
  code : Nat
deriving DecidableEq, Repr, Inhabited

/-- The drive link record (R82), the answer window (its age in units of 10 ms, R98) and the last frame sent (R97). -/
structure LinkRecord where
  state : LinkState
  miss : Nat
  good : Nat
  lastStatus : Option DriveReply
  window : Option Nat
  sent : List Byte
  sentAt : Nat
deriving DecidableEq, Repr, Inhabited

/-- The cause of a drive fault (R82), in the order R174 codes it. -/
inductive DriveFaultCause where
  | reported | startFailure | runaway | stall
deriving DecidableEq, Repr, Inhabited

/-- The drive fault record (R82). lockout holds the time of the fault that set it. -/
structure DriveFaultRecord where
  times : List Nat
  waitEnd : Option Nat
  lockout : Option Nat
  last : Option (DriveFaultCause × Nat)
  runaway : Bool
  stall : Nat
deriving DecidableEq, Repr, Inhabited

/-! ## Actuator block -/

/-- A fan record (R108). -/
structure FanRecord where
  duty : Nat
  tach : Nat
  spinUp : Nat
  low : Nat
  good : Nat
deriving DecidableEq, Repr, Inhabited

/-- The condenser fault state (R112). -/
inductive CondenserFault where
  | none | faulted | retry
deriving DecidableEq, Repr, Inhabited

/-- The fan delay (R111). -/
inductive FanDelay where
  | disarmed | armed | active
deriving DecidableEq, Repr, Inhabited

/-- The motion of a damper (R115). -/
inductive Motion where
  | idle | moving | homing
deriving DecidableEq, Repr, Inhabited

/-- A damper record (R115): position absent while unknown; target 0 or 400; homed counts the steps of a homing. -/
structure DamperRecord where
  position : Option Nat
  motion : Motion
  target : Nat
  homed : Nat
deriving DecidableEq, Repr, Inhabited

/-- The valve record (R116): standing, or moving toward a position with the time the move takes and the time spent in it,
in units of 10 ms. -/
inductive Valve where
  | standing (p : Path)
  | moving (toward : Path) (duration spent : Nat)
deriving DecidableEq, Repr, Inhabited

/-- The lower defrost heater (R117, R118). -/
structure DefrostHeater where
  requested : Bool
  output : Bool
  onTime : Nat
  limited : Bool
deriving DecidableEq, Repr, Inhabited

/-- The flex heater (R119); rest is the seconds left of a rest. -/
structure FlexHeater where
  requested : Bool
  output : Bool
  onTime : Nat
  rest : Option Nat
deriving DecidableEq, Repr, Inhabited

/-- One forced value per output (R120). Fan duties in percent; a damper is true when forced open. -/
structure Forced where
  speed : Nat
  valve : Path
  fans : PerFan Nat
  dampers : PerDamper Bool
  lowerHeater : Bool
  flexHeater : Bool
deriving DecidableEq, Repr, Inhabited

/-- The actuator block's records. The service hold is ON exactly while forced values are present (R120, R121, R123). retry and
runOn are seconds left, afterRun seconds elapsed. -/
structure Actuators where
  fans : PerFan FanRecord
  condenserFault : CondenserFault
  retry : Option Nat
  runOn : Option Nat
  afterRun : Option Nat
  fanDelay : FanDelay
  dampers : PerDamper DamperRecord
  valve : Valve
  lowerHeater : DefrostHeater
  flexHeater : FlexHeater
  forced : Option Forced
  lastValidS : Nat
deriving DecidableEq, Repr, Inhabited

/-! ## Defrost manager (R126) -/

/-- The manager state (R126), in the order R174 codes it. -/
inductive ManagerState where
  | idle | due | running | exiting | holdoff
deriving DecidableEq, Repr, Inhabited

/-- The run kind (R126). -/
inductive RunKind where
  | automatic | manual
deriving DecidableEq, Repr, Inhabited

/-- The end cause of a measured step (R141), coded in the order that rule lists them. -/
inductive EndCause where
  | condition | timeout | time
deriving DecidableEq, Repr, Inhabited

/-- The outcome of a program (R142, R144, R145). -/
inductive ProgramOutcome where
  | completed | aborted | cancelled
deriving DecidableEq, Repr, Inhabited

/-- A measurement: elapsed seconds and end cause (R126). -/
structure Measurement where
  elapsed : Nat
  cause : EndCause
deriving DecidableEq, Repr, Inhabited

/-- The manager record (R126) but for its stored part. -/
structure Manager where
  state : ManagerState
  program : Option Nat
  kind : Option RunKind
  dueMoment : Option Nat
  deferralEnd : Option Nat
  waitStart : Option Nat
  releaseAsked : Bool
  step : Option Nat
  stepTimer : Option Nat
  holdoffEnd : Option Nat
  runMeasurement : Option Measurement
  lastMeasurement : Option (Nat × Measurement)
  lastOutcome : Option (Nat × ProgramOutcome × Nat)
deriving DecidableEq, Repr, Inhabited

/-- The stored part of the manager record (R126): frost accumulator, defrost interval, defrost age. -/
structure Accounting where
  accumulator : Nat
  interval : Nat
  age : Nat
deriving DecidableEq, Repr, Inhabited

/-! ## Request ports (R150) -/

/-- The statuses of R154. -/
inductive Status where
  | none | ok | okClamped | checkError | badLength | unknownCommand | denied | badArgument | busy | notRunning
  | invalidChain | starting
deriving DecidableEq, Repr, Inhabited

/-- The receive state of Port A and Port B (R150): the count of bytes received and the bytes kept, at most 24 (R151). -/
inductive I2cReceive where
  | idle
  | writing (count : Nat) (bytes : List Byte)
deriving DecidableEq, Repr, Inhabited

/-- The receive state of Port S (R150). -/
inductive SReceive where
  | hunt
  | length
  | body (expected : Nat) (bytes : List Byte)
deriving DecidableEq, Repr, Inhabited

/-- A response record (R157); its CRC is computed when it is read or sent. -/
structure Response where
  status : Status
  echo : Byte
  data : List Byte
deriving DecidableEq, Repr, Inhabited

/-- The port records (R150). lastByteS is the clock value of the last byte received on Port S. -/
structure Ports where
  rxA : I2cReceive
  rxB : I2cReceive
  rxS : SReceive
  lastByteS : Nat
  txS : List (List Byte)
  responses : PerPort Response
deriving DecidableEq, Repr, Inhabited

/-! ## Event unit (R163) -/

/-- The event set and enable mask of one port (R163); bit positions as in spec/11. -/
structure EventRecord where
  set : Word16
  mask : Word16
deriving DecidableEq, Repr, Inhabited

/-! ## Image store (R167) -/

/-- The image state (R167). -/
inductive ImageState where
  | builtIn | accepted
deriving DecidableEq, Repr, Inhabited

/-- The settings state (R167). -/
inductive SettingsState where
  | defaults | loaded
deriving DecidableEq, Repr, Inhabited

/-- The last failure (R167), absent being no constructor. -/
inductive StoreFailure where
  | loadImage | loadSettings | saveSettings | saveTables
deriving DecidableEq, Repr, Inhabited

/-- One page program: its address and bytes (R167). -/
structure Page where
  address : Nat
  bytes : List Byte
deriving DecidableEq, Repr, Inhabited

/-- A save in flight (R172): its kind, the page in progress and those after it, the time since the page program in units of
10 ms, the image version being written (R173) and the accounting being written (R172). -/
structure SaveJob where
  kind : SaveKind
  pages : List Page
  busy : Nat
  version : Nat
  accounting : Nat × Nat
deriving DecidableEq, Repr, Inhabited

/-- The image store's record (R167). The save state is IDLE exactly while job is absent. Timers are seconds left. sent holds the
operations of the memory that the part last sent, each framed by MCS low, in order (R167, R172; log entry 37). -/
structure StoreRecord where
  imageLoaded : Bool
  settingsLoaded : Bool
  imageState : ImageState
  imageVersion : Nat
  settingsState : SettingsState
  stored : Option (Nat × Nat)
  dirty : Bool
  quiet : Option Nat
  job : Option SaveJob
  settingsRetry : Option Nat
  tablesRetry : Option Nat
  settingsDue : Bool
  tablesDue : Bool
  lastFailure : Option StoreFailure
  hoursMarked : Nat
  sent : List (List Byte)
deriving DecidableEq, Repr, Inhabited

/-! ## The whole part -/

/-- The state of the part. -/
structure State where
  clock : Nat
  free : Nat
  pending : List Instr
  ready : Bool
  channels : PerChannel ChannelRecord
  zones : PerZone ZoneRecord
  window : DefrostWindow
  doors : PerDoor DoorRecord
  arb : Arbiter
  cyc : CycleRecord
  cap : CapRecord
  link : LinkRecord
  flt : DriveFaultRecord
  act : Actuators
  mgr : Manager
  acct : Accounting
  ports : Ports
  panel : PerZone Bool
  events : PerPort EventRecord
  store : StoreRecord
  tables : Tables
deriving DecidableEq, Repr, Inhabited

/-! ## Reset -/

/-- A channel record after device reset (R2). -/
def ChannelRecord.initial : ChannelRecord :=
  { state := .unseeded, lastCode := none, temperature := none, faultKind := .none, debounce := 0 }

/-- A zone record after device reset, with the preset and setpoint of its factory preset (R45; log entry 7). -/
def ZoneRecord.initial (z : Zone) : ZoneRecord :=
  let i := factoryPreset z
  let p := builtInTables.preset i
  { preset := i, kept := none, setpoint := p.defaultSetpoint, estimate := none, seeded := false, band := none, demand := .idle,
    heat := false, alarm := .none, alarmTimer := 0, boost := none, doorHold := none,
    mode := if p.disabled then .disabled else .normal, fallbackStart := none }

/-- A door record whose input is read LOW as the reset ends (R48). -/
def DoorRecord.initial : DoorRecord :=
  { raw := .low, run := none, openAge := none, longReported := false, lapsed := false, minutes := 0 }

/-- A path record after device reset (R80). -/
def PathRecord.initial : PathRecord := { blocked := false, fault := .none, count := 0, timer := none }

/-- The arbiter after device reset (R80). -/
def Arbiter.initial : Arbiter :=
  { queue := [], served := [], paths := { upper := .initial, lower := .initial }, turnPath := none, holdover := false,
    yieldDue := false, compressorHold := false }

/-- The cycle record after device reset: OFF, last stop and stop commanded since at start-up (R106). -/
def CycleRecord.initial : CycleRecord :=
  { state := .off, path := none, phase := none, runFlag := false, speed := 0, target := none, startWindow := none,
    startHold := none, transferTimer := none, turnTimer := none, onTimer := none, stopTimer := none, sinceUpdate := 0,
    turnMaxReported := false, minOnReported := false, runMinutes := 0, lastStop := 0, stopCommandedSince := 0 }

/-- The drive link record after device reset (R106). -/
def LinkRecord.initial : LinkRecord :=
  { state := .unknown, miss := 0, good := 0, lastStatus := none, window := none, sent := [], sentAt := 0 }

/-- The drive fault record after device reset (R106). -/
def DriveFaultRecord.initial : DriveFaultRecord :=
  { times := [], waitEnd := none, lockout := none, last := none, runaway := false, stall := 0 }

/-- A fan at rest (R125). -/
def FanRecord.initial : FanRecord := { duty := 0, tach := 0, spinUp := 0, low := 0, good := 0 }

/-- A damper that begins homing with its target closed (R115, R125). -/
def DamperRecord.initial : DamperRecord := { position := none, motion := .homing, target := 0, homed := 0 }

/-- The actuator block after device reset; the valve is driven toward UPPER for 2 s (R116, R125). -/
def Actuators.initial : Actuators :=
  { fans := { upper := .initial, lower := .initial, condenser := .initial }, condenserFault := .none, retry := none,
    runOn := none, afterRun := none, fanDelay := .disarmed,
    dampers := { flexLower := .initial, flexUpper := .initial, ice := .initial }, valve := .moving .upper 200 0,
    lowerHeater := { requested := false, output := false, onTime := 0, limited := false },
    flexHeater := { requested := false, output := false, onTime := 0, rest := none }, forced := none, lastValidS := 0 }

/-- The manager record after device reset (R126). -/
def Manager.initial : Manager :=
  { state := .idle, program := none, kind := none, dueMoment := none, deferralEnd := none, waitStart := none,
    releaseAsked := false, step := none, stepTimer := none, holdoffEnd := none, runMeasurement := none,
    lastMeasurement := none, lastOutcome := none }

/-- The stored part of the manager record without a settings record (R126). -/
def Accounting.initial : Accounting := { accumulator := 0, interval := 480, age := 0 }

/-- A response record before any request (R150). -/
def Response.initial : Response := { status := .none, echo := 0, data := [] }

/-- The port records after device reset (R150). -/
def Ports.initial : Ports :=
  { rxA := .idle, rxB := .idle, rxS := .hunt, lastByteS := 0, txS := [],
    responses := { s := .initial, a := .initial, b := .initial } }

/-- An event set after device reset is empty and its mask full (R163). -/
def EventRecord.initial : EventRecord := { set := 0, mask := 0xFFFF }

/-- The image store after device reset (R167). -/
def StoreRecord.initial : StoreRecord :=
  { imageLoaded := false, settingsLoaded := false, imageState := .builtIn, imageVersion := 0, settingsState := .defaults,
    stored := none, dirty := false, quiet := none, job := none, settingsRetry := none, tablesRetry := none,
    settingsDue := false, tablesDue := false, lastFailure := none, hoursMarked := 0, sent := [] }

/-- The part right after a device reset that reads every door input LOW (log entry 6). -/
def State.reset : State :=
  { clock := 0, free := 0, pending := [], ready := false,
    channels := ⟨.initial, .initial, .initial, .initial, .initial, .initial, .initial⟩,
    zones := { fresh := .initial .fresh, flex := .initial .flex, freezer := .initial .freezer, ice := .initial .ice },
    window := .closed,
    doors := { leftFresh := .initial, rightFresh := .initial, flexDrawer := .initial, freezerDrawer := .initial },
    arb := .initial, cyc := .initial, cap := { power := none, condenser := false }, link := .initial, flt := .initial,
    act := .initial, mgr := .initial, acct := .initial, ports := .initial,
    panel := { fresh := true, flex := true, freezer := true, ice := true },
    events := { s := .initial, a := .initial, b := .initial }, store := .initial, tables := builtInTables }

end Sys2Proof.Machine
end

