-- ==== Sys2Proof/Machine/Ops.lean ====
section
/-!
DEFINITION. The named operations the families share: time, clamping, bytes and CRCs, table look-up, and the plain reads of the
records (a door's state, a path's state, what bars a start).
-/
namespace Sys2Proof.Machine

/-! ## Time and numbers -/

/-- Now: whole seconds since the last device reset (spec/00 "Now"). -/
def State.now (s : State) : Nat := s.clock / 100

/-- Whole seconds of a time kept in units of 10 ms. -/
def seconds (ticks : Nat) : Nat := ticks / 100

/-- Clamp to lo..hi (spec/00 "Ranges"). -/
def clampInt (lo hi v : Int) : Int := if v < lo then lo else if hi < v then hi else v

/-- Clamp to lo..hi (spec/00 "Ranges"). -/
def clampNat (lo hi v : Nat) : Nat := if v < lo then lo else if hi < v then hi else v

/-- The lesser of a value and a bound that may be absent. -/
def boundedBy (bound : Option Nat) (v : Nat) : Nat :=
  match bound with
  | none => v
  | some b => min v b

/-- Round down to a multiple of 10 rpm (R92, R94, R104). -/
def downToTen (v : Nat) : Nat := v / 10 * 10

/-! ## Bytes (R174) -/

def byte (n : Nat) : Byte := BitVec.ofNat 8 n

/-- Two bytes, high byte first. -/
def be16 (n : Nat) : List Byte := [byte (n / 256), byte n]

/-- Four bytes, high byte first. -/
def be32 (n : Nat) : List Byte := [byte (n / 16777216), byte (n / 65536), byte (n / 256), byte n]

/-- Two-byte two's complement, high byte first. -/
def beInt16 (i : Int) : List Byte := be16 (BitVec.ofInt 16 i).toNat

/-- Byte k of an area; past its end 0xFF, as a memory that does not answer reads (R168). -/
def byteAt (l : List Byte) (k : Nat) : Nat := (l.getD k 0xFF).toNat

/-- The unsigned two-byte field at offset k. -/
def word16At (l : List Byte) (k : Nat) : Nat := byteAt l k * 256 + byteAt l (k + 1)

/-- The unsigned four-byte field at offset k. -/
def word32At (l : List Byte) (k : Nat) : Nat := word16At l k * 65536 + word16At l (k + 2)

/-- The signed two-byte field at offset k. -/
def int16At (l : List Byte) (k : Nat) : Int := (BitVec.ofNat 16 (word16At l k)).toInt

/-- The n bytes of an area from offset k, an absent byte reading 0xFF (R168). -/
def areaAt (l : List Byte) (k n : Nat) : List Byte := ((l.drop k) ++ List.replicate n 0xFF).take n

/-! ## Cyclic redundancy checks -/

/-- One shift of the CRC-8 with polynomial x^8 + x^2 + x + 1 (R153). -/
def crc8Shift (c : Byte) : Byte := if c.msb then (c <<< 1) ^^^ 0x07#8 else c <<< 1

/-- One byte into the CRC-8 (R153). -/
def crc8Byte (c b : Byte) : Byte :=
  crc8Shift (crc8Shift (crc8Shift (crc8Shift (crc8Shift (crc8Shift (crc8Shift (crc8Shift (c ^^^ b))))))))

/-- The CRC-8 of R153, initial value 0. -/
def crc8 (l : List Byte) : Byte := l.foldl crc8Byte 0

/-- One shift of the CRC-16 with polynomial 0x1021 (R168). -/
def crc16Shift (c : Word16) : Word16 := if c.msb then (c <<< 1) ^^^ 0x1021#16 else c <<< 1

/-- One byte into the CRC-16 (R168). -/
def crc16Byte (c : Word16) (b : Byte) : Word16 :=
  crc16Shift (crc16Shift (crc16Shift (crc16Shift (crc16Shift (crc16Shift (crc16Shift (crc16Shift
    (c ^^^ (b.setWidth 16 <<< 8)))))))))

/-- The CRC-16 of R168, initial value 0xFFFF. -/
def crc16 (l : List Byte) : Word16 := l.foldl crc16Byte 0xFFFF#16

/-! ## Plain reads of the records -/

/-- A door is OPEN while its open timer is present (R48). -/
def DoorRecord.isOpen (d : DoorRecord) : Bool := d.openAge.isSome

/-- The open timer of a door in whole seconds (R48). -/
def DoorRecord.openTimer (d : DoorRecord) : Option Nat := d.openAge.map seconds

/-- The debounced level of a door: LOW for CLOSED, HIGH for OPEN (R47). -/
def DoorRecord.debounced (d : DoorRecord) : PinLevel := if d.isOpen then .high else .low

/-- A door stops what it governs while it is OPEN and its inhibit has not lapsed (R52, R109, R114). -/
def DoorRecord.stopping (d : DoorRecord) : Bool := d.isOpen && !d.lapsed

/-- A fresh door is stopping the upper fan (R109). -/
def State.freshStopping (s : State) : Bool := s.doors.leftFresh.stopping || s.doors.rightFresh.stopping

/-- The reported temperature of a zone: floor((E + 8) / 16), absent while the estimate is absent (R26). -/
def ZoneRecord.reported (z : ZoneRecord) : Option Int := z.estimate.map fun e => Int.fdiv (e + 8) 16

/-- The zone's door is open while its door hold timer is present (R16). -/
def ZoneRecord.doorOpen (z : ZoneRecord) : Bool := z.doorHold.isSome

/-- The working table's entry for the preset a zone names. -/
def State.tablePreset (s : State) (z : Zone) : Preset := s.tables.preset (s.zones.get z).preset

/-- The preset a zone uses: the one of its last evaluation until the next one, where a table write came between (R19). -/
def State.presetOf (s : State) (z : Zone) : Preset :=
  match (s.zones.get z).kept with
  | some (p, _) => p
  | none => s.tablePreset z

/-- The ladder a zone uses, in the same way (R22). -/
def State.ladderOf (s : State) (z : Zone) : Ladder :=
  match (s.zones.get z).kept with
  | some (_, l) => l
  | none => s.tables.ladder (s.tablePreset z).ladder

/-- The state of a path (R56), in the order R174 codes it. -/
inductive PathState where
  | available | blocked | faulted | locked
deriving DecidableEq, Repr, Inhabited

/-- The path state formed from a path record (R56). -/
def PathRecord.state (r : PathRecord) : PathState :=
  if r.fault = .locked then .locked
  else if r.blocked then .blocked
  else if r.fault = .faulted then .faulted
  else .available

/-- A path is usable when its path state is AVAILABLE (R56). -/
def Arbiter.usable (a : Arbiter) (p : Path) : Bool := decide ((a.paths.get p).state = .available)

/-- Service hold is ON while forced values are present (R120). -/
def State.serviceHold (s : State) : Bool := s.act.forced.isSome

/-- A start is barred: the minimum off time is not over, the link is not UP, the fault wait has not ended, or the drive is
locked out (R89). -/
def State.startBarred (s : State) : Bool :=
  decide (s.now < s.cyc.lastStop + 180) || decide (s.link.state ≠ .up) || decide (s.now < s.flt.waitEnd.getD 0)
    || s.flt.lockout.isSome

/-- The cycle controller is current on a path in STARTING, RUNNING or TRANSFER with that path (R131). -/
def CycleRecord.currentOn (c : CycleRecord) (p : Path) : Bool :=
  (decide (c.state = .starting) || decide (c.state = .running) || decide (c.state = .transfer)) && decide (c.path = some p)

/-- The position the valve stands at or is moving toward (R65). -/
def Valve.heading : Valve → Path
  | .standing p => p
  | .moving p _ _ => p

/-- The valve stands at a position. -/
def Valve.standsAt (v : Valve) (p : Path) : Bool := decide (v = .standing p)

/-- The valve is MOVING toward a position. -/
def Valve.movingToward : Valve → Path → Bool
  | .standing _, _ => false
  | .moving q _ _, p => decide (q = p)

/-- The lower defrost heater is interlocked while the cycle is not OFF and the valve is at LOWER or moving (R117). -/
def State.interlocked (s : State) : Bool := decide (s.cyc.state ≠ .off) && !s.act.valve.standsAt .upper

/-- The program of the manager record, while one is named. -/
def State.programRecord (s : State) : Option Program := s.mgr.program.map s.tables.program

/-- A program runs, its exit chain included (R133). -/
def Manager.inProgram (m : Manager) : Bool := decide (m.state = .running) || decide (m.state = .exiting)

/-- The program that runs, if one does. -/
def State.runningProgram (s : State) : Option Program := if s.mgr.inProgram then s.programRecord else none

/-- The step that runs, if one does. -/
def State.runningStep (s : State) : Option Step := if s.mgr.inProgram then s.mgr.step.map s.tables.step else none

/-- No save is in flight (R167). -/
def StoreRecord.saveIdle (r : StoreRecord) : Bool := r.job.isNone

/-- A dirty mark sets the dirty flag and restarts the quiet timer at 30 s (R171). -/
def State.markDirty (s : State) : State := { s with store := { s.store with dirty := true, quiet := some 30 } }

end Sys2Proof.Machine

namespace Sys2Proof

/-- The access level fixed to a port (R150). -/
def Port.level : Port → Nat
  | .s => 0
  | .a => 1
  | .b => 2

/-- The port an I2C bus belongs to. -/
def I2cPort.port : I2cPort → Port
  | .a => .a
  | .b => .b

/-- The path that is not this one. -/
def Path.other : Path → Path
  | .upper => .lower
  | .lower => .upper

/-- The air channel of a zone (spec/01 "Channel Assignment"). -/
def Zone.channel : Zone → Channel
  | .fresh => .ch0
  | .flex => .ch1
  | .freezer => .ch2
  | .ice => .ch3

/-- The doors a zone belongs to (R16). -/
def Zone.doors : Zone → List Door
  | .fresh => [.leftFresh, .rightFresh]
  | .flex => [.flexDrawer]
  | .freezer => [.freezerDrawer]
  | .ice => [.leftFresh]

/-- The evaporator fan of a path (R57). -/
def Path.fan : Path → Fan
  | .upper => .upper
  | .lower => .lower

end Sys2Proof
end

