-- ==== Sys2Proof/Machine/Flags.lean ====
section
/-!
DEFINITION. The event unit: the sixteen event kinds, the event set and enable mask of each port, raising, acknowledging and masking,
and the attention lines (R163 to R166).
-/
namespace Sys2Proof.Machine

/-- The event kinds, in the order of their bit positions (spec/11 "Commands"). -/
inductive EventKind where
  | zoneAlarm | sensor | doorLong | defrostBegin | defrostEnd | programStep | stepTimeout | heaterLimit | driveFault
  | driveLost | driveLockout | fanFault | boostEnd | settingsChanged | store | serviceHoldEnd
deriving DecidableEq, Repr, Inhabited

/-- The bit of a kind in every event set and mask (spec/11 "Commands"). -/
def EventKind.bit : EventKind → Nat
  | .zoneAlarm => 0
  | .sensor => 1
  | .doorLong => 2
  | .defrostBegin => 3
  | .defrostEnd => 4
  | .programStep => 5
  | .stepTimeout => 6
  | .heaterLimit => 7
  | .driveFault => 8
  | .driveLost => 9
  | .driveLockout => 10
  | .fanFault => 11
  | .boostEnd => 12
  | .settingsChanged => 13
  | .store => 14
  | .serviceHoldEnd => 15

/-- A set holds a kind. -/
def holdsKind (w : Word16) (k : EventKind) : Bool := w.getLsbD k.bit

/-- A set with one kind added. -/
def withKind (w : Word16) (k : EventKind) : Word16 := w ||| BitVec.twoPow 16 k.bit

/-- Add a kind to the event set of one port; its mask is not consulted (R163). -/
def EventRecord.add (r : EventRecord) (k : EventKind) : EventRecord := { r with set := withKind r.set k }

/-- A block raises a kind: every port's set takes it (R163). -/
def State.raise (s : State) (k : EventKind) : State := { s with events := s.events.map (·.add k) }

/-- A block raises several kinds. -/
def State.raiseAll (s : State) (ks : List EventKind) : State := ks.foldl State.raise s

/-- SETTINGS_CHANGED goes to the two ports other than the one whose request made the change (R43, R163). -/
def State.raiseSettingsChanged (s : State) (p : Port) : State :=
  { s with events := (s.events.map (·.add .settingsChanged)).set p (s.events.get p) }

/-- ACK_EVENTS removes the named kinds from the port's own set (R164). -/
def State.acknowledge (s : State) (p : Port) (kinds : Word16) : State :=
  let r := s.events.get p
  { s with events := s.events.set p { r with set := r.set &&& ~~~kinds } }

/-- SET_EVENT_MASK replaces the port's own mask (R165). -/
def State.setMask (s : State) (p : Port) (mask : Word16) : State :=
  let r := s.events.get p
  { s with events := s.events.set p { r with mask := mask } }

/-- An attention line is asserted exactly when its port's set and mask share a kind (R166). -/
def State.attn (s : State) (p : I2cPort) : Bool :=
  let r := s.events.get p.port
  decide (r.set &&& r.mask ≠ 0)

end Sys2Proof.Machine
end

