-- ==== Sys2Proof/Machine/Sensing.lean ====
section
/-!
DEFINITION. The sensor front end: classification and conversion of a sample, the channel record, the channel report (R1 to R14).
-/
namespace Sys2Proof.Machine

/-- The class of a sample (R3). -/
inductive SampleClass where
  | short | openLead | inRange
deriving DecidableEq, Repr

/-- Classification depends on the code alone (R3). -/
def classify (code : Nat) : SampleClass :=
  if code ≤ 15 then .short else if 4080 ≤ code then .openLead else .inRange

/-- The fault kind a class gives (R9); an in-range sample gives none. -/
def SampleClass.faultKind : SampleClass → FaultKind
  | .short => .short
  | .openLead => .openLead
  | .inRange => .none

/-- Point k of a conversion table. -/
def convPoint (t : List Int) (k : Nat) : Int := t.getD k 0

/-- Conversion of an in-range code, the quotient rounded toward minus infinity, clamped to -500..700 (R4). -/
def convert (t : List Int) (code : Nat) : Int :=
  let k := code / 256
  let r : Int := ((code % 256 : Nat) : Int)
  clampInt (-500) 700 (convPoint t k + Int.fdiv ((convPoint t (k + 1) - convPoint t k) * r) 256)

/-- The channel record after a completion (R8, R9, R10). -/
def sampleRecord (t : List Int) (code : Nat) (r : ChannelRecord) : ChannelRecord :=
  let r := { r with lastCode := some code }
  match r.state, classify code with
  | .fault, .inRange =>
    if r.debounce < 2 then { r with debounce := r.debounce + 1 }
    else { r with state := .ok, temperature := some (convert t code), faultKind := .none, debounce := 0 }
  | .fault, c => { r with faultKind := c.faultKind, debounce := 0 }
  | _, .inRange => { r with state := .ok, temperature := some (convert t code), debounce := 0 }
  | _, c =>
    if r.debounce < 2 then { r with debounce := r.debounce + 1 }
    else { r with state := .fault, faultKind := c.faultKind, debounce := 0 }

/-- The mark of a report's temperature (R12). -/
inductive Mark where
  | current | held | stale
deriving DecidableEq, Repr

/-- A channel report (R12): the channel, its state after the completion, the temperature with its mark, and the state before a
completion that changed the state. -/
structure Report where
  channel : Channel
  state : ChannelState
  temperature : Option (Int × Mark)
  changedFrom : Option ChannelState
deriving DecidableEq, Repr

/-- The completion put the channel into FAULT (R12). -/
def Report.enteredFault (r : Report) : Bool := decide (r.state = .fault) && r.changedFrom.isSome

/-- The report of a completion, from the record before and after it (R12). -/
def makeReport (ch : Channel) (code : Nat) (before after : ChannelRecord) : Report :=
  let mark : Mark :=
    if after.state = .fault then .stale
    else if classify code = .inRange then .current
    else .held
  { channel := ch, state := after.state,
    temperature := after.temperature.map fun t => (t, mark),
    changedFrom := if before.state = after.state then none else some before.state }

/-- The temperature of a report marked current or held: what the thresholds of R110, R111 and R140 test. -/
def Report.trusted (r : Report) : Option Int :=
  match r.temperature with
  | some (t, .current) => some t
  | some (t, .held) => some t
  | some (_, .stale) => none
  | none => none

/-- SENSOR is raised at each entry to FAULT and each return from it, and at no other transition (R11). -/
def sensorEvents (before after : ChannelRecord) : List EventKind :=
  if decide (before.state = .fault) = decide (after.state = .fault) then [] else [.sensor]

/-- The channel that ends a program's EVAP steps (R140). -/
def evaporatorChannel : Path → Channel
  | .upper => .ch4
  | .lower => .ch5

/-- Every air channel has completed a sample since device reset (R14). -/
def State.airSampled (s : State) : Bool :=
  s.channels.ch0.lastCode.isSome && s.channels.ch1.lastCode.isSome && s.channels.ch2.lastCode.isSome
    && s.channels.ch3.lastCode.isSome

/-- The ambient temperature the speed calculation uses: the latest report of CH6 marked current or held (R91). -/
def State.ambient (s : State) : Option Int :=
  if s.channels.ch6.state = .ok then s.channels.ch6.temperature else none

end Sys2Proof.Machine
end

