-- ==== Sys2Proof/Machine/Actuators.lean ====
section
/-!
DEFINITION. The actuator block: what each output follows, the recomputation of every output at the end of an event, the valve's
requests, the fans' supervision, dampers and heaters (R108 to R123).
-/
namespace Sys2Proof.Machine

/-! ## What each output follows -/

/-- The step that a running program on this path runs: the path's actuators follow it (R109, R111, R117). -/
def State.stepOn (s : State) (p : Path) : Option Step :=
  match s.runningProgram with
  | none => none
  | some g => if g.path = p then s.runningStep else none

/-- The upper fan's duty (R109, R113): forced under service hold, held off in TRANSFER and while UPPER is faulted or locked. -/
def State.upperDuty (s : State) : Nat :=
  match s.act.forced with
  | some f => f.fans.upper
  | none =>
    if s.cyc.state = .transfer ∨ s.arb.paths.upper.fault ≠ .none then 0
    else
      match s.stepOn .upper with
      | some st => if st.upperFan && !s.freshStopping then 70 else 0
      | none =>
        if (s.cyc.state = .running ∧ s.cyc.path = some .upper ∧ s.freshStopping = false) ∨ s.act.afterRun.isSome then 70
        else 0

/-- The lower fan's duty (R111, R113). -/
def State.lowerDuty (s : State) : Nat :=
  match s.act.forced with
  | some f => f.fans.lower
  | none =>
    if s.cyc.state = .transfer ∨ s.arb.paths.lower.fault ≠ .none ∨ s.doors.freezerDrawer.stopping = true then 0
    else
      match s.stepOn .lower with
      | some st => if st.lowerFan then 80 else 0
      | none =>
        if s.cyc.state = .running ∧ s.cyc.path = some .lower ∧ s.act.fanDelay ≠ .active then 80 else 0

/-- The condenser fan's duty (R112): 100 % while the cycle is not OFF and for 60 s after it; a forced duty never lowers it. -/
def State.condenserDuty (s : State) : Nat :=
  let need := if s.cyc.state ≠ .off ∨ s.act.runOn.isSome then 100 else 0
  match s.act.forced with
  | some f => max f.fans.condenser need
  | none => need

/-- A zone is in the served set. -/
def Arbiter.serves (a : Arbiter) (z : Zone) : Bool := a.served.any fun e => e.zone = z

/-- Whether a damper's target is open (R114). -/
def State.damperOpen (s : State) (d : Damper) : Bool :=
  match s.act.forced with
  | some f => f.dampers.get d
  | none =>
    match d with
    | .flexLower => s.arb.serves .flex && decide (s.arb.turnPath = some .lower) && !s.doors.flexDrawer.stopping
    | .flexUpper => s.arb.serves .flex && decide (s.arb.turnPath = some .upper) && !s.doors.flexDrawer.stopping
    | .ice => s.arb.serves .ice && !s.doors.leftFresh.stopping

/-- The request of the lower defrost heater (R117). -/
def State.lowerHeaterRequest (s : State) : Bool :=
  match s.act.forced with
  | some f => f.lowerHeater
  | none =>
    match s.stepOn .lower with
    | some st => st.heater
    | none => false

/-- The request of the flex heater (R119); a lapsed flex drawer does not count as closed. -/
def State.flexHeaterRequest (s : State) : Bool :=
  match s.act.forced with
  | some f => f.flexHeater
  | none => s.zones.flex.heat && !s.doors.flexDrawer.isOpen

/-! ## Taking the new values -/

/-- A fan takes a duty: a fall to 0 clears its counts, a change between two duties above 0 restarts its spin-up (R108). -/
def FanRecord.drive (f : FanRecord) (duty : Nat) : FanRecord :=
  if duty = f.duty then f
  else if duty = 0 then { f with duty := 0, spinUp := 0, low := 0, good := 0 }
  else { f with duty := duty, spinUp := 0 }

/-- A damper takes a target (R115): during homing it is recorded; otherwise a target away from the position starts or turns a
move at once. -/
def DamperRecord.aim (r : DamperRecord) (target : Nat) : DamperRecord :=
  if target = r.target then r
  else if r.motion = .homing then { r with target := target }
  else if r.position = some target then { r with target := target, motion := .idle }
  else { r with target := target, motion := .moving }

/-- The lower defrost heater takes its request: on while requested, not interlocked and not limited; the on-time returns to 0
whenever the output is off (R117, R118). -/
def DefrostHeater.follow (h : DefrostHeater) (request interlocked : Bool) : DefrostHeater :=
  let on := request && !interlocked && !h.limited
  { h with requested := request, output := on, onTime := if on then h.onTime else 0 }

/-- The flex heater takes its request: on while requested and not resting (R119). -/
def FlexHeater.follow (h : FlexHeater) (request : Bool) : FlexHeater :=
  let on := request && h.rest.isNone
  { h with requested := request, output := on, onTime := if on then h.onTime else 0 }

/-- A damper's target position: 400 open, 0 closed (R115). -/
def damperTarget (open_ : Bool) : Nat := if open_ then 400 else 0

/-- Every output recomputed from the state (spec/06: each output is recomputed whenever one of its inputs changes). -/
def State.settledActuators (s : State) : Actuators :=
  { s.act with
    fans := { upper := s.act.fans.upper.drive s.upperDuty, lower := s.act.fans.lower.drive s.lowerDuty,
              condenser := s.act.fans.condenser.drive s.condenserDuty },
    dampers := { flexLower := s.act.dampers.flexLower.aim (damperTarget (s.damperOpen .flexLower)),
                 flexUpper := s.act.dampers.flexUpper.aim (damperTarget (s.damperOpen .flexUpper)),
                 ice := s.act.dampers.ice.aim (damperTarget (s.damperOpen .ice)) },
    lowerHeater := s.act.lowerHeater.follow s.lowerHeaterRequest s.interlocked,
    flexHeater := s.act.flexHeater.follow s.flexHeaterRequest }

/-- The end of an event: the outputs take the values that the state as it now stands gives them (log entry 18). -/
def State.settle (s : State) : State := { s with act := s.settledActuators }

/-! ## The valve (R116) -/

/-- A request to the valve: nothing where it stands there or moves there; from the other position a move of 2 s; against a move
under way a reversal that takes the time already spent. -/
def Valve.request (v : Valve) (p : Path) : Valve :=
  match v with
  | .standing q => if q = p then v else .moving p 200 0
  | .moving q _ spent => if q = p then v else .moving p spent 0

/-- A request of the cycle controller or of a forced output (R116). -/
def State.requestValve (s : State) (p : Path) : State := { s with act := { s.act with valve := s.act.valve.request p } }

/-- A move that is not superseded has taken its travel time (R116). -/
def Valve.arrived : Valve → Option Path
  | .standing _ => none
  | .moving p duration spent => if duration ≤ spent then some p else none

/-! ## Fan supervision (R108) -/

/-- Full-speed tach values (R108). -/
def fullSpeed : Fan → Nat
  | .upper => 2000
  | .lower => 2400
  | .condenser => 1600

/-- The expected speed of a fan, truncated (R108). -/
def expectedSpeed (f : Fan) (duty : Nat) : Nat := fullSpeed f * duty / 100

/-- A reading is below half the expected speed (R108). -/
def lowReading (f : Fan) (duty rpm : Nat) : Bool := decide (2 * rpm < expectedSpeed f duty)

/-- A reading is supervised from the sixth on, and for the condenser fan not while it is FAULTED (R108, R112). -/
def State.supervised (s : State) (f : Fan) : Bool :=
  decide (5 ≤ (s.act.fans.get f).spinUp)
    && !(decide (f = .condenser) && decide (s.act.condenserFault = .faulted))

/-- The fan record after a reading (R108): while the spin-up lasts only its count advances; a supervised reading moves the low
count and the good timer; a low count of 10 returns to 0 as the fan faults. -/
def FanRecord.read (r : FanRecord) (f : Fan) (rpm : Nat) (watch : Bool) : FanRecord :=
  let r1 := { r with tach := rpm }
  if r.spinUp < 5 then { r1 with spinUp := r.spinUp + 1 }
  else if !watch then r1
  else if lowReading f r.duty rpm then { r1 with low := if 9 ≤ r.low then 0 else r.low + 1, good := 0 }
  else { r1 with low := 0, good := if r.good < 300 then r.good + 1 else r.good }

/-- The reading makes the fan fault: the tenth consecutive supervised low reading (R108). -/
def faultReading (r : FanRecord) (f : Fan) (rpm : Nat) (watch : Bool) : Bool :=
  decide (5 ≤ r.spinUp) && watch && lowReading f r.duty rpm && decide (9 ≤ r.low)

/-- The reading brings the good timer to a value (R112, R113). -/
def goodReaches (n : Nat) (before after : FanRecord) : Bool := decide (before.good < n) && decide (n ≤ after.good)

/-! ## After-run and fan delay -/

/-- The after-run ends (R110). -/
def State.endAfterRun (s : State) : State := { s with act := { s.act with afterRun := none } }

/-- The fan delay ends, which disarms it (R111). -/
def State.endFanDelay (s : State) : State := { s with act := { s.act with fanDelay := .disarmed } }

/-- The limit of the after-run: 600 s while CH4 is in OK, 300 s in UNSEEDED or FAULT (R110). -/
def State.afterRunLimit (s : State) : Nat := if s.channels.ch4.state = .ok then 600 else 300

/-- What the actuator block does with an evaporator report (R110, R111). -/
def State.evaporatorReport (s : State) (r : Report) : State :=
  match r.channel with
  | .ch4 =>
    let warm := match r.trusted with
      | some t => decide (10 ≤ t)
      | none => false
    let late := r.enteredFault && decide (300 ≤ s.act.afterRun.getD 0)
    if warm || late then s.endAfterRun else s
  | .ch5 =>
    let cold := match r.trusted with
      | some t => decide (t < -50)
      | none => false
    if cold && decide (s.act.fanDelay = .active) then s.endFanDelay else s
  | _ => s

end Sys2Proof.Machine
end

