-- ==== Sys2Proof/Machine/Cycle.lean ====
section
/-!
DEFINITION. The cycle controller: its orders (start, transfer, stop), its entries to OFF and RUNNING, the speed calculation, the
caps, and the records of the drive link and of drive faults (R82 to R107). What it reports to the arbiter and the manager is
added in Machine/Arbiter.lean and Machine/Defrost.lean.
-/
namespace Sys2Proof.Machine

/-! ## Caps and set speeds -/

/-- A speed bounded by the power cap, when one is present, and by 2400 rpm when the condenser cap is set (R84, R86, R92, R93). -/
def CapRecord.bound (c : CapRecord) (v : Nat) : Nat :=
  boundedBy (c.power.map (·.rpm)) (if c.condenser then min v 2400 else v)

/-- The start speed (R84). -/
def State.startSpeed (s : State) : Nat := s.cap.bound 2000

/-- The transfer speed (R86). -/
def State.transferSpeed (s : State) : Nat := s.cap.bound 1800

/-- The commanded speed of a forced run (R104). -/
def State.forcedRunSpeed (s : State) (forced : Nat) : Nat := downToTen (s.cap.bound forced)

/-! ## Entries and orders -/

/-- Leaving RUNNING: on UPPER the after-run begins unless a fresh door stops the fan or service hold is in force (R110); on LOWER
an active fan delay ends with the turn (R111), at a cooling restart too (log entry 34). -/
def State.leaveRunning (s : State) : State :=
  if s.cyc.state = .running then
    { s with
      act := { s.act with
        afterRun :=
          if s.cyc.path = some .upper ∧ s.freshStopping = false ∧ s.serviceHold = false then some 0 else s.act.afterRun,
        fanDelay :=
          if s.cyc.path = some .lower ∧ s.act.fanDelay = .active then .disarmed else s.act.fanDelay } }
  else s

/-- The cycle record with every field absent that STOPPING and OFF leave absent (R88, R99). -/
def CycleRecord.atRest (c : CycleRecord) (st : CycleState) : CycleRecord :=
  { c with
    state := st, path := none, phase := none, runFlag := false, speed := 0, target := none, startWindow := none,
    startHold := none, transferTimer := none, turnTimer := none, onTimer := none, stopTimer := none, sinceUpdate := 0,
    turnMaxReported := false, minOnReported := false, runMinutes := 0 }

/-- The stall count returns to 0 on leaving RUNNING and TRANSFER (R101). -/
def State.clearStall (s : State) : State := { s with flt := { s.flt with stall := 0 } }

/-- A stop order in STARTING, RUNNING or TRANSFER enters STOPPING; in OFF and STOPPING it has no effect (R88). -/
def State.stopOrder (s : State) : State :=
  if s.cyc.state = .off ∨ s.cyc.state = .stopping then s
  else
    let t := s.leaveRunning.clearStall
    { t with
      cyc := { s.cyc.atRest .stopping with
        stopTimer := some 0,
        stopCommandedSince := if s.cyc.runFlag then s.now else s.cyc.stopCommandedSince } }

/-- Entry to OFF; the condenser fan's 60 s begin (R88, R99, R112). -/
def State.enterOff (s : State) : State :=
  let t := s.leaveRunning.clearStall
  { t with cyc := s.cyc.atRest .off, act := { t.act with runOn := some 60 } }

/-- Last stop becomes now (R88, R99, R102). -/
def State.markStopped (s : State) : State := { s with cyc := { s.cyc with lastStop := s.now } }

/-- Stop commanded since becomes now (R99, R102). -/
def State.markStopCommanded (s : State) : State := { s with cyc := { s.cyc with stopCommandedSince := s.now } }

/-- The RUN phase of STARTING begins with a speed; the run flag becomes 1, so runaway reported becomes no (R84, R101). -/
def State.enterRunPhase (s : State) (speed : Nat) : State :=
  { s with
    cyc := { s.cyc with phase := some .run, runFlag := true, speed := speed, startWindow := none },
    flt := { s.flt with runaway := false } }

/-- Entry to STARTING: a run-on under way needs no count any more (R112). -/
def State.enterStarting (s : State) (path : Option Path) (phase : StartPhase) : State :=
  { s with cyc := { s.cyc.atRest .starting with path := path, phase := some phase }, act := { s.act with runOn := none } }

/-- A start order on a path finds the controller in OFF (R83). -/
def State.startOrder (s : State) (p : Path) : State :=
  let t := s.enterStarting (some p) .valve
  if s.act.valve.standsAt p then t.enterRunPhase s.startSpeed else t.requestValve p

/-- A transfer order toward a path, from RUNNING or turned back in TRANSFER (R86, R87). -/
def State.transferOrder (s : State) (q : Path) : State :=
  let t := s.leaveRunning
  let u : State := { t with
    cyc := { t.cyc with
      state := .transfer, path := some q, transferTimer := some 0, turnTimer := none, startHold := none, target := none,
      speed := s.transferSpeed, sinceUpdate := 0, turnMaxReported := false, runMinutes := 0 } }
  u.requestValve q

/-- What the actuator block does at an entry to RUNNING on a path: on UPPER the after-run ends (R110), on LOWER an armed fan
delay becomes active (R111). -/
def Actuators.onRunning (a : Actuators) : Option Path → Actuators
  | some .upper => { a with afterRun := none }
  | some .lower => { a with fanDelay := if a.fanDelay = .armed then .active else a.fanDelay }
  | none => a

/-- The end of STARTING: RUNNING with turn timer, on timer and start hold at 0; under service hold, without them (R84, R104). -/
def State.enterRunningFromStart (s : State) : State :=
  let timer : Option Nat := if s.cyc.path.isSome then some 0 else none
  { s with
    cyc := { s.cyc with
      state := .running, phase := none, startWindow := none, target := none, turnTimer := timer, onTimer := timer,
      startHold := timer, sinceUpdate := 0, turnMaxReported := false, minOnReported := false, runMinutes := 0 },
    act := s.act.onRunning s.cyc.path }

/-- The end of TRANSFER: RUNNING on the target path with the turn timer at 0, no start hold, the on timer running on (R86). -/
def State.enterRunningFromTransfer (s : State) : State :=
  { s with
    cyc := { s.cyc with
      state := .running, transferTimer := none, turnTimer := some 0, startHold := none, target := none, sinceUpdate := 0,
      turnMaxReported := false, runMinutes := 0 },
    act := s.act.onRunning s.cyc.path }

/-- The transfer timer has reached 20 s with the valve at the target (R86). -/
def State.transferDone (s : State) : Bool :=
  match s.cyc.state, s.cyc.path with
  | .transfer, some q => decide (20 ≤ s.cyc.transferTimer.getD 0) && s.act.valve.standsAt q
  | _, _ => false

/-! ## Speed (R90 to R93) -/

/-- The weight of a served entry (R91). -/
def CallLevel.weight : CallLevel → Int
  | .one => 300
  | .two => 700
  | .three => 1200

/-- The base speed of a path (R91). -/
def baseSpeed : Path → Int
  | .upper => 1600
  | .lower => 2000

/-- The ambient term (R91): the quotient rounded toward zero, then clamped; 0 without a trusted ambient temperature. -/
def ambientTerm (gain : Nat) : Option Int → Int
  | none => 0
  | some ta => clampInt (-400) 800 (Int.tdiv ((ta - 250) * (gain : Int)) 10)

/-- The weights of the served set together (R91). -/
def servedWeight (l : List Entry) : Int := l.foldl (fun acc e => acc + e.level.weight) 0

/-- The raw speed (R91): under holdover the minimum speed. -/
def State.rawSpeed (s : State) : Int :=
  if s.arb.holdover then 1200
  else
    match s.cyc.path with
    | none => 1200
    | some p => baseSpeed p + servedWeight s.arb.served + ambientTerm s.tables.ambientGain s.ambient

/-- The target speed (R92, steps 1 to 3). -/
def State.targetSpeed (s : State) : Nat := downToTen (s.cap.bound (clampInt 1200 4500 s.rawSpeed).toNat)

/-- The slew toward a target: at most 200 rpm (R92, step 4). -/
def slew (speed target : Nat) : Nat :=
  if speed ≤ target then min target (speed + 200) else max target (speed - 200)

/-- A speed update (R92). -/
def State.updateSpeed (s : State) : State :=
  { s with
    cyc := { s.cyc with
      target := some s.targetSpeed, speed := slew s.cyc.speed s.targetSpeed, startHold := none, sinceUpdate := 0 } }

/-- The run flag is 1 exactly in STARTING's RUN phase, RUNNING and TRANSFER (R97); there a cap acts at once (R93). The target
is lowered to the bound too where the commanded speed lies at or below every cap (log entry 41). -/
def State.applyCaps (s : State) : State :=
  if s.cyc.runFlag then
    match s.act.forced with
    | some f =>
      if s.cyc.path = none then { s with cyc := { s.cyc with speed := s.forcedRunSpeed f.speed } }
      else { s with cyc := { s.cyc with speed := s.cap.bound s.cyc.speed, target := s.cyc.target.map s.cap.bound } }
    | none => { s with cyc := { s.cyc with speed := s.cap.bound s.cyc.speed, target := s.cyc.target.map s.cap.bound } }
  else s

/-- A cap is lifted (expiry, cancel, condenser clearing): the commanded speed stands until the next update (R95), but a forced
run takes its new bound at once (R104). -/
def State.capLifted (s : State) : State :=
  if s.cyc.runFlag then
    match s.act.forced with
    | some f => if s.cyc.path = none then { s with cyc := { s.cyc with speed := s.forcedRunSpeed f.speed } } else s
    | none => s
  else s

/-- The power cap is set, replaced or removed (R94, R95). -/
def State.setPowerCap (s : State) (c : Option PowerCap) : State := { s with cap := { s.cap with power := c } }

/-- The condenser cap becomes set: a cap arrival; set already, nothing changes (R96). -/
def State.setCondenserCap (s : State) : State :=
  if s.cap.condenser then s else State.applyCaps { s with cap := { s.cap with condenser := true } }

/-- The condenser cap is cleared (R96). -/
def State.clearCondenserCap (s : State) : State :=
  if s.cap.condenser then State.capLifted { s with cap := { s.cap with condenser := false } } else s

/-! ## The drive link (R97 to R100) -/

/-- The DRIVE_COMMAND frame: 0xD1, run flag, speed in units of 10 rpm, check byte (R97, spec/11). -/
def CycleRecord.commandFrame (c : CycleRecord) : List Byte :=
  let inner := [byte (if c.runFlag then 1 else 0)] ++ be16 (c.speed / 10)
  [0xD1#8] ++ inner ++ [crc8 inner]

/-- The drive state of a DRIVE_STATUS byte (spec/11). -/
def driveStateOf (n : Nat) : Option DriveState :=
  match n with
  | 0 => some .stopped
  | 1 => some .running
  | 2 => some .fault
  | _ => none

/-- A valid DRIVE_STATUS: a whole frame of 6 bytes with its check byte right and its fields in range (R98, spec/11). How the bytes of
an answer window are cut into answers the spec leaves open: each operand is one answer (log entry 32). -/
def readDriveStatus (l : List Byte) : Option DriveReply :=
  match l with
  | [h, st, hi, lo, code, chk] =>
    if h = 0xD2#8 ∧ chk = crc8 [st, hi, lo, code] then
      match driveStateOf st.toNat with
      | none => none
      | some d =>
        let units := hi.toNat * 256 + lo.toNat
        if units ≤ 450 ∧ code.toNat ≤ 15 then some { state := d, units := units, code := code.toNat } else none
    else none
  | _ => none

/-- The link record after a valid reply; the window closes (R98, R99). -/
def LinkRecord.reply (l : LinkRecord) (r : DriveReply) : LinkRecord :=
  let l := { l with lastStatus := some r, window := none }
  match l.state with
  | .up => { l with miss := 0 }
  | .unknown =>
    if 2 ≤ l.good then { l with state := .up, miss := 0, good := 0 } else { l with miss := 0, good := l.good + 1 }
  | .lost => if 2 ≤ l.good then { l with state := .up, good := 0 } else { l with good := l.good + 1 }

/-- The link record after a miss; the window closes (R98, R99). -/
def LinkRecord.missed (l : LinkRecord) : LinkRecord :=
  let l := { l with window := none }
  match l.state with
  | .up => if 4 ≤ l.miss then { l with state := .lost, miss := 0 } else { l with miss := l.miss + 1 }
  | .unknown =>
    if 4 ≤ l.miss then { l with state := .lost, miss := 0, good := 0 } else { l with good := 0, miss := l.miss + 1 }
  | .lost => { l with good := 0 }

/-! ## Drive faults (R101 to R103) -/

/-- The fault list and lockout after a drive fault at time t (R103). -/
def DriveFaultRecord.enter (r : DriveFaultRecord) (t : Nat) : DriveFaultRecord :=
  if r.lockout.isSome then r
  else if r.times.length < 3 then { r with times := r.times ++ [t] }
  else if t < r.times.headD 0 + 3600 then { r with lockout := some t }
  else { r with times := r.times.drop 1 ++ [t] }

/-- The fault declared by a valid reply, if one is (R101): from the reply, the last status and link state before it, and the
record. A RUNNING reply with the run flag 0 is a runaway by the condition of R101's bullet in STOPPING too, whatever the stop timer
(log entry 38). -/
def replyFault (s : State) (before : LinkRecord) (r : DriveReply) : Option (DriveFaultCause × Nat) :=
  match r.state with
  | .fault =>
    let news := match before.lastStatus with
      | none => true
      | some q => decide (q.state ≠ .fault)
    if news || decide (before.state = .lost) then some (.reported, r.code) else none
  | .running =>
    if s.cyc.runFlag = false ∧ s.cyc.stopCommandedSince + 10 < s.now ∧ s.flt.runaway = false then some (.runaway, 0)
    else none
  | .stopped =>
    if (s.cyc.state = .running ∨ s.cyc.state = .transfer) ∧ 9 ≤ s.flt.stall then some (.stall, 0) else none

/-- The runaway mark and the stall count after a valid reply (R101). -/
def State.countReply (s : State) (r : DriveReply) (fault : Option (DriveFaultCause × Nat)) : State :=
  let runaway := match r.state with
    | .stopped => false
    | .running => s.flt.runaway || decide (fault.map (·.1) = some .runaway)
    | .fault => s.flt.runaway
  let stall :=
    if r.state = .stopped ∧ (s.cyc.state = .running ∨ s.cyc.state = .transfer) ∧ fault = none then s.flt.stall + 1 else 0
  { s with flt := { s.flt with runaway := runaway, stall := stall } }

end Sys2Proof.Machine
end

