-- ==== Sys2Proof/Machine/Arbiter.lean ====
section
/-!
DEFINITION. The demand arbiter: candidates and selection, joins, leaves and level updates, starts, transfers, holdover, yield, release,
path faults, drive failures and service hold (R56 to R81), and the cycle controller's reports that it acts on. What the defrost
manager does at a hand-over of the cycle state is added in Machine/Defrost.lean.
-/
namespace Sys2Proof.Machine

/-! ## Candidates and selection (R64, R65) -/

/-- A path on which an entry can be served that is usable and not the current turn path (R64). -/
def Arbiter.eligible (a : Arbiter) (e : Entry) (p : Path) : Bool :=
  e.pathSet.contains p && a.usable p && decide (a.turnPath ≠ some p)

/-- A candidate (R64). -/
def Arbiter.isCandidate (a : Arbiter) (e : Entry) : Bool := a.eligible e .upper || a.eligible e .lower

/-- The oldest candidate: the one nearest the front of the queue (R64). -/
def Arbiter.oldestCandidate (a : Arbiter) : Option Entry := a.queue.find? a.isCandidate

/-- Selection, step 1: the path the oldest candidate decides; with both eligible the valve's position (R65). -/
def Arbiter.choosePath (a : Arbiter) (valve : Valve) (e : Entry) : Path :=
  if a.eligible e .upper then
    if a.eligible e .lower then valve.heading else .upper
  else .lower

/-- Selection, step 2: every queue entry whose path set contains the chosen path moves to the served set, in queue order, with
served-since now (R65). -/
def Arbiter.select (a : Arbiter) (p : Path) (now : Nat) : Arbiter :=
  { a with
    served := a.served ++ (a.queue.filter (fun e => e.pathSet.contains p)).map (fun e => { e with time := now }),
    queue := a.queue.filter (fun e => !e.pathSet.contains p) }

/-- The served entries go to the front of the queue, in served order, with joined-at now (R72, R74, R76, R77). -/
def Arbiter.servedToFront (a : Arbiter) (now : Nat) : Arbiter :=
  { a with queue := a.served.map (fun e => { e with time := now }) ++ a.queue, served := [] }

/-- The served entries go to the back of the queue, in served order, with joined-at now (R73, step 1). -/
def Arbiter.servedToBack (a : Arbiter) (now : Nat) : Arbiter :=
  { a with queue := a.queue ++ a.served.map (fun e => { e with time := now }), served := [] }

/-- No turn is current: the path is absent, holdover and yield due are clear (R60). -/
def Arbiter.noTurn (a : Arbiter) : Arbiter := { a with turnPath := none, holdover := false, yieldDue := false }

/-! ## Orders to the cycle controller -/

/-- The arbiter hands a stop (R69, R74, R77). -/
def State.handStop (s : State) : State := { s with arb := s.arb.noTurn }.stopOrder

/-- The arbiter hands a transfer toward a path and selects for it (R71). -/
def State.handTransfer (s : State) (q : Path) : State :=
  { s with
    arb := { s.arb with turnPath := some q, holdover := false, yieldDue := false }.select q s.now }.transferOrder q

/-- The conditions of R66 but for the candidate: OFF, no bar, service hold off, compressor hold clear. -/
def State.mayStart (s : State) : Bool :=
  decide (s.cyc.state = .off) && !s.startBarred && !s.serviceHold && !s.arb.compressorHold

/-- The start check: when every condition of R66 holds, selection runs with no turn current and the start is handed (R66, R67). -/
def State.startCheck (s : State) : State :=
  if s.mayStart then
    let a := s.arb.noTurn
    match a.oldestCandidate with
    | none => s
    | some e =>
      let p := a.choosePath s.act.valve e
      { s with arb := { a with turnPath := some p }.select p s.now }.startOrder p
  else s

/-- Holdover meets a candidate: a transfer toward the oldest candidate's path (R70). Yield due meets one: the served entries go
to the back and the turn transfers (R73). Both only in RUNNING. -/
def State.candidateCheck (s : State) : State :=
  if s.cyc.state = .running ∧ s.arb.turnPath.isSome then
    match s.arb.oldestCandidate with
    | none => s
    | some e =>
      let q := s.arb.choosePath s.act.valve e
      if s.arb.holdover then s.handTransfer q
      else if s.arb.yieldDue then { s with arb := s.arb.servedToBack s.now }.handTransfer q
      else s
  else s

/-- What the arbiter does at an event that may make a candidate appear: start check, holdover and yield (R56, R61, R67, R70,
R73). -/
def State.arbiterCheck (s : State) : State :=
  if s.cyc.state = .off then s.startCheck else s.candidateCheck

/-- The minimum on time is over for an emptying of the served set (R69): the on timer has reached 120 s. Of an emptying and that
reaching which fall at the same second, the one taken first decides, so at 120 s it is over once the report of R85 has been taken. -/
def CycleRecord.minimumOnOver (c : CycleRecord) : Bool :=
  decide (120 ≤ c.onTimer.getD 0) && (c.minOnReported || decide (c.onTimer ≠ some 120))

/-- The served set has become empty in RUNNING, or RUNNING is reported with it empty (R69). -/
def State.servedEmptied (s : State) : State :=
  match s.arb.oldestCandidate with
  | some e => s.handTransfer (s.arb.choosePath s.act.valve e)
  | none =>
    if s.cyc.minimumOnOver then s.handStop
    else { s with arb := { s.arb with holdover := true } }

/-- The cycle controller's report of RUNNING on a path: with the served set empty R69 applies at once (R68, R71). -/
def State.reportRunning (s : State) : State :=
  if s.arb.turnPath.isSome ∧ s.arb.served = [] then s.servedEmptied else s

/-- The cycle controller's report of OFF: no turn is current, and the start check follows (R67, R88). -/
def State.reportOff (s : State) : State := State.startCheck { s with arb := s.arb.noTurn }

/-! ## Joins, leaves and level updates (R61 to R63) -/

/-- A join (R61): ride-along on a current turn the path set contains while service hold is off, else the back of the queue
and the arbiter's checks. -/
def State.join (s : State) (z : Zone) (ps : PathSet) (level : CallLevel) : State :=
  let e : Entry := { zone := z, pathSet := ps, level := level, time := s.now }
  let rides := match s.arb.turnPath with
    | none => false
    | some p => ps.contains p && !s.serviceHold
  if rides then { s with arb := { s.arb with served := s.arb.served ++ [e], holdover := false } }
  else State.arbiterCheck { s with arb := { s.arb with queue := s.arb.queue ++ [e] } }

/-- A list without a zone's entry. -/
def withoutZone (z : Zone) (l : List Entry) : List Entry := l.filter fun e => e.zone ≠ z

/-- A leave (R62): the entry is removed; the last served entry leaving RUNNING without holdover brings R69. -/
def State.leave (s : State) (z : Zone) : State :=
  let t : State := { s with
    arb := { s.arb with queue := withoutZone z s.arb.queue, served := withoutZone z s.arb.served } }
  if s.arb.serves z ∧ t.arb.served = [] ∧ s.cyc.state = .running ∧ s.arb.holdover = false ∧ s.arb.turnPath.isSome then
    t.servedEmptied
  else t

/-- A list with the level of a zone's entry replaced in place. -/
def withLevel (z : Zone) (level : CallLevel) (l : List Entry) : List Entry :=
  l.map fun e => if e.zone = z then { e with level := level } else e

/-- A level update (R63). -/
def State.levelUpdate (s : State) (z : Zone) (level : CallLevel) : State :=
  { s with arb := { s.arb with queue := withLevel z level s.arb.queue, served := withLevel z level s.arb.served } }

/-- The path set a zone's entry carries, where it has an entry (R19). -/
def Arbiter.pathSetOf (a : Arbiter) (z : Zone) : Option PathSet :=
  ((a.queue ++ a.served).find? fun e => e.zone = z).map (·.pathSet)

/-- A change of a zone's demand is handed to the arbiter (R28): join, leave or level update, with the zone's path set. -/
def State.demandChanged (s : State) (z : Zone) (before after : Demand) (ps : PathSet) : State :=
  match before, after with
  | .idle, .idle => s
  | .idle, .calling l => s.join z ps l
  | .calling _, .idle => s.leave z
  | .calling l, .calling m => if l = m then s else s.levelUpdate z m

/-- At an evaluation a calling zone whose entry carries another path set leaves and joins again (R19); otherwise as R28. -/
def State.demandEvaluated (s : State) (z : Zone) (before after : Demand) (ps : PathSet) : State :=
  match before, after with
  | .calling _, .calling m =>
    match s.arb.pathSetOf z with
    | some q => if q = ps then s.demandChanged z before after ps else (s.leave z).join z ps m
    | none => s.demandChanged z before after ps
  | _, _ => s.demandChanged z before after ps

/-! ## Giving up a path (R72, R74, R75) -/

/-- The current turn path is given up: the served entries go to the front; in RUNNING or TRANSFER with a candidate the turn
transfers, otherwise it stops (R72, R74, R75). -/
def State.giveUp (s : State) : State :=
  let t : State := { s with arb := s.arb.servedToFront s.now }
  if s.cyc.state = .running ∨ s.cyc.state = .transfer then
    match t.arb.oldestCandidate with
    | some e => t.handTransfer (t.arb.choosePath t.act.valve e)
    | none => t.handStop
  else t.handStop

/-- The defrost manager asks for the release of a path (R74). -/
def State.release (s : State) (p : Path) : State := if s.arb.turnPath = some p then s.giveUp else s

/-- A path record after an evaporator fan fault (R57). -/
def PathRecord.faulted (r : PathRecord) : PathRecord :=
  if r.fault = .locked then { r with count := 3 }
  else if 2 ≤ r.count then { r with fault := .locked, count := 3, timer := none }
  else { r with fault := .faulted, count := r.count + 1, timer := some 900 }

/-- An evaporator fan fault is reported against its path (R57). On the current turn path the path is given up (R72, R75); on another
path the path record alone changes (R75). -/
def State.pathFault (s : State) (p : Path) : State :=
  let t : State := { s with arb := { s.arb with paths := s.arb.paths.set p (s.arb.paths.get p).faulted } }
  if s.arb.turnPath = some p then t.giveUp else t

/-- The report of 300 s of good running returns the fault count to 0 (R57). -/
def State.goodRunning (s : State) (p : Path) : State :=
  { s with arb := { s.arb with paths := s.arb.paths.set p { s.arb.paths.get p with count := 0 } } }

/-- The fault timer of a path runs out (R57). -/
def State.faultTimerOut (s : State) (p : Path) : State :=
  State.arbiterCheck { s with
    arb := { s.arb with paths := s.arb.paths.set p { s.arb.paths.get p with fault := .none, timer := none } } }

/-- A block of a path (R58). It takes candidates away and makes none, so no check follows (log entry 24). -/
def State.block (s : State) (p : Path) : State :=
  { s with arb := { s.arb with paths := s.arb.paths.set p { s.arb.paths.get p with blocked := true } } }

/-- An unblock of a path, followed by the arbiter's checks (R58, R67). -/
def State.unblock (s : State) (p : Path) : State :=
  State.arbiterCheck { s with
    arb := { s.arb with paths := s.arb.paths.set p { s.arb.paths.get p with blocked := false } } }

/-- The end of the compressor hold, followed by the start check (R78). -/
def State.endCompressorHold (s : State) : State :=
  State.startCheck { s with arb := { s.arb with compressorHold := false } }

/-! ## Loss, fault and service hold (R76, R77) -/

/-- A drive loss, drive fault or start failure in STARTING, RUNNING or TRANSFER is reported: the served entries go to the front
and no turn is current (R76). -/
def State.reportFailure (s : State) : State := { s with arb := (s.arb.servedToFront s.now).noTurn }

/-- The compressor is taken as stopped at a loss or a fault, whatever the cycle state (R99, R102). -/
def State.compressorLost (s : State) : State :=
  let t := s.markStopped
  match s.cyc.state with
  | .off => t
  | .stopping => t.enterOff.reportOff
  | .starting => t.enterOff.markStopCommanded.reportFailure
  | .running => t.enterOff.markStopCommanded.reportFailure
  | .transfer => t.enterOff.markStopCommanded.reportFailure

/-- A drive fault (R102, R103). -/
def State.driveFault (s : State) (cause : DriveFaultCause) (code : Nat) : State :=
  let t := (s.compressorLost).raise .driveFault
  let r := t.flt.enter s.now
  let u : State := { t with flt := { r with waitEnd := some (s.now + 300), last := some (cause, code) } }
  if s.flt.lockout = none ∧ r.lockout.isSome then u.raise .driveLockout else u

/-- A drive loss (R99). -/
def State.driveLoss (s : State) : State := (s.compressorLost).raise .driveLost

/-- The entry to service hold reaches the arbiter (R77). -/
def State.arbiterHoldEntry (s : State) : State :=
  if s.arb.turnPath.isSome then State.handStop { s with arb := s.arb.servedToFront s.now } else s

/-- The end of STOPPING: OFF, last stop now, OFF reported (R88). -/
def State.stopped (s : State) : State := s.markStopped.enterOff.reportOff

end Sys2Proof.Machine
end

