-- ==== Sys2Proof/Machine/Zones.lean ====
section
/-!
DEFINITION. The zone controller: the evaluation of a zone at a channel report, boosts, demand and heat outside evaluations, the
door view and the defrost window (R15 to R46).
-/
namespace Sys2Proof.Machine

/-! ## Door hold and alarm pause (R16) -/

/-- A zone is door-held while its door is open and its door hold timer is below its preset's limit (R16). -/
def ZoneRecord.doorHeld (z : ZoneRecord) (p : Preset) : Bool :=
  match z.doorHold with
  | none => false
  | some t => decide (seconds t < p.doorHold)

/-- A zone's alarm pause holds while its door is open and its door hold timer is below 600 s (R16). -/
def ZoneRecord.alarmPaused (z : ZoneRecord) : Bool :=
  match z.doorHold with
  | none => false
  | some t => decide (seconds t < 600)

/-- The defrost window suspends the warm alarms of FREEZER, FLEX and ICE (R32). -/
def State.warmSuspended (s : State) (z : Zone) : Bool := decide (s.window ≠ .closed) && decide (z ≠ .fresh)

/-! ## Estimate and band (R25, R26) -/

/-- Division of the way to a sample by 2^s, rounded toward zero (R25). -/
def filterStep (e target : Int) (shift : Nat) : Int := e + Int.tdiv (target - e) (2 ^ shift)

/-- The estimate step (R25): an unseeded zone takes 16T; a seeded zone that is not door-held moves toward it. -/
def ZoneRecord.estimateStep (z : ZoneRecord) (p : Preset) (r : Report) : ZoneRecord :=
  match r.temperature with
  | some (t, .current) =>
    match z.seeded, z.estimate with
    | true, some e => if z.doorHeld p then z else { z with estimate := some (filterStep e (16 * t) p.shift) }
    | _, _ => { z with estimate := some (16 * t), seeded := true }
  | _ => z

/-- The band of a reported temperature: the number of separators at or below it (R20, R26). -/
def Ladder.bandOf (l : Ladder) (setpoint reported : Int) : Nat :=
  l.offsets.countP fun o => setpoint + o ≤ reported

/-- The attributes of band k. A zone's band is found with the ladder it is read with, which has it (R20, log entry 14). -/
def Ladder.band (l : Ladder) (k : Nat) : Band := l.bands.getD k ⟨.none, .off, .none⟩

/-! ## Demand and heat (R27, R29, R34) -/

/-- The demand a band's attribute gives; held is what HOLD keeps (R27, R40). -/
def ladderDemand (held : Demand) : DemandAttr → Demand
  | .none => .idle
  | .hold => held
  | .call => .calling .one
  | .urgent => .calling .two

/-- The fallback duty (R34): the first F minutes of every hour from the fallback start call. -/
def dutyDemand (start now onMinutes : Nat) : Demand :=
  if (now - start) % 3600 < 60 * onMinutes then .calling .one else .idle

/-- Demand in a mode without a boost (R27, R34, R36). -/
def restingDemand (mode : ZoneMode) (band : Option Band) (held : Demand) (duty : Demand) : Demand :=
  match mode with
  | .normal =>
    match band with
    | some b => ladderDemand held b.demand
    | none => .idle
  | .fallback => duty
  | .disabled => .idle

/-- A zone is CALLING at level 3 while a boost is present, except in DISABLED mode, which has none (R27, R34, R36). -/
def demandWith (boost : Option Boost) (mode : ZoneMode) (resting : Demand) : Demand :=
  if boost.isSome ∧ mode ≠ .disabled then .calling .three else resting

/-- The heat state of a zone (R29): kept only for FLEX, in NORMAL mode with a band, heater enable set and the zone IDLE. -/
def heatState (z : Zone) (p : Preset) (mode : ZoneMode) (band : Option Band) (demand : Demand) (before : Bool) : Bool :=
  match z, mode, band, demand with
  | .flex, .normal, some b, .idle =>
    if p.heaterEnable then
      match b.heat with
      | .on => true
      | .off => false
      | .hold => before
    else false
  | _, _, _, _ => false

/-! ## Alarms (R30 to R32) -/

/-- The alarm state and timer after the attribute step (R30), with the suspension of the defrost window (R32). In the window the
attribute NONE keeps WARM and PENDING_WARM, and COLD moves them to PENDING_COLD (log entry 12). -/
def alarmStep (suspended : Bool) (attr : AlarmAttr) (st : AlarmState) (timer : Nat) : AlarmState × Nat :=
  match suspended, attr, st with
  | true, .warm, .none => (.none, 0)
  | true, .warm, .pendingWarm => (.pendingWarm, timer)
  | true, .warm, .warm => (.warm, 0)
  | true, .warm, .pendingCold => (.none, 0)
  | true, .warm, .cold => (.none, 0)
  | true, .none, .pendingWarm => (.pendingWarm, timer)
  | true, .none, .warm => (.warm, 0)
  | _, .warm, .pendingWarm => (.pendingWarm, timer)
  | _, .warm, .warm => (.warm, 0)
  | _, .warm, _ => (.pendingWarm, 0)
  | _, .cold, .pendingCold => (.pendingCold, timer)
  | _, .cold, .cold => (.cold, 0)
  | _, .cold, _ => (.pendingCold, 0)
  | _, .none, _ => (.none, 0)

/-- The promotion of a PENDING state whose timer has reached the delay (R31); PENDING_WARM is not promoted in the window (R32). -/
def alarmPromote (suspended : Bool) (delay : Nat) (x : AlarmState × Nat) : AlarmState × Nat :=
  match x.1 with
  | .pendingWarm => if delay ≤ x.2 ∧ suspended = false then (.warm, 0) else x
  | .pendingCold => if delay ≤ x.2 then (.cold, 0) else x
  | _ => x

/-- WARM and COLD, the states whose entry and exit raise ZONE_ALARM (R30, R31). -/
def AlarmState.standing : AlarmState → Bool
  | .warm => true
  | .cold => true
  | _ => false

/-- The alarm after an evaluation: in NORMAL mode with a band by R30 to R32, otherwise NONE with the timer at 0 (R30, R33, R36). -/
def alarmAfter (suspended : Bool) (mode : ZoneMode) (band : Option Band) (delay : Nat) (st : AlarmState) (timer : Nat) :
    AlarmState × Nat :=
  match mode, band with
  | .normal, some b => alarmPromote suspended delay (alarmStep suspended b.alarm st timer)
  | _, _ => (.none, 0)

/-- ZONE_ALARM: every promotion to WARM or COLD and every change out of them (R30, R31, R33, R36). -/
def alarmEvents (before after : AlarmState) : List EventKind :=
  if before ≠ after ∧ (before.standing || after.standing) then [.zoneAlarm] else []

/-! ## The evaluation (R24) -/

/-- What an evaluation reads beside the zone record. -/
structure Evaluation where
  zone : Zone
  preset : Preset
  ladder : Ladder
  now : Nat
  suspended : Bool
  report : Report
deriving DecidableEq, Repr

/-- The mode fixed at a report (R24). -/
def Evaluation.mode (x : Evaluation) : ZoneMode :=
  if x.preset.disabled then .disabled else if x.report.state = .fault then .fallback else .normal

/-- The record with its mode, seeded flag and fallback start fixed (R24, R33, R35). -/
def Evaluation.fixMode (x : Evaluation) (z : ZoneRecord) : ZoneRecord :=
  { z with
    mode := x.mode,
    seeded := z.seeded && !x.report.enteredFault,
    fallbackStart :=
      if x.mode = .fallback then (if z.mode = .fallback then some (z.fallbackStart.getD x.now) else some x.now) else none }

/-- The early end of a boost is tested in NORMAL mode with an estimate present (R40). -/
def Evaluation.earlyEnd (x : Evaluation) (z : ZoneRecord) : Bool :=
  match x.mode, z.boost, z.reported with
  | .normal, some _, some t => decide (t ≤ z.setpoint - (x.preset.boostDepth : Int))
  | _, _, _ => false

/-- The whole evaluation of a zone record, with the events it raises (R24, in its order). -/
def Evaluation.run (x : Evaluation) (z : ZoneRecord) : ZoneRecord × List EventKind :=
  let z1 := (x.fixMode z).estimateStep x.preset x.report
  let bandNo := if x.mode = .normal then z1.reported.map (x.ladder.bandOf z1.setpoint) else none
  let band := bandNo.map x.ladder.band
  let early := x.earlyEnd z1
  let boost := if early ∨ x.mode = .disabled then none else z1.boost
  let held := if early then .calling .one else z.demand
  let resting := restingDemand x.mode band held (dutyDemand (z1.fallbackStart.getD x.now) x.now x.preset.fallbackOn)
  let demand := demandWith boost x.mode resting
  let heat := heatState x.zone x.preset x.mode band demand z.heat
  let alarm := alarmAfter x.suspended x.mode band x.ladder.delay z.alarm z.alarmTimer
  ({ z1 with band := bandNo, boost := boost, demand := demand, heat := heat, alarm := alarm.1, alarmTimer := alarm.2 },
    (if early then [.boostEnd] else []) ++ alarmEvents z.alarm alarm.1)

/-- The evaluation a report of a zone's air channel makes. -/
def State.evaluationOf (s : State) (z : Zone) (r : Report) : Evaluation :=
  { zone := z, preset := s.presetOf z, ladder := s.ladderOf z, now := s.now, suspended := s.warmSuspended z, report := r }

/-- A zone record is replaced. -/
def State.setZone (s : State) (z : Zone) (r : ZoneRecord) : State := { s with zones := s.zones.set z r }

/-- From its next evaluation a zone uses the table entries as they stand (R19, R22). -/
def State.takeTables (s : State) (z : Zone) : State := s.setZone z { s.zones.get z with kept := none }

/-- The evaluation with the entries in force (R24, R28): record, events, and what is owed to the arbiter. -/
def State.evaluateWith (s : State) (z : Zone) (r : Report) : State :=
  let before := s.zones.get z
  let after := (s.evaluationOf z r).run before
  ((s.setZone z after.1).raiseAll after.2).demandEvaluated z before.demand after.1.demand (s.presetOf z).pathSet

/-- The zone controller takes a report of a zone's air channel (R24). -/
def State.evaluateZone (s : State) (z : Zone) (r : Report) : State := (s.takeTables z).evaluateWith z r

/-- The zone that an air channel reports to (spec/01 "Channel Assignment"). -/
def airZone : Channel → Option Zone
  | .ch0 => some .fresh
  | .ch1 => some .flex
  | .ch2 => some .freezer
  | .ch3 => some .ice
  | _ => none

/-! ## Outside evaluations -/

/-- The demand and heat of a record are set, and the change of demand is handed to the arbiter (R28, R29). -/
def State.setDemand (s : State) (z : Zone) (demand : Demand) : State :=
  let r := s.zones.get z
  let band := r.band.map (s.ladderOf z).band
  let r' := { r with demand := demand, heat := heatState z (s.presetOf z) r.mode band demand r.heat }
  (s.setZone z r').demandChanged z r.demand demand (s.presetOf z).pathSet

/-- The demand a zone takes when its boost is removed (R40). -/
def State.demandAfterBoost (s : State) (z : Zone) : Demand :=
  let r := s.zones.get z
  restingDemand r.mode (r.band.map (s.ladderOf z).band) (.calling .one)
    (dutyDemand (r.fallbackStart.getD s.now) s.now (s.presetOf z).fallbackOn)

/-- A boost is removed by its expiry or a taken cancel: BOOST_END, and demand is set afresh (R40). -/
def State.removeBoost (s : State) (z : Zone) : State :=
  let t := (s.setZone z { s.zones.get z with boost := none }).raise .boostEnd
  t.setDemand z (s.demandAfterBoost z)

/-- A boost is created or merged: the later expiry, the latest requester; the zone calls at level 3 (R38). -/
def State.boost (s : State) (z : Zone) (minutes : Nat) (p : Port) : State :=
  let r := s.zones.get z
  let asked := s.now + 60 * minutes
  let expiry := match r.boost with
    | none => asked
    | some b => max b.expiry asked
  (s.setZone z { r with boost := some { expiry := expiry, port := p } }).setDemand z (.calling .three)

/-- SET_MODE flushes a zone and gives it a preset (R42). -/
def ZoneRecord.flushed (r : ZoneRecord) (index : Nat) (p : Preset) : ZoneRecord :=
  { r with
    demand := .idle, heat := false, alarm := .none, alarmTimer := 0, boost := none, preset := index,
    setpoint := p.defaultSetpoint, band := none, kept := none }

/-- A zone at cooling restart (R46). -/
def ZoneRecord.restarted (r : ZoneRecord) : ZoneRecord :=
  { r with demand := .idle, heat := false, boost := none, alarm := .none, alarmTimer := 0 }

/-- The preset a zone takes when no usable choice is stored (R18, R45). -/
def Tables.defaultPreset (t : Tables) (z : Zone) : Nat :=
  if (t.preset (factoryPreset z)).mask.get z then factoryPreset z
  else (List.range 16).find? (fun i => (t.preset i).mask.get z) |>.getD (factoryPreset z)

/-- A zone record at the end of the settings load (R45): the stored preset when it contains the zone, with the stored setpoint
clamped; else the factory preset, or the lowest that contains the zone, with its default. -/
def Tables.settleZone (t : Tables) (z : Zone) (stored : Option (Nat × Int)) (r : ZoneRecord) : ZoneRecord :=
  let take (i : Nat) (setpoint : Int) : ZoneRecord :=
    { r with preset := i, setpoint := setpoint, mode := if (t.preset i).disabled then .disabled else .normal }
  let fallback := take (t.defaultPreset z) (t.preset (t.defaultPreset z)).defaultSetpoint
  match stored with
  | none => fallback
  | some (i, v) =>
    if i < 16 ∧ (t.preset i).mask.get z = true then
      take i (clampInt (t.preset i).minSetpoint (t.preset i).maxSetpoint v)
    else fallback

/-! ## Door view (R16) -/

/-- A zone's door opens: the door hold timer starts at 0, or goes on where it runs already (R16). -/
def ZoneRecord.doorOpens (r : ZoneRecord) : ZoneRecord :=
  { r with doorHold := some (r.doorHold.getD 0) }

/-- A zone takes the doors as they stand: its timer is present while one of its doors is open (R16). -/
def State.viewDoors (s : State) (z : Zone) : ZoneRecord :=
  let r := s.zones.get z
  if z.doors.any fun d => (s.doors.get d).isOpen then r.doorOpens else { r with doorHold := none }

/-- Every zone takes the doors as they stand (R16, R54). -/
def State.viewAllDoors (s : State) : State :=
  { s with
    zones := { fresh := s.viewDoors .fresh, flex := s.viewDoors .flex, freezer := s.viewDoors .freezer,
               ice := s.viewDoors .ice } }

end Sys2Proof.Machine
end

