-- ==== Sys2Proof/Machine/Defrost.lean ====
section
/-!
DEFINITION. The defrost manager: accounting and the due test, deferral and path wait, the begin of a program, step chains and
their validity, completion, abort, exit and cancellation (R126 to R149), and the hand-over of the cycle state to the manager.
-/
namespace Sys2Proof.Machine

/-! ## Chains (R136) -/

/-- A step names only actuators that a program's path owns (R134, R136). -/
def Step.ownedBy (st : Step) : Path → Bool
  | .lower => !st.upperFan
  | .upper => !st.heater && !st.lowerFan

/-- A chain from a step reaches a step with LAST within n more steps, visits none twice and names only owned actuators (R136). -/
def chainFrom (steps : List Step) (p : Path) : Nat → List Nat → Nat → Bool
  | 0, _, _ => false
  | n + 1, visited, i =>
    match steps[i]? with
    | none => false
    | some st =>
      !visited.contains i && st.ownedBy p && (st.last || chainFrom steps p n (i :: visited) st.next)

/-- A chain is valid: LAST within 16 steps, the head being the first (R136). -/
def chainValid (steps : List Step) (p : Path) (head : Nat) : Bool := chainFrom steps p 16 [] head

/-- The chains of a program with its valid flag set are valid; a program with the flag clear is not checked (R134, R136). -/
def Program.chainsValid (steps : List Step) (g : Program) : Bool :=
  !g.valid || (chainValid steps g.path g.head && chainValid steps g.path g.exitHead)

/-- The steps a chain visits, for the busy check of a step write (R137). -/
def chainSteps (steps : List Step) : Nat → Nat → List Nat
  | 0, _ => []
  | n + 1, i =>
    match steps[i]? with
    | none => []
    | some st => if st.last then [i] else i :: chainSteps steps n st.next

/-- A step lies in the main chain or the exit chain of a program (R137). -/
def Program.usesStep (steps : List Step) (g : Program) (i : Nat) : Bool :=
  (chainSteps steps 16 g.head).contains i || (chainSteps steps 16 g.exitHead).contains i

/-! ## Begin of a program (R132, R133) -/

/-- A step begins: the step field and a step timer of 0 (R139). -/
def State.beginStep (s : State) (i : Nat) : State := { s with mgr := { s.mgr with step := some i, stepTimer := some 0 } }

/-- The begin condition for a path (R132). -/
def State.beginCondition (s : State) (p : Path) : Bool :=
  (decide (s.cyc.state = .off) || s.cyc.currentOn p.other) && !s.act.valve.movingToward p

/-- The program begins (R133). -/
def State.beginProgram (s : State) (g : Program) : State :=
  let m := s.mgr
  let s1 : State := { s with
    mgr := { m with
      state := .running, runMeasurement := none, dueMoment := none, waitStart := none, releaseAsked := false,
      deferralEnd := if m.kind = some .automatic then none else m.deferralEnd } }
  let s2 := s1.block g.path
  let s3 : State := if g.compressorOff then { s2 with arb := { s2.arb with compressorHold := true } } else s2
  let s4 : State := match g.path with
    | .upper => s3.endAfterRun
    | .lower => { s3 with window := .running }
  (s4.raise .defrostBegin).beginStep g.head

/-- The begin test in the path wait of DUE (R132). -/
def State.beginTest (s : State) : State :=
  match s.mgr.state, s.mgr.waitStart, s.programRecord with
  | .due, some _, some g => if s.beginCondition g.path then s.beginProgram g else s
  | _, _, _ => s

/-- The manager asks the arbiter to release its path and makes the begin test on the answer (R131). -/
def State.askRelease (s : State) (p : Path) : State :=
  { s with mgr := { s.mgr with releaseAsked := true } }.release p

/-- What the manager does at a hand-over of the cycle state, in the path wait of DUE: past 1800 s it asks for release where the
cycle is current on its path; then it makes the begin test (R131, R132). -/
def State.managerReact (s : State) : State :=
  match s.mgr.state, s.mgr.waitStart, s.programRecord with
  | .due, some w, some g =>
    if w + 1800 ≤ s.now ∧ s.cyc.currentOn g.path = true then (s.askRelease g.path).beginTest else s.beginTest
  | _, _, _ => s

/-- The cycle state or path differs between two states: a hand-over was made (R83 to R88). The entry to TRANSFER and a turn-back are
hand-overs to the manager too (log entry 39). -/
def cycleHanded (before after : State) : Bool :=
  decide (before.cyc.state ≠ after.cyc.state) || decide (before.cyc.path ≠ after.cyc.path)

/-- After an event the manager takes the hand-over of the cycle state, if there was one. -/
def State.handOver (before after : State) : State := if cycleHanded before after then after.managerReact else after

/-! ## Due test, deferral, credits (R127 to R131) -/

/-- The path wait begins (R131). -/
def State.beginWait (s : State) (start : Nat) : State :=
  State.managerReact { s with mgr := { s.mgr with waitStart := some start } }

/-- An automatic defrost is due (R129). -/
def Accounting.due (a : Accounting) : Bool := decide (a.interval ≤ a.accumulator) || decide (259200 ≤ a.age)

/-- The manager enters DUE for the auto-defrost program; without a deferral in force the path wait begins (R129, R131). -/
def State.enterDue (s : State) : State :=
  let t : State := { s with
    mgr := { s.mgr with
      state := .due, program := some s.tables.autoProgram, kind := some .automatic, dueMoment := some s.now,
      releaseAsked := false, waitStart := none } }
  if s.now < s.mgr.deferralEnd.getD 0 then t else t.beginWait s.now

/-- The due test (R129). The first is made when READY rises (R148, R170): until then a due condition is left standing (log entry
35). -/
def State.dueTest (s : State) : State :=
  if s.ready = true ∧ s.mgr.state = .idle ∧ s.serviceHold = false ∧ s.acct.due = true then s.enterDue else s

/-- A credit to the accumulator saturates at 65535 and is followed by the due test (R127). -/
def State.credit (s : State) (n : Nat) : State :=
  State.dueTest { s with acct := { s.acct with accumulator := min 65535 (s.acct.accumulator + n) } }

/-! ## Ends of a program (R142, R144, R145) -/

/-- The manager's fields that every entry to IDLE or HOLDOFF leaves absent (R142, R144, R145). -/
def Manager.atRest (m : Manager) (st : ManagerState) : Manager :=
  { m with state := st, program := none, kind := none, step := none, stepTimer := none }

/-- What every end of a program hands on (R142, R144, R145): to the actuator block its end, with the heater limit cleared
(R118) and the fan delay armed for LOWER; to the zone controller the end of a LOWER program (R32); to the arbiter the unblock
and the end of the compressor hold. -/
def State.programEnded (s : State) (g : Program) : State :=
  let s1 : State := { s with act := { s.act with lowerHeater := { s.act.lowerHeater with limited := false } } }
  let s2 : State := match g.path with
    | .lower => { s1 with act := { s1.act with fanDelay := .armed }, window := .closing (s.now + 1800) }
    | .upper => s1
  let s3 := s2.unblock g.path
  if g.compressorOff then s3.endCompressorHold else s3

/-- The last outcome is recorded (R142, R144, R145). -/
def State.recordOutcome (s : State) (o : ProgramOutcome) : State :=
  { s with mgr := { s.mgr with lastOutcome := s.mgr.program.map fun i => (i, o, s.now) } }

/-- The adaptation of the defrost interval by the run measurement (R142). -/
def adaptInterval (interval : Nat) : Option Measurement → Nat
  | none => interval
  | some m =>
    match m.cause with
    | .timeout => max (interval - 120) 240
    | _ =>
      if m.elapsed < 900 then min (interval + 60) 1440
      else if m.elapsed ≤ 1800 then interval
      else max (interval - 120) 240

/-- The accounting changes of a LOWER completion (R142). -/
def State.accountCompletion (s : State) : State :=
  State.markDirty { s with
    acct := { accumulator := 0, interval := adaptInterval s.acct.interval s.mgr.runMeasurement, age := 0 } }

/-- A program completes (R142). -/
def State.complete (s : State) (g : Program) : State :=
  let s1 := s.recordOutcome .completed
  let s2 := match g.path with
    | .lower => s1.accountCompletion
    | .upper => s1
  let s3 := (s2.programEnded g).raise .defrostEnd
  State.dueTest { s3 with mgr := s3.mgr.atRest .idle }

/-- An exit chain ends: HOLDOFF for an hour (R144). -/
def State.exitEnded (s : State) (g : Program) : State :=
  let s1 := ((s.recordOutcome .aborted).programEnded g).raise .defrostEnd
  { s1 with mgr := { s1.mgr.atRest .holdoff with holdoffEnd := some (s.now + 3600) } }

/-- A program aborts: EXITING at its exit head (R143). -/
def State.abort (s : State) (g : Program) : State :=
  { s with mgr := { s.mgr with state := .exiting } }.beginStep g.exitHead

/-- Cooling restart or the entry to service hold cancels the manager's work (R145). -/
def State.cancelManager (s : State) : State :=
  let s1 := match s.runningProgram with
    | some g => ((s.recordOutcome .cancelled).programEnded g).raise .defrostEnd
    | none => s
  { s1 with
    mgr := { s1.mgr.atRest .idle with
      dueMoment := none, waitStart := none, releaseAsked := false, holdoffEnd := none, deferralEnd := none } }

/-! ## Steps (R140, R141) -/

/-- The measurement of a step with MEASURE set (R141, item 3). -/
def State.measureStep (s : State) (cause : EndCause) : State :=
  let m : Measurement := { elapsed := s.mgr.stepTimer.getD 0, cause := cause }
  { s with
    mgr := { s.mgr with runMeasurement := some m, lastMeasurement := s.mgr.program.map fun i => (i, m) } }

/-- The events and the measurement of a step's end (R141, items 1 to 3). -/
def State.noteStepEnd (s : State) (st : Step) (cause : EndCause) : State :=
  let s1 := if cause = .timeout then s.raise .stepTimeout else s
  let s2 := if st.notify then s1.raise .programStep else s1
  if st.measure then s2.measureStep cause else s2

/-- The end of the running step (R141). -/
def State.endStep (s : State) (g : Program) (st : Step) (cause : EndCause) : State :=
  let t := s.noteStepEnd st cause
  if s.mgr.state = .running ∧ cause = .timeout ∧ st.abortOnTimeout = true then t.abort g
  else if st.last then (if s.mgr.state = .running then t.complete g else t.exitEnded g)
  else t.beginStep st.next

/-- The condition of an EVAP step against a temperature (R140). -/
def Step.met (st : Step) (t : Int) : Bool :=
  match st.endKind with
  | .time => false
  | .evapAbove => decide (st.threshold < t)
  | .evapBelow => decide (t < st.threshold)

/-- What the manager does with a report of the program's evaporator channel (R140). -/
def State.stepReport (s : State) (r : Report) : State :=
  match s.runningProgram, s.runningStep, r.trusted with
  | some g, some st, some t =>
    if r.channel = evaporatorChannel g.path ∧ st.met t = true then s.endStep g st .condition else s
  | _, _, _ => s

/-- The limit of the lower defrost heater reaches the manager: a program in RUNNING aborts (R143). -/
def State.heaterLimitToManager (s : State) : State :=
  match s.mgr.state, s.runningProgram with
  | .running, some g => s.abort g
  | _, _ => s

end Sys2Proof.Machine
end

