-- ==== Sys2Proof/Machine/Operands.lean ====
section
/-!
DEFINITION. The forms in which operands cross the part's pins: table entries (R175), the image and its acceptance (R168, R7, R23,
R138), the settings record (R169), and a request frame's fields (spec/11).
-/
namespace Sys2Proof.Machine

/-! ## Bits and codes (R174) -/

/-- A number from flags, the first in bit 0. -/
def flagBits : List Bool → Nat
  | [] => 0
  | b :: l => (if b then 1 else 0) + 2 * flagBits l

/-- Bit k of byte i of an area. -/
def bitAt (l : List Byte) (i k : Nat) : Bool := (l.getD i 0xFF).getLsbD k

def PathSet.code : PathSet → Nat
  | .upper => 0
  | .lower => 1
  | .either => 2

def PathSet.ofCode : Nat → Option PathSet
  | 0 => some .upper
  | 1 => some .lower
  | 2 => some .either
  | _ => none

def DemandAttr.code : DemandAttr → Nat
  | .none => 0
  | .hold => 1
  | .call => 2
  | .urgent => 3

def DemandAttr.ofCode (n : Nat) : Option DemandAttr :=
  match n with
  | 0 => some .none
  | 1 => some .hold
  | 2 => some .call
  | 3 => some .urgent
  | _ => Option.none

def HeatAttr.code : HeatAttr → Nat
  | .off => 0
  | .hold => 1
  | .on => 2

def HeatAttr.ofCode : Nat → Option HeatAttr
  | 0 => some .off
  | 1 => some .hold
  | 2 => some .on
  | _ => none

def AlarmAttr.code : AlarmAttr → Nat
  | .none => 0
  | .cold => 1
  | .warm => 2

def AlarmAttr.ofCode (n : Nat) : Option AlarmAttr :=
  match n with
  | 0 => some .none
  | 1 => some .cold
  | 2 => some .warm
  | _ => Option.none

def EndKind.code : EndKind → Nat
  | .time => 0
  | .evapAbove => 1
  | .evapBelow => 2

def EndKind.ofCode : Nat → Option EndKind
  | 0 => some .time
  | 1 => some .evapAbove
  | 2 => some .evapBelow
  | _ => none

/-- All present, or none. -/
def allSome {α : Type} : List (Option α) → Option (List α)
  | [] => some []
  | o :: l =>
    match o, allSome l with
    | some x, some xs => some (x :: xs)
    | _, _ => none

/-! ## Presets (R17, R175) -/

/-- A preset entry as bytes (R175). -/
def Preset.encode (p : Preset) : List Byte :=
  [byte (flagBits [p.mask.fresh, p.mask.flex, p.mask.freezer, p.mask.ice, p.disabled, p.heaterEnable]),
    byte p.pathSet.code]
  ++ beInt16 p.defaultSetpoint ++ beInt16 p.minSetpoint ++ beInt16 p.maxSetpoint
  ++ [byte p.ladder, byte p.shift] ++ be16 p.doorHold ++ [byte p.boostDepth] ++ be16 p.boostMax ++ [byte p.fallbackOn]

/-- A preset's fields from its bytes; a path set of 3 or more is outside its values (R175). -/
def Preset.decode (l : List Byte) : Option Preset :=
  match PathSet.ofCode (byteAt l 1) with
  | none => none
  | some ps =>
    some { mask := { fresh := bitAt l 0 0, flex := bitAt l 0 1, freezer := bitAt l 0 2, ice := bitAt l 0 3 },
           disabled := bitAt l 0 4, heaterEnable := bitAt l 0 5, pathSet := ps, defaultSetpoint := int16At l 2,
           minSetpoint := int16At l 4, maxSetpoint := int16At l 6, ladder := byteAt l 8, shift := byteAt l 9,
           doorHold := word16At l 10, boostDepth := byteAt l 12, boostMax := word16At l 13, fallbackOn := byteAt l 15 }

/-- A value lies in -500..+700. -/
def inRange700 (v : Int) : Bool := decide (-500 ≤ v) && decide (v ≤ 700)

/-- Every field of a preset lies in its domain (R17). -/
def Preset.inDomain (p : Preset) : Bool :=
  inRange700 p.minSetpoint && inRange700 p.maxSetpoint && decide (p.minSetpoint ≤ p.defaultSetpoint)
    && decide (p.defaultSetpoint ≤ p.maxSetpoint) && decide (p.ladder ≤ 11) && decide (p.shift ≤ 6)
    && decide (p.doorHold ≤ 600) && decide (p.boostDepth ≤ 100) && decide (1 ≤ p.boostMax) && decide (p.boostMax ≤ 480)
    && decide (p.fallbackOn ≤ 60)

/-- A preset read from its bytes and held to its domain (R19, R23). -/
def Preset.read (l : List Byte) : Option Preset := (Preset.decode l).filter Preset.inDomain

/-! ## Ladders (R20, R175) -/

/-- The band nibble of band j: demand in bits 0 and 1, heat in bits 2 and 3 (R175); 0 where there is no band j. -/
def Ladder.nibble (l : Ladder) (j : Nat) : Nat :=
  match l.bands[j]? with
  | none => 0
  | some b => b.demand.code + 4 * b.heat.code

/-- The alarm code of band j (R175); 0 where there is no band j. -/
def Ladder.alarmCode (l : Ladder) (j : Nat) : Nat :=
  match l.bands[j]? with
  | none => 0
  | some b => b.alarm.code

/-- Offset slot j (R175); 0 where there is no offset j. -/
def Ladder.offsetSlot (l : Ladder) (j : Nat) : Int := l.offsets.getD j 0

/-- The alarm attributes of bands 4h to 4h + 3 in one byte (R175). -/
def Ladder.alarmByte (l : Ladder) (h : Nat) : Byte :=
  byte (l.alarmCode (4 * h) + 4 * l.alarmCode (4 * h + 1) + 16 * l.alarmCode (4 * h + 2) + 64 * l.alarmCode (4 * h + 3))

/-- The nibbles of bands 2k and 2k + 1 in one byte (R175). -/
def Ladder.nibbleByte (l : Ladder) (k : Nat) : Byte := byte (l.nibble (2 * k) + 16 * l.nibble (2 * k + 1))

/-- A ladder entry as bytes (R175). -/
def Ladder.encode (l : Ladder) : List Byte :=
  be16 (l.offsets.length * 8192 + l.delay)
  ++ beInt16 (l.offsetSlot 0) ++ beInt16 (l.offsetSlot 1) ++ beInt16 (l.offsetSlot 2) ++ beInt16 (l.offsetSlot 3)
  ++ beInt16 (l.offsetSlot 4) ++ beInt16 (l.offsetSlot 5)
  ++ [l.nibbleByte 0, l.nibbleByte 1, l.nibbleByte 2, l.nibbleByte 3, l.alarmByte 1, l.alarmByte 0]

/-- The nibble of band j in an entry's bytes. -/
def nibbleAt (l : List Byte) (j : Nat) : Nat :=
  if j % 2 = 0 then byteAt l (14 + j / 2) % 16 else byteAt l (14 + j / 2) / 16

/-- The band triple j in an entry's bytes; a code outside its values gives none (R175). -/
def bandAt (l : List Byte) (j : Nat) : Option Band :=
  match DemandAttr.ofCode (nibbleAt l j % 4), HeatAttr.ofCode (nibbleAt l j / 4),
      AlarmAttr.ofCode (word16At l 18 / 4 ^ j % 4) with
  | some d, some h, some a => some { demand := d, heat := h, alarm := a }
  | _, _, _ => none

/-- The separator count in an entry's bytes (R175). -/
def separatorCount (l : List Byte) : Nat := word16At l 0 / 8192

/-- A ladder's fields from its bytes (R175). -/
def Ladder.decode (l : List Byte) : Option Ladder :=
  match allSome ((List.range (separatorCount l + 1)).map (bandAt l)) with
  | none => none
  | some bands =>
    some { offsets := (List.range (separatorCount l)).map (fun j => int16At l (2 + 2 * j)), bands := bands,
           delay := word16At l 0 % 8192 }

/-- Strictly rising. -/
def rising : List Int → Bool
  | [] => true
  | a :: l =>
    match l with
    | [] => true
    | b :: _ => decide (a < b) && rising l

/-- Every field of a ladder lies in its domain (R20). -/
def Ladder.inDomain (l : Ladder) : Bool :=
  decide (1 ≤ l.offsets.length) && decide (l.offsets.length ≤ 6) && decide (l.bands.length = l.offsets.length + 1)
    && l.offsets.all (fun o => decide (-400 ≤ o) && decide (o ≤ 400)) && rising l.offsets && decide (l.delay ≤ 7200)

/-- A separator count of 0 or 7 is refused before any band is read (R22). -/
def Ladder.read (l : List Byte) : Option Ladder :=
  if 1 ≤ separatorCount l ∧ separatorCount l ≤ 6 then (Ladder.decode l).filter Ladder.inDomain else none

/-! ## Steps and programs (R134, R175) -/

/-- A step entry as bytes (R175). -/
def Step.encode (st : Step) : List Byte :=
  [byte (flagBits [st.heater, st.lowerFan, st.upperFan]),
    byte (st.endKind.code + 4 * flagBits [st.abortOnTimeout, st.last, st.notify, st.measure])]
  ++ be16 st.duration ++ beInt16 st.threshold ++ be16 st.timeout ++ [byte st.next]

/-- A step's fields from its bytes (R175). -/
def Step.decode (l : List Byte) : Option Step :=
  match EndKind.ofCode (byteAt l 1 % 4) with
  | none => none
  | some k =>
    some { heater := bitAt l 0 0, lowerFan := bitAt l 0 1, upperFan := bitAt l 0 2, endKind := k,
           abortOnTimeout := bitAt l 1 2, last := bitAt l 1 3, notify := bitAt l 1 4, measure := bitAt l 1 5,
           duration := word16At l 2, threshold := int16At l 4, timeout := word16At l 6, next := byteAt l 8 }

/-- Every field of a step lies in its domain (R134). -/
def Step.inDomain (st : Step) : Bool :=
  decide (1 ≤ st.duration) && decide (st.duration ≤ 65535) && inRange700 st.threshold && decide (1 ≤ st.timeout)
    && decide (st.timeout ≤ 65535) && decide (st.next ≤ 31)

/-- A step read from its bytes and held to its domain. -/
def Step.read (l : List Byte) : Option Step := (Step.decode l).filter Step.inDomain

/-- A program entry as bytes (R175). -/
def Program.encode (g : Program) : List Byte :=
  [byte (flagBits [g.valid, decide (g.path = .lower), g.compressorOff]), byte g.head, byte g.exitHead]

/-- A program's fields from its bytes (R175). -/
def Program.decode (l : List Byte) : Program :=
  { valid := bitAt l 0 0, path := if bitAt l 0 1 then .lower else .upper, compressorOff := bitAt l 0 2,
    head := byteAt l 1, exitHead := byteAt l 2 }

/-- Every field of a program lies in its domain (R134). -/
def Program.inDomain (g : Program) : Bool := decide (g.head ≤ 31) && decide (g.exitHead ≤ 31)

/-- A program read from its bytes and held to its domain. -/
def Program.read (l : List Byte) : Option Program := (some (Program.decode l)).filter Program.inDomain

/-! ## Table kinds (R160) -/

/-- The six table kinds. -/
inductive TableKind where
  | conversion | preset | ladder | step | program | global
deriving DecidableEq, Repr

/-- The kind in bits 5 to 7 of a kind and index byte (spec/11). -/
def TableKind.ofCode : Nat → Option TableKind
  | 0 => some .conversion
  | 1 => some .preset
  | 2 => some .ladder
  | 3 => some .step
  | 4 => some .program
  | 5 => some .global
  | _ => none

/-- The size of an entry (R175). -/
def TableKind.entrySize : TableKind → Nat
  | .conversion => 2
  | .preset => 16
  | .ladder => 20
  | .step => 9
  | .program => 3
  | .global => 1

/-- The number of entries of a kind (R160). -/
def TableKind.count : TableKind → Nat
  | .conversion => 17
  | .preset => 16
  | .ladder => 12
  | .step => 32
  | .program => 8
  | .global => 3

/-- A global parameter (spec/11): ambient gain, door weight, auto-defrost program. -/
def Tables.global (t : Tables) : Nat → Nat
  | 0 => t.ambientGain
  | 1 => t.doorWeight
  | _ => t.autoProgram

/-- The bytes of an entry as it stands in the working table (R160). -/
def Tables.entry (t : Tables) (k : TableKind) (i : Nat) : List Byte :=
  match k with
  | .conversion => beInt16 (convPoint t.conv i)
  | .preset => (t.preset i).encode
  | .ladder => (t.ladder i).encode
  | .step => (t.step i).encode
  | .program => (t.program i).encode
  | .global => [byte (t.global i)]

/-! ## The image (R168, spec/11) -/

/-- Point value in -1000..+1000 (R6). -/
def pointInDomain (v : Int) : Bool := decide (-1000 ≤ v) && decide (v ≤ 1000)

/-- Non-increasing (R5). -/
def nonIncreasing : List Int → Bool
  | [] => true
  | a :: l =>
    match l with
    | [] => true
    | b :: _ => decide (b ≤ a) && nonIncreasing l

/-- The conversion table passes the checks of R7. -/
def Tables.convValid (t : Tables) : Bool := t.conv.all pointInDomain && nonIncreasing t.conv

/-- Every zone has a preset whose mask contains it (R23). -/
def Tables.zonesServed (t : Tables) : Bool :=
  t.presets.any (·.mask.fresh) && t.presets.any (·.mask.flex) && t.presets.any (·.mask.freezer) && t.presets.any (·.mask.ice)

/-- The auto-defrost program is a valid program on LOWER (R137, R138). -/
def Tables.autoValid (t : Tables) : Bool :=
  decide (t.autoProgram ≤ 7) && (t.program t.autoProgram).valid && decide ((t.program t.autoProgram).path = .lower)

/-- Every program with its valid flag set passes the chain test (R136). -/
def Tables.chainsValid (t : Tables) : Bool := t.programs.all (·.chainsValid t.steps)

/-- The contents pass the checks of R7, R23, R138 and R168. -/
def Tables.valid (t : Tables) : Bool :=
  t.convValid && t.zonesServed && t.chainsValid && t.autoValid && decide (t.ambientGain ≤ 40) && decide (t.doorWeight ≤ 15)

/-- n entries of a size, read from an area from an offset on. -/
def readEntries {α : Type} (read : List Byte → Option α) (l : List Byte) (from_ size n : Nat) : Option (List α) :=
  allSome ((List.range n).map fun i => read (areaAt l (from_ + size * i) size))

/-- The tables of an image body of format 1, each entry held to its domain (spec/11). -/
def readBody (body : List Byte) : Option Tables :=
  match readEntries Preset.read body 37 16 16, readEntries Ladder.read body 293 20 12, readEntries Step.read body 533 9 32,
      readEntries Program.read body 821 3 8 with
  | some presets, some ladders, some steps, some programs =>
    some { conv := (List.range 17).map (fun i => int16At body (3 + 2 * i)), presets := presets, ladders := ladders,
           steps := steps, programs := programs, ambientGain := byteAt body 0, doorWeight := byteAt body 1,
           autoProgram := byteAt body 2 }
  | _, _, _, _ => none

/-- The length of a body of format 1 (spec/11). -/
def bodyLength : Nat := 845

/-- The image body of the working tables (spec/11). -/
def Tables.body (t : Tables) : List Byte :=
  [byte t.ambientGain, byte t.doorWeight, byte t.autoProgram] ++ t.conv.flatMap beInt16 ++ t.presets.flatMap Preset.encode
  ++ t.ladders.flatMap Ladder.encode ++ t.steps.flatMap Step.encode ++ t.programs.flatMap Program.encode

/-- The image header of a body (spec/11). -/
def imageHeader (version : Nat) (body : List Byte) : List Byte :=
  be16 0xE41C ++ [byte 1] ++ be16 version ++ be16 bodyLength ++ be16 (crc16 body).toNat

/-- The header and the CRC are right (R168); an absent byte reads 0xFF. -/
def headerGood (header body : List Byte) : Bool :=
  decide (word16At header 0 = 0xE41C) && decide (byteAt header 2 = 1) && decide (word16At header 5 = bodyLength)
    && decide ((crc16 (areaAt body 0 bodyLength)).toNat = word16At header 7)

/-- An image is accepted: its version and tables (R168). -/
def acceptImage (header body : List Byte) : Option (Nat × Tables) :=
  if headerGood header body then
    match (readBody body).filter Tables.valid with
    | some t => some (word16At header 3, t)
    | none => none
  else none

/-! ## The settings record (R169, spec/11) -/

/-- What a settings record holds. -/
structure Settings where
  zones : PerZone (Nat × Int)
  panel : PerZone Bool
  accounting : Accounting
deriving DecidableEq, Repr

/-- A panel map byte (spec/11): FRESH to ICE in bits 0 to 3. -/
def panelByte (m : PerZone Bool) : Byte := byte (flagBits m.toList)

/-- A panel map from its byte; bits 4 to 7 are ignored (spec/11). -/
def panelOf (b : Byte) : PerZone Bool :=
  { fresh := b.getLsbD 0, flex := b.getLsbD 1, freezer := b.getLsbD 2, ice := b.getLsbD 3 }

/-- The fields of the settings record before its CRC (spec/11). -/
def Settings.fields (x : Settings) : List Byte :=
  (x.zones.toList.flatMap fun z => [byte z.1] ++ beInt16 z.2) ++ [panelByte x.panel] ++ be16 x.accounting.accumulator
  ++ be16 x.accounting.interval ++ be32 x.accounting.age

/-- The settings record (spec/11). -/
def Settings.encode (x : Settings) : List Byte := x.fields ++ be16 (crc16 x.fields).toNat

/-- A zone's fields in the record. -/
def settingsZone (l : List Byte) (k : Nat) : Nat × Int := (byteAt l (3 * k), int16At l (3 * k + 1))

/-- The record read back, when its CRC matches (R169). -/
def Settings.read (l : List Byte) : Option Settings :=
  if (crc16 (areaAt l 0 21)).toNat = word16At l 21 then
    some { zones := { fresh := settingsZone l 0, flex := settingsZone l 1, freezer := settingsZone l 2,
                      ice := settingsZone l 3 },
           panel := panelOf (l.getD 12 0xFF),
           accounting := { accumulator := word16At l 13, interval := word16At l 15, age := word32At l 17 } }
  else none

/-! ## Request frames (spec/11, R174) -/

/-- A request frame: the count of bytes received and the bytes kept (R151). -/
structure Frame where
  count : Nat
  bytes : List Byte
deriving DecidableEq, Repr

/-- The length byte of a frame. -/
def Frame.lengthByte (f : Frame) : Nat := byteAt f.bytes 0

/-- The command code of a frame of two bytes or more. -/
def Frame.code (f : Frame) : Option Byte := f.bytes[1]?

/-- The code a response echoes: 0 for a frame of fewer than two bytes (R154). -/
def Frame.echo (f : Frame) : Byte := f.code.getD 0

/-- One-byte argument k. -/
def Frame.arg (f : Frame) (k : Nat) : Nat := byteAt f.bytes (2 + k)

/-- Unsigned two-byte argument from offset k of the arguments. -/
def Frame.arg16 (f : Frame) (k : Nat) : Nat := word16At f.bytes (2 + k)

/-- Signed two-byte argument from offset k of the arguments. -/
def Frame.argInt (f : Frame) (k : Nat) : Int := int16At f.bytes (2 + k)

/-- A zone byte (R174). -/
def zoneOf : Nat → Option Zone
  | 0 => some .fresh
  | 1 => some .flex
  | 2 => some .freezer
  | 3 => some .ice
  | _ => none

/-- The zone a frame names. -/
def Frame.zone (f : Frame) : Option Zone := zoneOf (f.arg 0)

/-- The table kind a frame names (spec/11). -/
def Frame.tableKind (f : Frame) : Option TableKind := TableKind.ofCode (f.arg 0 / 32)

/-- The table index a frame names (spec/11). -/
def Frame.tableIndex (f : Frame) : Nat := f.arg 0 % 32

/-- The entry a WRITE_TABLE carries. -/
def Frame.entry (f : Frame) (k : TableKind) : List Byte := areaAt f.bytes 3 k.entrySize

/-- The check byte: the last byte of the frame. -/
def Frame.check (f : Frame) : Byte := f.bytes.getLastD 0

/-- The bytes the check is computed over (R153). -/
def Frame.checked (f : Frame) : List Byte := f.bytes.dropLast

end Sys2Proof.Machine
end

