-- ==== Sys2Proof/Machine/Store.lean ====
section
/-!
DEFINITION. The image store: the loads, the beginning, the pages and the ends of a save, and the bytes the part sends to the
memory (R167 to R173).
-/
namespace Sys2Proof.Machine

/-! ## The operations on the memory's bus (R167) -/

/-- The bytes of a read operation's command. -/
def spiRead (address : Nat) : List Byte := [0x03#8] ++ be16 address

/-- The bytes of a write enable. -/
def spiWriteEnable : List Byte := [0x06#8]

/-- The bytes of a page program. -/
def spiPageProgram (pg : Page) : List Byte := [0x02#8] ++ be16 pg.address ++ pg.bytes

/-- The byte of a status read. -/
def spiStatusRead : List Byte := [0x05#8]

/-- What begins a page: write enable, then the page program (R172). -/
def Page.opening (pg : Page) : List (List Byte) := [spiWriteEnable, spiPageProgram pg]

/-- What ends a page whose busy bit has cleared: the status read that finds it clear, then the read-back (R172). -/
def Page.closing (pg : Page) : List (List Byte) := [spiStatusRead, spiRead pg.address]

/-- The page being programmed, while a save is in flight. -/
def StoreRecord.page (r : StoreRecord) : Option Page :=
  match r.job with
  | none => none
  | some j => j.pages.head?

/-- The operations that begin the first page of a save. -/
def SaveJob.opening (j : SaveJob) : List (List Byte) :=
  match j.pages with
  | [] => []
  | pg :: _ => pg.opening

/-! ## Loads (R168, R169) -/

/-- The reads of the image load: the header's page, then the body (R168). -/
def imageReads : List (List Byte) := [spiRead 0x0000, spiRead 0x0020]

/-- The image load ends: the accepted image, or the built-in tables with LOAD_IMAGE and STORE (R168). The version of an accepted
header is recorded here; IDENTIFY returns it once the settings load has ended too (R158). -/
def State.loadImage (s : State) (header body : List Byte) : State :=
  match acceptImage header body with
  | some (v, t) =>
    { s with
      tables := t, store := { s.store with imageLoaded := true, imageState := .accepted, imageVersion := v, sent := imageReads } }
  | none =>
    State.raise { s with
      tables := builtInTables,
      store := { s.store with
        imageLoaded := true, imageState := .builtIn, imageVersion := 0, lastFailure := some .loadImage,
        sent := imageReads } } .store

/-- The interval of a loaded record is clamped into its range (R126). -/
def Accounting.loaded (a : Accounting) : Accounting := { a with interval := clampNat 240 1440 a.interval }

/-- Every zone takes its stored choice, or its factory choice where there is no record (R45). -/
def State.settleZones (s : State) (stored : Option (PerZone (Nat × Int))) : State :=
  { s with
    zones :=
      { fresh := s.tables.settleZone .fresh (stored.map (·.fresh)) s.zones.fresh,
        flex := s.tables.settleZone .flex (stored.map (·.flex)) s.zones.flex,
        freezer := s.tables.settleZone .freezer (stored.map (·.freezer)) s.zones.freezer,
        ice := s.tables.settleZone .ice (stored.map (·.ice)) s.zones.ice } }

/-- The address of the settings record (R167). -/
def settingsAddress : Nat := 0x1800

/-- The settings load ends: the record is handed to its owners, or LOAD_SETTINGS and STORE (R169). -/
def State.loadSettings (s : State) (record : List Byte) : State :=
  match Settings.read record with
  | some x =>
    { s.settleZones (some x.zones) with
      panel := x.panel, acct := x.accounting.loaded,
      store := { s.store with
        settingsLoaded := true, settingsState := .loaded,
        stored := some (x.accounting.accumulator, x.accounting.age), sent := [spiRead settingsAddress] } }
  | none =>
    State.raise { s.settleZones none with
      store := { s.store with
        settingsLoaded := true, settingsState := .defaults, stored := none, lastFailure := some .loadSettings,
        sent := [spiRead settingsAddress] } } .store

/-! ## Pages -/

/-- A page padded with 0xFF to its 32 bytes (spec/11). -/
def fillPage (l : List Byte) : List Byte := l ++ List.replicate (32 - l.length) 0xFF

/-- The owners' values as a settings record (R169, R171). -/
def State.settings (s : State) : Settings :=
  { zones := s.zones.map (fun z => (z.preset, z.setpoint)), panel := s.panel, accounting := s.acct }

/-- The settings page at 0x1800 (spec/11). -/
def State.settingsPage (s : State) : Page := { address := settingsAddress, bytes := fillPage s.settings.encode }

/-- The pages of a body from 0x0020: 27 of them, the last one partly (spec/11). -/
def bodyPages (body : List Byte) : List Page :=
  (List.range 27).map fun i => { address := 0x20 + 32 * i, bytes := (body.drop (32 * i)).take 32 }

/-- The pages of a table save: the body first, the header page last (R173). -/
def imagePages (version : Nat) (body : List Byte) : List Page :=
  bodyPages body ++ [{ address := 0, bytes := fillPage (imageHeader version body) }]

/-- The image version after this one: 65535 is followed by 1 (R173). -/
def nextVersion (v : Nat) : Nat := if 65535 ≤ v then 1 else v + 1

/-! ## Begin (R171, R173) -/

/-- A save begins with the operations of its first page; before are those the same event has sent already (R172). -/
def StoreRecord.begin (r : StoreRecord) (j : SaveJob) (before : List (List Byte)) : StoreRecord :=
  { r with job := some j, sent := before ++ j.opening }

/-- A settings save begins: the dirty flag is cleared, the quiet timer becomes absent (R171). -/
def State.beginSettingsSave (s : State) (before : List (List Byte)) : State :=
  let r : StoreRecord := { s.store with dirty := false, quiet := none, settingsDue := false }
  { s with
    store := r.begin
      { kind := .settings, pages := [s.settingsPage], busy := 0, version := 0,
        accounting := (s.acct.accumulator, s.acct.age) } before }

/-- A table save begins with the tables as they stand (R173). -/
def State.beginTablesSave (s : State) (before : List (List Byte)) : State :=
  let v := nextVersion s.store.imageVersion
  let r : StoreRecord := { s.store with tablesRetry := none, tablesDue := false }
  { s with
    store := r.begin
      { kind := .tables, pages := imagePages v s.tables.body, busy := 0, version := v, accounting := (0, 0) } before }

/-- A settings save is due: it begins at once when the save state is IDLE and no settings retry timer runs, and waits
otherwise (R171). -/
def State.settingsSaveDue (s : State) : State :=
  if s.store.saveIdle && s.store.settingsRetry.isNone then s.beginSettingsSave []
  else { s with store := { s.store with settingsDue := true } }

/-! ## End (R172, R173) -/

/-- A settings save is due and waits for no retry timer (R171). -/
def StoreRecord.settingsWaits (r : StoreRecord) : Bool := r.settingsDue && r.settingsRetry.isNone

/-- What waits for the end of a save begins: a table save whose retry expired (R173), or a settings save that is due (R171); of the
two together one begins, and the other at that one's end, in a free order (log entry 21). Its first operations follow those of the
page that ended the save before. -/
def State.nextSave (s : State) : State :=
  if s.store.tablesDue && s.store.settingsWaits then
    let t : State := { s with free := s.free + 1 }
    if Config.pick s.free % 2 = 0 then t.beginTablesSave s.store.sent else t.beginSettingsSave s.store.sent
  else if s.store.tablesDue then s.beginTablesSave s.store.sent
  else if s.store.settingsWaits then s.beginSettingsSave s.store.sent
  else s

/-- The record after every page of a save is written (R172, R173). -/
def StoreRecord.saved (r : StoreRecord) (j : SaveJob) : StoreRecord :=
  match j.kind with
  | .settings => { r with job := none, settingsRetry := none, stored := some j.accounting }
  | .tables => { r with job := none, tablesRetry := none, imageState := .accepted, imageVersion := j.version }

/-- The record after a failed page (R172). -/
def StoreRecord.failed (r : StoreRecord) (k : SaveKind) : StoreRecord :=
  match k with
  | .settings =>
    { r with job := none, settingsRetry := some 600, dirty := true, lastFailure := some .saveSettings }
  | .tables => { r with job := none, tablesRetry := some 600, lastFailure := some .saveTables }

/-- An event of the store has sent these operations (R167). -/
def State.sends (s : State) (ops : List (List Byte)) : State := { s with store := { s.store with sent := ops } }

/-- The save is complete; what waits for it begins. -/
def State.finishSave (s : State) (j : SaveJob) : State := State.nextSave { s with store := s.store.saved j }

/-- A page has failed: STORE is raised, the retry timer starts, what waits begins (R172). -/
def State.failSave (s : State) (j : SaveJob) : State :=
  State.nextSave (State.raise { s with store := s.store.failed j.kind } .store)

/-- The next page of a save begins (R172). -/
def State.nextPage (s : State) (j : SaveJob) (pg : Page) (rest : List Page) : State :=
  { s with store := { s.store with job := some { j with pages := pg :: rest, busy := 0 }, sent := s.store.sent ++ pg.opening } }

/-- A page's busy bit has cleared and it was read back (R172). -/
def State.pageWritten (s : State) (j : SaveJob) (readBack : List Byte) : State :=
  match j.pages with
  | [] => s.finishSave j
  | pg :: rest =>
    let t := s.sends pg.closing
    if readBack = pg.bytes then
      match rest with
      | [] => t.finishSave j
      | next :: others => t.nextPage j next others
    else t.failSave j

end Sys2Proof.Machine
end

