-- ==== Sys2Proof/Machine/Views.lean ====
section
/-!
DEFINITION. The views that IDENTIFY, GET_ZONE and GET_SYSTEM return, field by field in the order of R44, R79, R105, R124, R147, R11,
R55, R156 and R167, each encoded under R174 (widths and absent fields: log entry 16).
-/
namespace Sys2Proof.Machine

/-! ## Fields (R174) -/

/-- A flag: 0 clear or no, 1 set or yes. -/
def vFlag (b : Bool) : List Byte := [if b then 1 else 0]

/-- A one-byte field. -/
def v1 (n : Nat) : List Byte := [byte n]

/-- A one-byte field that may be absent: all ones. -/
def v1o : Option Nat → List Byte
  | none => [0xFF]
  | some n => [byte n]

/-- A two-byte field that may be absent: all ones. -/
def v2o : Option Nat → List Byte
  | none => be16 0xFFFF
  | some n => be16 n

/-- A count of seconds that may be absent: all ones. -/
def v4o : Option Nat → List Byte
  | none => be32 0xFFFFFFFF
  | some n => be32 n

/-- A temperature that may be absent: 0x8000. -/
def vTemp : Option Int → List Byte
  | none => be16 0x8000
  | some t => beInt16 t

/-! ## Codes (R174): the values in the order the owning rules list them, or the model's where none lists them (log entry 16) -/

def ChannelState.code : ChannelState → Nat
  | .unseeded => 0
  | .ok => 1
  | .fault => 2

def FaultKind.code : FaultKind → Nat
  | .none => 0
  | .short => 1
  | .openLead => 2

def AlarmState.code : AlarmState → Nat
  | .none => 0
  | .pendingWarm => 1
  | .warm => 2
  | .pendingCold => 3
  | .cold => 4

def ZoneMode.code : ZoneMode → Nat
  | .normal => 0
  | .fallback => 1
  | .disabled => 2

def PathState.code : PathState → Nat
  | .available => 0
  | .blocked => 1
  | .faulted => 2
  | .locked => 3

def CycleState.code : CycleState → Nat
  | .off => 0
  | .starting => 1
  | .running => 2
  | .transfer => 3
  | .stopping => 4

def StartPhase.code : StartPhase → Nat
  | .valve => 0
  | .run => 1

def LinkState.code : LinkState → Nat
  | .unknown => 0
  | .up => 1
  | .lost => 2

def DriveState.code : DriveState → Nat
  | .stopped => 0
  | .running => 1
  | .fault => 2

def DriveFaultCause.code : DriveFaultCause → Nat
  | .reported => 0
  | .startFailure => 1
  | .runaway => 2
  | .stall => 3

/-- R112 lists no order; NONE first is the model's choice (log entry 16). -/
def CondenserFault.code : CondenserFault → Nat
  | .none => 0
  | .faulted => 1
  | .retry => 2

def FanDelay.code : FanDelay → Nat
  | .disarmed => 0
  | .armed => 1
  | .active => 2

def Motion.code : Motion → Nat
  | .idle => 0
  | .moving => 1
  | .homing => 2

/-- UPPER, LOWER, MOVING toward UPPER, MOVING toward LOWER (R116). -/
def Valve.code : Valve → Nat
  | .standing .upper => 0
  | .standing .lower => 1
  | .moving .upper _ _ => 2
  | .moving .lower _ _ => 3

def ManagerState.code : ManagerState → Nat
  | .idle => 0
  | .due => 1
  | .running => 2
  | .exiting => 3
  | .holdoff => 4

def RunKind.code : RunKind → Nat
  | .automatic => 0
  | .manual => 1

def EndCause.code : EndCause → Nat
  | .condition => 0
  | .timeout => 1
  | .time => 2

/-- R142, R144 and R145 name one outcome each; this order is the model's choice (log entry 16). -/
def ProgramOutcome.code : ProgramOutcome → Nat
  | .completed => 0
  | .aborted => 1
  | .cancelled => 2

def ImageState.code : ImageState → Nat
  | .builtIn => 0
  | .accepted => 1

def SettingsState.code : SettingsState → Nat
  | .defaults => 0
  | .loaded => 1

def StoreFailure.code : StoreFailure → Nat
  | .loadImage => 0
  | .loadSettings => 1
  | .saveSettings => 2
  | .saveTables => 3

/-- The save state: IDLE, SAVING_SETTINGS, SAVING_TABLES (R167). -/
def StoreRecord.saveCode (r : StoreRecord) : Nat :=
  match r.job with
  | none => 0
  | some j =>
    match j.kind with
    | .settings => 1
    | .tables => 2

/-- The level of a demand: IDLE has level 0 (R15). -/
def Demand.level : Demand → Nat
  | .idle => 0
  | .calling .one => 1
  | .calling .two => 2
  | .calling .three => 3

/-- IDLE 0, CALLING 1 (R15). -/
def Demand.code : Demand → Nat
  | .idle => 0
  | .calling _ => 1

def CallLevel.code : CallLevel → Nat
  | .one => 1
  | .two => 2
  | .three => 3

/-- The status codes (spec/11). -/
def Status.code : Status → Nat
  | .none => 0x00
  | .ok => 0x01
  | .okClamped => 0x02
  | .checkError => 0x10
  | .badLength => 0x11
  | .unknownCommand => 0x12
  | .starting => 0x13
  | .denied => 0x14
  | .badArgument => 0x15
  | .busy => 0x16
  | .notRunning => 0x17
  | .invalidChain => 0x18

end Sys2Proof.Machine

namespace Sys2Proof

/-- Zone codes (R174). -/
def Zone.code : Zone → Nat
  | .fresh => 0
  | .flex => 1
  | .freezer => 2
  | .ice => 3

/-- Path codes (R174). -/
def Path.code : Path → Nat
  | .upper => 0
  | .lower => 1

/-- Port S, Port A, Port B in the order of R150. -/
def Port.code : Port → Nat
  | .s => 0
  | .a => 1
  | .b => 2

end Sys2Proof

namespace Sys2Proof.Machine

/-! ## IDENTIFY and GET_ZONE -/

/-- The image store has finished loading: both loads have ended (R1, R158, R170). -/
def StoreRecord.loaded (r : StoreRecord) : Bool := r.imageLoaded && r.settingsLoaded

/-- The image version that IDENTIFY returns: 0 until the image store has finished loading (R158; log entry 40), and from then on that of
the accepted image, 0 for the built-in tables (R168). -/
def StoreRecord.shownVersion (r : StoreRecord) : Nat := if r.loaded then r.imageVersion else 0

/-- The identity (R158, spec/11). -/
def State.identity (s : State) : List Byte :=
  be16 0x0C41 ++ [Config.siliconRevision] ++ be16 s.store.shownVersion ++ vFlag s.ready

/-- The view of a zone (R44). -/
def State.zoneView (s : State) (z : Zone) : List Byte :=
  let r := s.zones.get z
  let c := s.channels.get z.channel
  v1 r.preset ++ beInt16 r.setpoint ++ v1 r.mode.code ++ vTemp r.reported ++ v1o r.band ++ v1 r.demand.code
  ++ v1 r.demand.level ++ vFlag r.heat ++ v1 r.alarm.code ++ be32 r.alarmTimer ++ vFlag r.boost.isSome
  ++ v1o (r.boost.map fun b => b.port.code) ++ v4o (r.boost.map fun b => b.expiry - s.now)
  ++ vFlag r.doorOpen ++ v4o (r.doorHold.map seconds) ++ v1 c.state.code ++ v1 c.faultKind.code

/-! ## GET_SYSTEM (R158) -/

/-- A queue or served set: a count, then zone, path set, level and seconds since, front first (R79). -/
def entryList (now : Nat) (l : List Entry) : List Byte :=
  v1 l.length ++ l.flatMap fun e => v1 e.zone.code ++ v1 e.pathSet.code ++ v1 e.level.code ++ be32 (now - e.time)

/-- A path record (R79). -/
def PathRecord.view (r : PathRecord) : List Byte := v1 r.state.code ++ v1 r.count ++ v4o r.timer

/-- The arbiter's state (R79). -/
def State.arbiterView (s : State) : List Byte :=
  entryList s.now s.arb.queue ++ entryList s.now s.arb.served ++ s.arb.paths.upper.view ++ s.arb.paths.lower.view
  ++ v1o (s.arb.turnPath.map Path.code) ++ vFlag s.arb.holdover ++ vFlag s.arb.yieldDue

/-- The last status (R105). -/
def replyView : Option DriveReply → List Byte
  | none => v1o none ++ v2o none ++ v1o none
  | some r => v1 r.state.code ++ be16 r.units ++ v1 r.code

/-- The last drive fault (R105). -/
def lastFaultView : Option (DriveFaultCause × Nat) → List Byte
  | none => v1o none ++ v1o none
  | some (c, n) => v1 c.code ++ v1 n

/-- The cycle controller's records (R105). -/
def State.cycleView (s : State) : List Byte :=
  v1 s.cyc.state.code ++ v1o (s.cyc.path.map Path.code) ++ v1o (s.cyc.phase.map StartPhase.code) ++ be16 s.cyc.speed
  ++ v2o s.cyc.target ++ v4o s.cyc.turnTimer ++ v4o s.cyc.onTimer ++ vFlag s.arb.holdover
  ++ be32 (s.cyc.lastStop + 180 - s.now) ++ v2o (s.cap.power.map (·.rpm))
  ++ v4o (s.cap.power.map fun c => c.expiry - s.now) ++ vFlag s.cap.condenser ++ v1 s.link.state.code
  ++ replyView s.link.lastStatus ++ v1 s.flt.times.length ++ s.flt.times.flatMap (fun t => be32 (s.now - t))
  ++ be32 (s.flt.waitEnd.getD 0 - s.now) ++ vFlag s.flt.lockout.isSome ++ v4o (s.flt.lockout.map fun t => s.now - t)
  ++ lastFaultView s.flt.last

/-- A fan (R124). -/
def FanRecord.view (f : FanRecord) : List Byte := v1 f.duty ++ be16 f.tach ++ v1 f.low

/-- A damper (R124). -/
def DamperRecord.view (d : DamperRecord) : List Byte := v2o d.position ++ be16 d.target ++ v1 d.motion.code

/-- A heater (R124): request, output, interlocked, limited, resting, on-time, seconds left of a rest. -/
def heaterView (requested output interlocked limited : Bool) (onTime : Nat) (rest : Option Nat) : List Byte :=
  vFlag requested ++ vFlag output ++ vFlag interlocked ++ vFlag limited ++ vFlag rest.isSome ++ be32 onTime ++ v4o rest

/-- The forced values, in the order of R120. -/
def Forced.view (f : Forced) : List Byte :=
  be16 f.speed ++ v1 f.valve.code ++ v1 f.fans.upper ++ v1 f.fans.lower ++ v1 f.fans.condenser
  ++ vFlag f.dampers.flexLower ++ vFlag f.dampers.flexUpper ++ vFlag f.dampers.ice ++ vFlag f.lowerHeater
  ++ vFlag f.flexHeater

/-- The actuator block's records (R124). -/
def State.actuatorView (s : State) : List Byte :=
  s.act.fans.upper.view ++ s.act.fans.lower.view ++ s.act.fans.condenser.view ++ v1 s.act.condenserFault.code
  ++ v4o s.act.retry ++ vFlag s.act.afterRun.isSome ++ v4o s.act.afterRun ++ v1 s.act.fanDelay.code
  ++ s.act.dampers.flexLower.view ++ s.act.dampers.flexUpper.view ++ s.act.dampers.ice.view ++ v1 s.act.valve.code
  ++ heaterView s.act.lowerHeater.requested s.act.lowerHeater.output s.interlocked s.act.lowerHeater.limited
      s.act.lowerHeater.onTime none
  ++ heaterView s.act.flexHeater.requested s.act.flexHeater.output false false s.act.flexHeater.onTime s.act.flexHeater.rest
  ++ vFlag s.serviceHold ++ be32 (s.now - s.act.lastValidS)
  ++ (match s.act.forced with
      | none => []
      | some f => f.view)

/-- The fields that the manager's view has in its present state alone (R147). -/
def State.managerStateView (s : State) : List Byte :=
  match s.mgr.state with
  | .due =>
    be32 (s.now - s.mgr.dueMoment.getD s.now) ++ be32 (s.mgr.deferralEnd.getD 0 - s.now)
    ++ be32 ((s.mgr.waitStart.map fun w => w + 1800 - s.now).getD 0) ++ vFlag s.mgr.releaseAsked
  | .running => v1o s.mgr.step ++ v4o s.mgr.stepTimer
  | .exiting => v1o s.mgr.step ++ v4o s.mgr.stepTimer
  | .holdoff => be32 (s.mgr.holdoffEnd.getD 0 - s.now)
  | .idle => []

/-- The last measurement (R147). -/
def measurementView : Option (Nat × Measurement) → List Byte
  | none => v1o none ++ v4o none ++ v1o none
  | some (g, m) => v1 g ++ be32 m.elapsed ++ v1 m.cause.code

/-- The last outcome (R147). -/
def outcomeView (now : Nat) : Option (Nat × ProgramOutcome × Nat) → List Byte
  | none => v1o none ++ v1o none ++ v4o none
  | some (g, o, t) => v1 g ++ v1 o.code ++ be32 (now - t)

/-- The defrost manager's record (R147). -/
def State.managerView (s : State) : List Byte :=
  v1 s.mgr.state.code ++ v1o s.mgr.program ++ v1o (s.mgr.kind.map RunKind.code) ++ s.managerStateView
  ++ be16 s.acct.accumulator ++ be16 s.acct.interval ++ be32 s.acct.age
  ++ v4o (s.mgr.deferralEnd.map fun t => t - s.now) ++ v1 s.tables.doorWeight ++ v1 s.tables.autoProgram
  ++ measurementView s.mgr.lastMeasurement ++ outcomeView s.now s.mgr.lastOutcome

/-- A channel record (R11). The width of the last code, two bytes, is the model's choice (log entry 16). -/
def ChannelRecord.view (c : ChannelRecord) : List Byte :=
  v1 c.state.code ++ v1 c.faultKind.code ++ v2o c.lastCode ++ vTemp c.temperature

/-- A door record (R55). -/
def DoorRecord.view (d : DoorRecord) : List Byte :=
  vFlag d.isOpen ++ v4o d.openTimer ++ vFlag d.longReported ++ vFlag d.lapsed

/-- The image store's state (R167). The retry timer of a settings save comes before that of a table save (log entry 16). -/
def StoreRecord.view (r : StoreRecord) : List Byte :=
  v1 r.imageState.code ++ be16 r.imageVersion ++ v1 r.settingsState.code ++ v1 r.saveCode ++ v4o r.settingsRetry
  ++ v4o r.tablesRetry ++ v1o (r.lastFailure.map StoreFailure.code)

/-- The system view (R158). -/
def State.systemView (s : State) : List Byte :=
  s.arbiterView ++ s.cycleView ++ s.actuatorView ++ s.managerView ++ s.channels.toList.flatMap ChannelRecord.view
  ++ s.doors.toList.flatMap DoorRecord.view ++ [panelByte s.panel] ++ s.store.view

/-! ## Response records (R157) -/

/-- The bytes of a response record: status, echoed code, data length, data, CRC-8. -/
def Response.bytes (r : Response) : List Byte :=
  let body := [byte r.status.code, r.echo] ++ be16 r.data.length ++ r.data
  body ++ [crc8 body]

/-- The 7-bit target address that Port A and Port B answer, each on its own bus (R151). -/
def targetAddress : BitVec 7 := 0x4C

/-- What a port answers to the address byte of a transaction and to each byte then written to it: an acknowledge throughout where the
address is its own, and none elsewhere (R151; log entry 25). -/
def acknowledges (address : BitVec 7) (written : List Byte) : List Bool :=
  List.replicate (written.length + 1) (decide (address = targetAddress))

/-- Byte k of a read transaction on Port A or Port B: past the end 0xFF (R151). -/
def State.readByte (s : State) (p : I2cPort) (k : Nat) : Byte := (s.ports.responses.get p.port).bytes.getD k 0xFF

/-- The first n bytes of a read transaction addressed in this state, where the address is the port's (R151; log entry 25). -/
def State.readTransaction (s : State) (p : I2cPort) (address : BitVec 7) (n : Nat) : Option (List Byte) :=
  if address = targetAddress then some ((List.range n).map (s.readByte p)) else none

/-- The bytes sent for a frame of Port S's transmit queue: the sync byte first (R152). -/
def sentBytes (frame : List Byte) : List Byte := 0xA5#8 :: frame

end Sys2Proof.Machine
end

