-- ==== Sys2Proof/Machine/Restart.lean ====
section
/-!
DEFINITION. Device reset, cooling restart, and the entry to and end of service hold, each across the blocks it reaches (R45, R46,
R48, R80, R81, R104, R106, R107, R121, R123, R125, R126, R145, R149, R159, R170).
-/
namespace Sys2Proof.Machine

/-! ## Device reset -/

/-- A door record made from one reading of the raw input (R48): HIGH starts OPEN with its timer at 0. -/
def DoorRecord.read (raw : PinLevel) : DoorRecord :=
  match raw with
  | .low => { DoorRecord.initial with raw := .low }
  | .high => { DoorRecord.initial with raw := .high, openAge := some 0 }

/-- The raw levels as the pins stand. -/
def State.rawLevels (s : State) : DoorLevels :=
  { leftFresh := s.doors.leftFresh.raw, rightFresh := s.doors.rightFresh.raw, flexDrawer := s.doors.flexDrawer.raw,
    freezerDrawer := s.doors.freezerDrawer.raw }

/-- Device reset with the door levels read as it ends: the values of every chapter, the initial door states handed on (R48). The
queue of commands and the model's free counter are not the part's and stand. -/
def State.deviceReset (s : State) (raw : DoorLevels) : State :=
  State.settle (State.viewAllDoors { State.reset with
    pending := s.pending, free := s.free,
    doors := { leftFresh := DoorRecord.read raw.leftFresh, rightFresh := DoorRecord.read raw.rightFresh,
               flexDrawer := DoorRecord.read raw.flexDrawer, freezerDrawer := DoorRecord.read raw.freezerDrawer } })

/-! ## Service hold -/

/-- The rest values of the forced outputs (R121). -/
def Forced.rest : Forced :=
  { speed := 0, valve := .upper, fans := { upper := 0, lower := 0, condenser := 0 },
    dampers := { flexLower := false, flexUpper := false, ice := false }, lowerHeater := false, flexHeater := false }

/-- The entry to service hold (R121): forced values at rest; the arbiter gives up a current turn (R77); the manager's work is
cancelled (R145); the after-run ends (R110); the valve moves to UPPER. -/
def State.enterHold (s : State) : State :=
  let s1 : State := { s with act := { s.act with forced := some Forced.rest, afterRun := none } }
  let s2 := s1.arbiterHoldEntry.cancelManager
  { s2 with act := { s2.act with afterRun := none } }.requestValve .upper

/-- The forced values are discarded, the hold becomes OFF, and a limit set under it is cleared (R123). -/
def State.discardForced (s : State) : State :=
  { s with
    act := { s.act with forced := none, lowerHeater := { s.act.lowerHeater with limited := false } } }

/-- A forced run is stopped through STOPPING (R104). -/
def State.stopForced (s : State) : State :=
  if s.cyc.state = .starting ∨ s.cyc.state = .running then s.stopOrder else s

/-- The arbiter's start check and the manager's due test at the end of the hold, in a free order (R67, R129; log entry 17). -/
def State.afterHold (s : State) : State :=
  let t : State := { s with free := s.free + 1 }
  if Config.pick s.free % 2 = 0 then t.startCheck.dueTest else t.dueTest.startCheck

/-- The end of service hold by a request or by the timeout (R123). -/
def State.endHold (s : State) : State := s.discardForced.stopForced.afterHold

/-! ## Cooling restart (R159), in the order of log entry 22 -/

/-- The zone controller at cooling restart (R46). -/
def State.restartZones (s : State) : State := { s with zones := s.zones.map ZoneRecord.restarted }

/-- The arbiter at cooling restart (R81). -/
def State.restartArbiter (s : State) : State := { s with arb := Arbiter.initial }

/-- The cycle controller's move at cooling restart (R107): through STOPPING where the compressor may be turning, straight to
OFF from the VALVE phase without changing last stop. -/
def State.restartCycleState (s : State) : State :=
  if s.cyc.state = .starting ∧ s.cyc.phase = some .valve then s.enterOff else s.stopOrder

/-- The records cleared with it: fault list, lockout, power cap (R107). -/
def State.restartCycle (s : State) : State :=
  let t := s.restartCycleState
  { t with flt := { t.flt with times := [], lockout := none }, cap := { t.cap with power := none } }

/-- The actuator block at cooling restart (R125): the hold ends, the heaters go off, the limit and the rest are cleared, the
after-run ends. -/
def State.restartActuators (s : State) : State :=
  { s with
    act := { s.act with
      forced := none, afterRun := none,
      lowerHeater := { requested := false, output := false, onTime := 0, limited := false },
      flexHeater := { requested := false, output := false, onTime := 0, rest := none } } }

/-- A cooling restart (R159): each block applies it to its own state, and the due test follows (R149). -/
def State.coolingRestart (s : State) : State :=
  s.restartZones.restartArbiter.cancelManager.restartCycle.restartActuators.dueTest

/-! ## READY (R170) -/

/-- Both loads have ended and every air channel has completed its first sample. -/
def State.readyDue (s : State) : Bool :=
  !s.ready && s.store.imageLoaded && s.store.settingsLoaded && s.airSampled

/-- READY rises and the manager makes its first due test (R129). -/
def State.riseReady (s : State) : State := State.dueTest { s with ready := true }

end Sys2Proof.Machine
end

