-- ==== Sys2Proof/Machine/Requests.lean ====
section
/-!
DEFINITION. The request ports: reception, the taking of a frame, the eight steps of R154, the response record, and the command rules
that step 8 hands a request to (R150 to R166 and the owning rules of the catalogue).
-/
namespace Sys2Proof.Machine

/-! ## Commands and admission (spec/08 "The Command Catalogue", spec/11 "Commands") -/

/-- The commands of the catalogue. -/
inductive Command where
  | identify | getSystem | readEvents | ackEvents | setEventMask | getZone | setSetpoint | setMode | startBoost | cancelBoost
  | limitPower | deferDefrost | runProgram | abortProgram | setPanelMap | restart | readTable | writeTable | saveTables
  | serviceHold | forceOutput
deriving DecidableEq, Repr

/-- The command a code names (spec/11). -/
def Command.ofCode (n : Nat) : Option Command :=
  match n with
  | 0x01 => some .identify
  | 0x02 => some .getSystem
  | 0x03 => some .readEvents
  | 0x04 => some .ackEvents
  | 0x05 => some .setEventMask
  | 0x10 => some .getZone
  | 0x11 => some .setSetpoint
  | 0x12 => some .setMode
  | 0x13 => some .startBoost
  | 0x14 => some .cancelBoost
  | 0x20 => some .limitPower
  | 0x21 => some .deferDefrost
  | 0x22 => some .runProgram
  | 0x23 => some .abortProgram
  | 0x24 => some .setPanelMap
  | 0x25 => some .restart
  | 0x26 => some .readTable
  | 0x30 => some .writeTable
  | 0x31 => some .saveTables
  | 0x32 => some .serviceHold
  | 0x33 => some .forceOutput
  | _ => none

/-- The greatest access level a command admits (spec/08, catalogue). -/
def Command.maxLevel : Command → Nat
  | .identify => 2
  | .getSystem => 2
  | .readEvents => 2
  | .ackEvents => 2
  | .setEventMask => 2
  | .getZone => 2
  | .setSetpoint => 2
  | .setMode => 2
  | .startBoost => 2
  | .cancelBoost => 2
  | .limitPower => 1
  | .deferDefrost => 1
  | .runProgram => 1
  | .abortProgram => 1
  | .setPanelMap => 1
  | .restart => 1
  | .readTable => 1
  | .writeTable => 0
  | .saveTables => 0
  | .serviceHold => 0
  | .forceOutput => 0

/-- The commands the panel map governs on Port B (R156). -/
def Command.mapped : Command → Bool
  | .setSetpoint => true
  | .setMode => true
  | .startBoost => true
  | .cancelBoost => true
  | _ => false

/-- The length byte a command requires (spec/11); for the table commands it depends on the kind, a kind outside the six passes, and
a frame too short to name a kind never has the length required. -/
def Command.lengthByte (c : Command) (f : Frame) : Option Nat :=
  match c with
  | .identify => some 2
  | .getSystem => some 2
  | .readEvents => some 2
  | .ackEvents => some 4
  | .setEventMask => some 4
  | .getZone => some 3
  | .setSetpoint => some 5
  | .setMode => some 4
  | .startBoost => some 5
  | .cancelBoost => some 3
  | .limitPower => some 6
  | .deferDefrost => some 4
  | .runProgram => some 3
  | .abortProgram => some 2
  | .setPanelMap => some 3
  | .restart => some 3
  | .readTable => if f.lengthByte < 3 ∨ f.tableKind.isSome = true then some 3 else none
  | .writeTable => if f.lengthByte < 3 then some 4 else f.tableKind.map fun k => 3 + k.entrySize
  | .saveTables => some 2
  | .serviceHold => some 3
  | .forceOutput => some 5

/-- The command a frame names. -/
def Frame.command (f : Frame) : Option Command :=
  match f.code with
  | none => none
  | some b => Command.ofCode b.toNat

/-- Step 1 of R154: the size is wrong. -/
def Frame.wrongSize (f : Frame) : Bool :=
  decide (f.count < 3) || decide (24 < f.count) || decide (f.lengthByte + 1 ≠ f.count)

/-- Step 2 of R154: the check fails (R153). -/
def Frame.checkFails (f : Frame) : Bool := decide (crc8 f.checked ≠ f.check)

/-- Step 4 of R154: the length is not the one the command requires. -/
def Command.wrongLength (c : Command) (f : Frame) : Bool :=
  match c.lengthByte f with
  | none => false
  | some n => decide (f.lengthByte ≠ n)

/-- Step 7 of R154: the panel map on Port B. -/
def State.mapRefusal (s : State) (p : Port) (c : Command) (f : Frame) : Option Status :=
  if p = .b ∧ c.mapped = true then
    match f.zone with
    | none => some .badArgument
    | some z => if s.panel.get z then none else some .denied
  else none

/-- Steps 4 to 7 of R154 for a known command. -/
def State.commandRefusal (s : State) (p : Port) (c : Command) (f : Frame) : Option Status :=
  if c.wrongLength f then some .badLength
  else if s.ready = false ∧ c ≠ .identify then some .starting
  else if c.maxLevel < p.level then some .denied
  else s.mapRefusal p c f

/-- Steps 1 to 7 of R154: the status of the first that fails. -/
def State.refusal (s : State) (p : Port) (f : Frame) : Option Status :=
  if f.wrongSize then some .badLength
  else if f.checkFails then some .checkError
  else
    match f.command with
    | none => some .unknownCommand
    | some c => s.commandRefusal p c f

/-! ## Responses (R157, R152, R120) -/

/-- What a command rule answers: the state it leaves, the status and the data. -/
structure Answer where
  state : State
  status : Status
  data : List Byte

/-- A refusal of step 8: nothing changes. -/
def Answer.refuse (s : State) (st : Status) : Answer := { state := s, status := st, data := [] }

/-- An answer without data. -/
def Answer.ok (s : State) : Answer := { state := s, status := .ok, data := [] }

/-- OK, or OK_CLAMPED when a quantity was clamped. -/
def clampStatus (clamped : Bool) : Status := if clamped then .okClamped else .ok

/-- A Port S request is valid under R120. -/
def Status.validS : Status → Bool
  | .checkError => false
  | .badLength => false
  | .unknownCommand => false
  | _ => true

/-- The response frame joins the transmit queue, unless it holds four (R152). -/
def Ports.transmit (r : Ports) (frame : List Byte) : Ports :=
  if r.txS.length < 4 then { r with txS := r.txS ++ [frame] } else r

/-- The response record of a port is replaced; on Port S its frame is queued. -/
def Ports.respond (r : Ports) (p : Port) (x : Response) : Ports :=
  let r1 := { r with responses := r.responses.set p x }
  if p = .s then r1.transmit x.bytes else r1

/-- The answer of a request taken on a port (R157); on Port S the time of the last valid request moves (R120). -/
def State.respond (s : State) (p : Port) (x : Response) : State :=
  { s with
    ports := s.ports.respond p x,
    act := if p = .s ∧ x.status.validS = true then { s.act with lastValidS := s.now } else s.act }

/-! ## Reception (R151, R152) -/

/-- The receive state of an I2C port. -/
def Ports.rx (r : Ports) : I2cPort → I2cReceive
  | .a => r.rxA
  | .b => r.rxB

/-- The receive state of an I2C port is replaced. -/
def Ports.setRx (r : Ports) (p : I2cPort) (x : I2cReceive) : Ports :=
  match p with
  | .a => { r with rxA := x }
  | .b => { r with rxB := x }

/-- A byte of a write transaction: the first 24 are kept (R151). -/
def I2cReceive.take (x : I2cReceive) (b : Byte) : I2cReceive :=
  match x with
  | .idle => .writing 1 [b]
  | .writing n l => .writing (n + 1) (if l.length < 24 then l ++ [b] else l)

/-- A request that a byte or a STOP completes: its port, its frame, and the ports with the receive state returned. -/
structure Taken where
  port : Port
  frame : Frame
  ports : Ports
deriving DecidableEq, Repr

/-- The request that an ending takes, if it ends one: a write transaction with a byte in it (R151), or the last byte of a BODY
on Port S (R152). -/
def Ports.taken (r : Ports) (clock : Nat) (e : Ending) : Option Taken :=
  match e with
  | .stop p =>
    match r.rx p with
    | .idle => none
    | .writing n l => some { port := p.port, frame := { count := n, bytes := l }, ports := r.setRx p .idle }
  | .lastByteS b =>
    match r.rxS with
    | .body n l =>
      if l.length + 1 = n then
        some { port := .s, frame := { count := n + 1, bytes := byte n :: l ++ [b] },
               ports := { r with rxS := .hunt, lastByteS := clock } }
      else none
    | .hunt => none
    | .length => none

/-- The state in which a taken request is checked. -/
def State.afterTaking (s : State) (t : Taken) : State := { s with ports := t.ports }

/-- A request: the frame that the ending takes, when it is one of this row's; steps 1 to 7; the command rule; the
response (R154). Any other ending is an event of another row and changes nothing here (log entries 3 and 4). -/
def State.request (s : State) (e : Ending) (mine : Frame → Bool) (rule : State → Port → Frame → Answer) : State :=
  match s.ports.taken s.clock e with
  | none => s
  | some t =>
    if mine t.frame then
      let s1 := s.afterTaking t
      match s1.refusal t.port t.frame with
      | some st => s1.respond t.port { status := st, echo := t.frame.echo, data := [] }
      | none =>
        let a := rule s1 t.port t.frame
        a.state.respond t.port { status := a.status, echo := t.frame.echo, data := a.data }
    else s

/-- The row of a frame by its command. -/
def Frame.names (f : Frame) (c : Command) : Bool := decide (f.command = some c)

/-- The row of a WRITE_TABLE frame by its kind. -/
def Frame.writes (f : Frame) (k : TableKind) : Bool := f.names .writeTable && decide (f.tableKind = some k)

/-! ## Reading and events (R158, R164, R165) -/

def ruleIdentify (s : State) (_ : Port) (_ : Frame) : Answer := { state := s, status := .ok, data := s.identity }

def ruleGetZone (s : State) (_ : Port) (f : Frame) : Answer :=
  match f.zone with
  | none => .refuse s .badArgument
  | some z => { state := s, status := .ok, data := s.zoneView z }

def ruleGetSystem (s : State) (_ : Port) (_ : Frame) : Answer := { state := s, status := .ok, data := s.systemView }

def ruleReadEvents (s : State) (p : Port) (_ : Frame) : Answer :=
  let r := s.events.get p
  { state := s, status := .ok, data := be16 r.set.toNat ++ be16 r.mask.toNat }

def ruleAckEvents (s : State) (p : Port) (f : Frame) : Answer := .ok (s.acknowledge p (BitVec.ofNat 16 (f.arg16 0)))

def ruleSetEventMask (s : State) (p : Port) (f : Frame) : Answer := .ok (s.setMask p (BitVec.ofNat 16 (f.arg16 0)))

/-! ## Zones (R38, R39, R41, R42) -/

/-- A change of a stored setpoint or preset, made by a port's request, is marked (R43). -/
def State.settingsChanged (s : State) (p : Port) : State := s.markDirty.raiseSettingsChanged p

/-- A zone's setpoint is replaced; a change is marked (R41, R43). -/
def State.storeSetpoint (s : State) (p : Port) (z : Zone) (v : Int) : State :=
  let r := s.zones.get z
  let t := s.setZone z { r with setpoint := v }
  if r.setpoint = v then t else t.settingsChanged p

def ruleSetSetpoint (s : State) (p : Port) (f : Frame) : Answer :=
  match f.zone with
  | none => .refuse s .badArgument
  | some z =>
    let v := clampInt (s.tablePreset z).minSetpoint (s.tablePreset z).maxSetpoint (f.argInt 1)
    { state := s.storeSetpoint p z v, status := clampStatus (decide (v ≠ f.argInt 1)), data := beInt16 v }

/-- SET_MODE to another preset flushes the zone, and the zone leaves the arbiter when it was CALLING (R42, R28). -/
def State.changeMode (s : State) (p : Port) (z : Zone) (i : Nat) : State :=
  let r := s.zones.get z
  ((s.setZone z (r.flushed i (s.tables.preset i))).demandChanged z r.demand .idle (s.presetOf z).pathSet).settingsChanged p

def ruleSetMode (s : State) (p : Port) (f : Frame) : Answer :=
  match f.zone with
  | none => .refuse s .badArgument
  | some z =>
    let i := f.arg 1
    if 16 ≤ i ∨ (s.tables.preset i).mask.get z = false then .refuse s .badArgument
    else if i = (s.zones.get z).preset then { state := s, status := .ok, data := beInt16 (s.zones.get z).setpoint }
    else { state := s.changeMode p z i, status := .ok, data := beInt16 (s.tables.preset i).defaultSetpoint }

def ruleStartBoost (s : State) (p : Port) (f : Frame) : Answer :=
  match f.zone with
  | none => .refuse s .badArgument
  | some z =>
    if (s.zones.get z).mode = .disabled then .refuse s .badArgument
    else
      let m := clampNat 1 (s.presetOf z).boostMax (f.arg16 1)
      let t := s.boost z m p
      { state := t, status := clampStatus (decide (m ≠ f.arg16 1)),
        data := be32 (((t.zones.get z).boost.map (·.expiry)).getD s.now - s.now) }

/-- A cancel is taken from the recorded port or from a port of a numerically lower level (R39). -/
def mayCancel (p holder : Port) : Bool := decide (p = holder) || decide (p.level < holder.level)

def ruleCancelBoost (s : State) (p : Port) (f : Frame) : Answer :=
  match f.zone with
  | none => .refuse s .badArgument
  | some z =>
    match (s.zones.get z).boost with
    | none => .refuse s .notRunning
    | some b => if mayCancel p b.port then .ok (s.removeBoost z) else .refuse s .denied

/-! ## Power, defrost, panel map (R94, R130, R146, R143, R156) -/

def ruleLimitPower (s : State) (_ : Port) (f : Frame) : Answer :=
  if f.arg16 0 = 0 then
    { state := (s.setPowerCap none).capLifted, status := .ok, data := be16 0 ++ be32 0 }
  else
    let rpm := downToTen (clampNat 1200 4500 (f.arg16 0))
    let m := clampNat 1 1440 (f.arg16 2)
    { state := (s.setPowerCap (some { rpm := rpm, expiry := s.now + 60 * m })).applyCaps,
      status := clampStatus (decide (rpm ≠ f.arg16 0) || decide (m ≠ f.arg16 2)), data := be16 rpm ++ be32 (60 * m) }

/-- The moment from which the total deferral is counted (R130). -/
def State.deferralBase (s : State) : Nat :=
  if s.mgr.state = .due ∧ s.mgr.kind = some .automatic then s.mgr.dueMoment.getD s.now else s.now

/-- The new deferral end (R130). -/
def State.deferralEndFor (s : State) (minutes : Nat) : Nat := min (s.now + 60 * minutes) (s.deferralBase + 14400)

/-- A deferral is recorded; in automatic DUE with its end in the future the manager waits for it again (R130; log entry 27). -/
def State.defer (s : State) (e : Nat) : State :=
  { s with
    mgr := { s.mgr with
      deferralEnd := some e,
      waitStart :=
        if s.mgr.state = .due ∧ s.mgr.kind = some .automatic ∧ s.now < e then none else s.mgr.waitStart } }

def ruleDeferDefrost (s : State) (_ : Port) (f : Frame) : Answer :=
  let m := clampNat 1 240 (f.arg16 0)
  let e := s.deferralEndFor m
  { state := s.defer e, status := clampStatus (decide (m ≠ f.arg16 0) || decide (e < s.now + 60 * m)),
    data := be32 (e - s.now) }

/-- A manual run is due (R146): the path wait begins at once. -/
def State.runManual (s : State) (i : Nat) : State :=
  State.beginWait { s with
    mgr := { s.mgr with
      state := .due, program := some i, kind := some .manual, dueMoment := some s.now, releaseAsked := false } } s.now

def ruleRunProgram (s : State) (_ : Port) (f : Frame) : Answer :=
  let i := f.arg 0
  if 8 ≤ i ∨ (s.tables.program i).valid = false then .refuse s .badArgument
  else if s.mgr.state ≠ .idle ∨ s.serviceHold = true then .refuse s .busy
  else .ok (s.runManual i)

def ruleAbortProgram (s : State) (_ : Port) (_ : Frame) : Answer :=
  match s.mgr.state with
  | .running =>
    match s.programRecord with
    | some g => .ok (s.abort g)
    | none => .ok s
  | .exiting => .refuse s .busy
  | .idle => .refuse s .notRunning
  | .due => .refuse s .notRunning
  | .holdoff => .refuse s .notRunning

def ruleSetPanelMap (s : State) (p : Port) (f : Frame) : Answer :=
  let m := panelOf (byte (f.arg 0))
  if m = s.panel then .ok s else .ok (State.settingsChanged { s with panel := m } p)

/-! ## Restart (R159) -/

def ruleCoolingRestart (s : State) (_ : Port) (f : Frame) : Answer :=
  if f.arg 0 = 1 then .ok s.coolingRestart else .refuse s .badArgument

/-! ## Tables (R6, R19, R22, R137, R160) -/

/-- The kind and index name an entry. -/
def Frame.namesEntry (f : Frame) : Option (TableKind × Nat) :=
  match f.tableKind with
  | none => none
  | some k => if f.tableIndex < k.count then some (k, f.tableIndex) else none

def ruleReadTable (s : State) (_ : Port) (f : Frame) : Answer :=
  match f.namesEntry with
  | none => .refuse s .badArgument
  | some (k, i) => { state := s, status := .ok, data := s.tables.entry k i }

/-- The working tables are replaced. -/
def State.setTables (s : State) (t : Tables) : State := { s with tables := t }

/-- A new point keeps the table non-increasing beside its neighbours (R6). -/
def pointFits (t : List Int) (i : Nat) (v : Int) : Bool :=
  (decide (i = 0) || decide (v ≤ convPoint t (i - 1))) && (decide (i = 16) || decide (convPoint t (i + 1) ≤ v))

def ruleWriteConversion (s : State) (_ : Port) (f : Frame) : Answer :=
  let i := f.tableIndex
  let v := int16At (f.entry .conversion) 0
  if 17 ≤ i ∨ pointInDomain v = false ∨ pointFits s.tables.conv i v = false then .refuse s .badArgument
  else .ok (s.setTables { s.tables with conv := s.tables.conv.set i v })

/-- Every zone that names the preset is in its mask (R19). -/
def State.maskKeepsUsers (s : State) (i : Nat) (m : PerZone Bool) : Bool :=
  [Zone.fresh, Zone.flex, Zone.freezer, Zone.ice].all fun z => decide ((s.zones.get z).preset ≠ i) || m.get z

/-- A zone keeps the preset and ladder of its last evaluation until the next one (R19, R22; log entry 14). -/
def State.keepEntries (s : State) (z : Zone) : State :=
  s.setZone z { s.zones.get z with kept := some (s.presetOf z, s.ladderOf z) }

/-- What an accepted preset write does at a zone that names the entry, before the entry is replaced: its other fields stand
until the next evaluation, and its setpoint is clamped into the new range (R19, R43). -/
def State.presetReaches (s : State) (p : Port) (i : Nat) (q : Preset) (z : Zone) : State :=
  if (s.zones.get z).preset = i then
    (s.keepEntries z).storeSetpoint p z (clampInt q.minSetpoint q.maxSetpoint (s.zones.get z).setpoint)
  else s

/-- An accepted preset write (R19). -/
def State.writePreset (s : State) (p : Port) (i : Nat) (q : Preset) : State :=
  let t := (((s.presetReaches p i q .fresh).presetReaches p i q .flex).presetReaches p i q .freezer).presetReaches p i q .ice
  t.setTables { t.tables with presets := t.tables.presets.set i q }

def ruleWritePreset (s : State) (p : Port) (f : Frame) : Answer :=
  let i := f.tableIndex
  match Preset.read (f.entry .preset) with
  | none => .refuse s .badArgument
  | some q =>
    if 16 ≤ i ∨ s.maskKeepsUsers i q.mask = false then .refuse s .badArgument else .ok (s.writePreset p i q)

/-- What an accepted ladder write does at a zone that uses the ladder, before the entry is replaced (R22). -/
def State.ladderReaches (s : State) (i : Nat) (z : Zone) : State :=
  if (s.tablePreset z).ladder = i then s.keepEntries z else s

/-- An accepted ladder write (R22). -/
def State.writeLadder (s : State) (i : Nat) (l : Ladder) : State :=
  let t := (((s.ladderReaches i .fresh).ladderReaches i .flex).ladderReaches i .freezer).ladderReaches i .ice
  t.setTables { t.tables with ladders := t.tables.ladders.set i l }

def ruleWriteLadder (s : State) (_ : Port) (f : Frame) : Answer :=
  let i := f.tableIndex
  match Ladder.read (f.entry .ladder) with
  | none => .refuse s .badArgument
  | some l => if 12 ≤ i then .refuse s .badArgument else .ok (s.writeLadder i l)

/-- A step of the program that runs cannot be written (R137, 2). -/
def State.stepBusy (s : State) (i : Nat) : Bool :=
  match s.runningProgram with
  | none => false
  | some g => g.usesStep s.tables.steps i

def ruleWriteStep (s : State) (_ : Port) (f : Frame) : Answer :=
  let i := f.tableIndex
  match Step.read (f.entry .step) with
  | none => .refuse s .badArgument
  | some st =>
    let t := { s.tables with steps := s.tables.steps.set i st }
    if s.stepBusy i then .refuse s .busy
    else if t.chainsValid = false then .refuse s .invalidChain
    else .ok (s.setTables t)

/-- The program of the manager record in DUE, RUNNING or EXITING (R137, 2). -/
def Manager.holds (m : Manager) (i : Nat) : Bool :=
  (decide (m.state = .due) || m.inProgram) && decide (m.program = some i)

/-- The write would take the auto-defrost program's validity or path away (R137, 3). -/
def Tables.losesAuto (t : Tables) (i : Nat) (g : Program) : Bool :=
  decide (i = t.autoProgram) && (!g.valid || decide (g.path = .upper))

def ruleWriteProgram (s : State) (_ : Port) (f : Frame) : Answer :=
  let i := f.tableIndex
  match Program.read (f.entry .program) with
  | none => .refuse s .badArgument
  | some g =>
    if 8 ≤ i then .refuse s .badArgument
    else if s.mgr.holds i then .refuse s .busy
    else if s.tables.losesAuto i g then .refuse s .badArgument
    else if g.chainsValid s.tables.steps = false then .refuse s .invalidChain
    else .ok (s.setTables { s.tables with programs := s.tables.programs.set i g })

/-- The tables after a global parameter write, when its value is admitted (R160, R137). -/
def Tables.writeGlobal (t : Tables) (i v : Nat) : Option Tables :=
  match i with
  | 0 => if v ≤ 40 then some { t with ambientGain := v } else none
  | 1 => if v ≤ 15 then some { t with doorWeight := v } else none
  | 2 => if Tables.autoValid { t with autoProgram := v } then some { t with autoProgram := v } else none
  | _ => none

/-- A global parameter write, and a WRITE_TABLE whose kind is outside the six (R160). -/
def ruleWriteGlobal (s : State) (_ : Port) (f : Frame) : Answer :=
  match f.tableKind with
  | some .global =>
    match s.tables.writeGlobal f.tableIndex (byteAt (f.entry .global) 0) with
    | some t => .ok (s.setTables t)
    | none => .refuse s .badArgument
  | _ => .refuse s .badArgument

def ruleSaveTables (s : State) (_ : Port) (_ : Frame) : Answer :=
  if s.store.saveIdle then .ok (s.beginTablesSave []) else .refuse s .busy

/-! ## Service hold and forced outputs (R121 to R123, R104) -/

def ruleServiceHoldOn (s : State) (_ : Port) (_ : Frame) : Answer := if s.serviceHold then .ok s else .ok s.enterHold

def ruleServiceHoldOff (s : State) (_ : Port) (f : Frame) : Answer :=
  if f.arg 0 ≠ 0 then .refuse s .badArgument
  else if s.serviceHold then .ok s.endHold
  else .refuse s .notRunning

/-- A nonzero forced speed is refused (R104): in STOPPING, and in OFF while a start is barred. -/
def State.forceRefused (s : State) : Bool :=
  decide (s.cyc.state = .stopping) || (decide (s.cyc.state = .off) && s.startBarred)

/-- A forced speed reaches the cycle controller (R104); while the run flag is 0 the commanded speed stays 0 (R83). -/
def State.forceSpeed (s : State) (v : Nat) : State :=
  if v = 0 then s.stopOrder
  else if s.cyc.state = .off then (s.enterStarting none .run).enterRunPhase (s.forcedRunSpeed v)
  else if s.cyc.runFlag then { s with cyc := { s.cyc with speed := s.forcedRunSpeed v } }
  else s

/-- A forced value is recorded. -/
def State.setForced (s : State) (g : Forced) : State := { s with act := { s.act with forced := some g } }

/-- A forced compressor speed (R122, R104): clamped, refused BUSY, or recorded and handed on. -/
def forceCompressor (s : State) (g : Forced) (asked : Nat) : Answer :=
  let v := if asked = 0 then 0 else clampNat 1200 4500 asked
  if v ≠ 0 ∧ s.forceRefused = true then .refuse s .busy
  else
    { state := (s.setForced { g with speed := v }).forceSpeed v, status := clampStatus (decide (v ≠ asked)), data := be16 v }

/-- A forced fan, damper or heater value: recorded; the output follows as the event ends (R122). -/
def forcePlain (s : State) (g : Forced) (v : Nat) : Answer := { state := s.setForced g, status := .ok, data := be16 v }

/-- A forced valve position: recorded and requested of the valve (R122, R116). -/
def forceValve (s : State) (g : Forced) (v : Nat) : Answer :=
  let q : Path := if v = 0 then .upper else .lower
  { state := (s.setForced { g with valve := q }).requestValve q, status := .ok, data := be16 v }

/-- The value is outside the output's domain, or the output does not exist (R122, spec/11). -/
def forceOutOfDomain (output v : Nat) : Bool :=
  match output with
  | 0 => false
  | 2 => decide (100 < v)
  | 3 => decide (100 < v)
  | 4 => decide (100 < v)
  | n => decide (10 ≤ n) || decide (1 < v)

/-- A taken FORCE_OUTPUT, by output number (spec/11). -/
def forceOutput (s : State) (g : Forced) (output v : Nat) : Answer :=
  match output with
  | 0 => forceCompressor s g v
  | 1 => forceValve s g v
  | 2 => forcePlain s { g with fans := { g.fans with upper := v } } v
  | 3 => forcePlain s { g with fans := { g.fans with lower := v } } v
  | 4 => forcePlain s { g with fans := { g.fans with condenser := v } } v
  | 5 => forcePlain s { g with dampers := { g.dampers with flexLower := decide (v = 1) } } v
  | 6 => forcePlain s { g with dampers := { g.dampers with flexUpper := decide (v = 1) } } v
  | 7 => forcePlain s { g with dampers := { g.dampers with ice := decide (v = 1) } } v
  | 8 => forcePlain s { g with lowerHeater := decide (v = 1) } v
  | _ => forcePlain s { g with flexHeater := decide (v = 1) } v

def ruleForceOutput (s : State) (_ : Port) (f : Frame) : Answer :=
  if forceOutOfDomain (f.arg 0) (f.arg16 1) then .refuse s .badArgument
  else
    match s.act.forced with
    | none => .refuse s .notRunning
    | some g => forceOutput s g (f.arg 0) (f.arg16 1)

end Sys2Proof.Machine
end

