-- ==== Sys2Proof/WellFormed.lean ====
section
/-!
DEFINITION. Which commands can come from the part's connections at all: the lengths of the areas the memory returns, the
doors that earn minutes, the length of a page. exec is total on the others too; this check says what a sender may send.
-/
namespace Sys2Proof

/-- The freezer-side doors (spec/00 "Door names"; R53). -/
def Door.freezerSide : Door → Bool
  | .leftFresh => false
  | .rightFresh => false
  | .flexDrawer => true
  | .freezerDrawer => true

/-- The header that is read has 9 bytes and the body of format 1 has 845 (R175); the settings record has 23 (R175); a page
program writes 1 to 32 bytes (R167); door minutes are earned by the freezer-side doors alone (R53); a length byte that is
rejected lies outside 2..23 (R152). -/
def Instr.wellFormed : Instr → Bool
  | .imageLoadComplete header body => header.length == 9 && body.length == 845
  | .settingsLoadComplete record => record.length == 23
  | .doorMinute d => d.freezerSide
  | .pageWriteComplete readBack => 1 ≤ readBack.length && readBack.length ≤ 32
  | .portSLengthReject b => b.toNat < 2 || 23 < b.toNat
  | _ => true

end Sys2Proof
end

