-- ==== Sys2Proof/Machine/Time.lean ====
section
/-!
DEFINITION. The passing of 10 ms (the step on an empty queue, log entry 1), and the part's own events: when each is due, and
the order in which those due together are queued (log entries 2 and 3).
-/
namespace Sys2Proof.Machine

/-! ## Counting -/

/-- A timer that counts up by one while it is present. -/
def upOne (t : Option Nat) : Option Nat := t.map (· + 1)

/-- A timer that counts up by one while it is present and stays at a bound. -/
def upTo (bound : Nat) (t : Option Nat) : Option Nat := t.map fun n => min bound (n + 1)

/-- A timer that counts down to 0 while it is present. -/
def downOne (t : Option Nat) : Option Nat := t.map (· - 1)

/-! ## What every 10 ms move -/

/-- A door in 10 ms: a debounce run and an opening grow older (R47, R48). -/
def DoorRecord.tick (d : DoorRecord) : DoorRecord := { d with run := upOne d.run, openAge := upOne d.openAge }

/-- A damper in 10 ms: one step (R115). -/
def DamperRecord.tick (d : DamperRecord) : DamperRecord :=
  match d.motion with
  | .idle => d
  | .homing => { d with homed := if d.homed < 440 then d.homed + 1 else d.homed }
  | .moving =>
    { d with position := d.position.map fun p => if p < d.target then p + 1 else if d.target < p then p - 1 else p }

/-- A valve in 10 ms (R116). -/
def Valve.tick : Valve → Valve
  | .standing p => .standing p
  | .moving p duration spent => .moving p duration (if spent < duration then spent + 1 else spent)

/-- The image store in 10 ms: the time since a page program, and a status read that finds it still in progress (R172; log entry
37). -/
def StoreRecord.tick (r : StoreRecord) : StoreRecord :=
  match r.job with
  | none => r
  | some j => { r with job := some { j with busy := j.busy + 1 }, sent := [spiStatusRead] }

/-- Everything counted in 10 ms. -/
def State.tickFine (s : State) : State :=
  { s with
    clock := s.clock + 1,
    doors := s.doors.map DoorRecord.tick,
    zones := s.zones.map fun z => { z with doorHold := upOne z.doorHold },
    act := { s.act with dampers := s.act.dampers.map DamperRecord.tick, valve := s.act.valve.tick },
    link := { s.link with window := upOne s.link.window },
    store := s.store.tick }

/-! ## What every whole second moves -/

/-- A zone's alarm timer in a second (R30 to R32): it counts in the PENDING states up to the delay, not during an alarm pause, and
in PENDING_WARM not while the window suspends warm alarms. -/
def ZoneRecord.second (z : ZoneRecord) (suspended : Bool) (delay : Nat) : ZoneRecord :=
  let counts := match z.alarm with
    | .pendingWarm => !z.alarmPaused && !suspended
    | .pendingCold => !z.alarmPaused
    | _ => false
  if counts = true ∧ z.alarmTimer < delay then { z with alarmTimer := z.alarmTimer + 1 } else z

/-- The zones in a second; the pause and the suspension are those of the second just ended. -/
def State.secondZones (s : State) : PerZone ZoneRecord :=
  { fresh := s.zones.fresh.second (s.warmSuspended .fresh) (s.ladderOf .fresh).delay,
    flex := s.zones.flex.second (s.warmSuspended .flex) (s.ladderOf .flex).delay,
    freezer := s.zones.freezer.second (s.warmSuspended .freezer) (s.ladderOf .freezer).delay,
    ice := s.zones.ice.second (s.warmSuspended .ice) (s.ladderOf .ice).delay }

/-- The cycle record in a second (R82). -/
def CycleRecord.second (c : CycleRecord) : CycleRecord :=
  { c with
    startWindow := upTo 30 c.startWindow, startHold := upTo 60 c.startHold, transferTimer := upTo 20 c.transferTimer,
    stopTimer := upTo 10 c.stopTimer, turnTimer := upOne c.turnTimer, onTimer := upOne c.onTimer,
    sinceUpdate := c.sinceUpdate + 1 }

/-- The actuator block in a second: retry, run-on, after-run, heater on-times and rest (R110, R112, R118, R119). -/
def Actuators.second (a : Actuators) : Actuators :=
  { a with
    retry := downOne a.retry, runOn := downOne a.runOn, afterRun := upOne a.afterRun,
    lowerHeater := { a.lowerHeater with
      onTime := if a.lowerHeater.output then a.lowerHeater.onTime + 1 else a.lowerHeater.onTime },
    flexHeater := { a.flexHeater with
      onTime := if a.flexHeater.output then a.flexHeater.onTime + 1 else a.flexHeater.onTime,
      rest := downOne a.flexHeater.rest } }

/-- A path's fault timer in a second (R57). -/
def PathRecord.second (r : PathRecord) : PathRecord := { r with timer := downOne r.timer }

/-- The image store's timers in a second (R171, R172). -/
def StoreRecord.second (r : StoreRecord) : StoreRecord :=
  { r with quiet := downOne r.quiet, settingsRetry := downOne r.settingsRetry, tablesRetry := downOne r.tablesRetry }

/-- Everything counted in whole seconds of now. -/
def State.tickSecond (s : State) : State :=
  { s with
    zones := s.secondZones,
    arb := { s.arb with paths := s.arb.paths.map PathRecord.second },
    cyc := s.cyc.second,
    act := s.act.second,
    mgr := { s.mgr with stepTimer := upOne s.mgr.stepTimer },
    acct := { s.acct with age := min 4294967295 (s.acct.age + 1) },
    store := s.store.second }

/-- The 10 ms that pass end a whole second. -/
def State.wholeSecond (s : State) : Bool := decide (s.clock % 100 = 0)

/-- 10 ms pass; the second just ended is counted before the time within it moves on. -/
def State.elapse (s : State) : State := if (s.clock + 1) % 100 = 0 then s.tickSecond.tickFine else s.tickFine

/-! ## When an event of the part is due -/

/-- A countdown has run out. -/
def ranOut (t : Option Nat) : Bool := decide (t = some 0)

/-- A timer is present and has reached a value. -/
def reached (n : Nat) (t : Option Nat) : Bool :=
  match t with
  | none => false
  | some v => decide (n ≤ v)

/-- A moment of now has come. -/
def State.come (s : State) (t : Option Nat) : Bool :=
  match t with
  | none => false
  | some v => decide (v ≤ s.now)

/-- The turn maximum of a path (R73, R85). -/
def turnMaximum : Path → Nat
  | .upper => 1800
  | .lower => 2700

/-- The cycle is in RUNNING on a path. -/
def CycleRecord.runningOn (c : CycleRecord) (p : Path) : Bool := decide (c.state = .running) && decide (c.path = some p)

/-- The debounce run of a door has lasted 50 ms (R47). -/
def State.doorTransitionDue (s : State) (d : Door) : Bool := reached 5 (s.doors.get d).run

/-- 120 s of one opening, not yet reported (R51). -/
def State.doorLongDue (s : State) (d : Door) : Bool := reached 120 (s.doors.get d).openTimer && !(s.doors.get d).longReported

/-- 600 s of one opening, not yet lapsed (R52). -/
def State.lapseDue (s : State) (d : Door) : Bool := reached 600 (s.doors.get d).openTimer && !(s.doors.get d).lapsed

/-- A whole minute of a freezer-side door's opening, not yet credited (R53). -/
def State.doorMinuteDue (s : State) (d : Door) : Bool :=
  d.freezerSide && reached (60 * ((s.doors.get d).minutes + 1)) (s.doors.get d).openTimer

/-- Now has reached a boost's expiry (R40). -/
def State.boostDue (s : State) (z : Zone) : Bool := s.come ((s.zones.get z).boost.map (·.expiry))

/-- 1800 s have passed since the end of a LOWER program (R32). -/
def State.windowDue (s : State) : Bool :=
  match s.window with
  | .closing t => decide (t ≤ s.now)
  | .closed => false
  | .running => false

/-- The turn timer has reached the turn maximum, not yet reported in this turn (R85). -/
def State.turnMaximumDue (s : State) : Bool :=
  decide (s.cyc.state = .running) && !s.cyc.turnMaxReported
    && (match s.cyc.path with
        | none => false
        | some p => reached (turnMaximum p) s.cyc.turnTimer)

/-- The on timer has reached 120 s, not yet reported in this run (R85); reached in TRANSFER, it is reported on the return to RUNNING
(log entry 36). -/
def State.onTimerDue (s : State) : Bool :=
  decide (s.cyc.state = .running) && !s.cyc.minOnReported && reached 120 s.cyc.onTimer

/-- A whole minute of a LOWER turn, not yet handed on (R85). -/
def State.runMinuteDue (s : State) : Bool := s.cyc.runningOn .lower && reached (60 * (s.cyc.runMinutes + 1)) s.cyc.turnTimer

/-- The bars of R89 end at a moment: no bar is left. -/
def State.barEnds (s : State) (moment : Option Nat) : Bool := s.wholeSecond && decide (moment = some s.now)

/-- The first frame of this second has not been sent (R97). -/
def State.driveCommandDue (s : State) : Bool := decide (s.link.sentAt < s.now)

/-- The path wait has passed 1800 s with the cycle current on the program's path (R131). -/
def State.pathWaitDue (s : State) : Bool :=
  match s.mgr.state, s.mgr.waitStart, s.programRecord with
  | .due, some w, some g => decide (w + 1800 ≤ s.now) && s.cyc.currentOn g.path
  | _, _, _ => false

/-- The deferral of an automatic run is over and the path wait has not begun (R131). -/
def State.deferralDue (s : State) : Bool :=
  decide (s.mgr.state = .due) && decide (s.mgr.kind = some .automatic) && s.mgr.waitStart.isNone
    && decide (s.mgr.deferralEnd.getD 0 ≤ s.now)

/-- The step timer of a TIME step has reached its duration (R140). -/
def State.durationDue (s : State) : Bool :=
  match s.runningStep with
  | some st => decide (st.endKind = .time) && reached st.duration s.mgr.stepTimer
  | none => false

/-- The step timer of an EVAP step has reached its timeout (R140). -/
def State.timeoutDue (s : State) : Bool :=
  match s.runningStep with
  | some st => decide (st.endKind ≠ .time) && reached st.timeout s.mgr.stepTimer
  | none => false

/-- A gap of more than 50 ms in LENGTH or BODY (R152). -/
def State.gapDue (s : State) : Bool := decide (s.ports.rxS ≠ .hunt) && decide (s.ports.lastByteS + 5 < s.clock)

/-- A whole hour of uptime that is not yet marked (R171). -/
def State.hourDue (s : State) : Bool := decide (s.store.hoursMarked < s.now / 3600)

/-- The busy bit is still set 50 ms after the page program (R172). -/
def State.busyDue (s : State) : Bool := reached 5 (s.store.job.map (·.busy))

/-- The hold timeout: 600 s since the last valid Port S request while the hold is ON (R123). -/
def State.holdTimeoutDue (s : State) : Bool := s.serviceHold && decide (s.act.lastValidS + 600 ≤ s.now)

/-- The retry timer of a kind of save (R167). -/
def StoreRecord.retryOf (r : StoreRecord) : SaveKind → Option Nat
  | .settings => r.settingsRetry
  | .tables => r.tablesRetry

/-- A damper that moves has reached its target (R115). -/
def DamperRecord.arrived (d : DamperRecord) : Bool := decide (d.motion = .moving) && decide (d.position = some d.target)

/-- Whether an event of the part is due; of the outside's events this says nothing. -/
def State.due (s : State) : Instr → Bool
  | .ready => s.readyDue
  | .doorTransition d => s.doorTransitionDue d
  | .doorLong d => s.doorLongDue d
  | .lapse d => s.lapseDue d
  | .doorMinute d => s.doorMinuteDue d
  | .boostExpiry z => s.boostDue z
  | .defrostWindowClose => s.windowDue
  | .faultTimerExpiry p => ranOut (s.arb.paths.get p).timer
  | .turnMaximum => s.turnMaximumDue
  | .onTimerMinimum => s.onTimerDue
  | .lowerRunMinute => s.runMinuteDue
  | .valveMoveComplete => (Valve.arrived s.act.valve).isSome
  | .startWindowExpiry => decide (s.cyc.state = .starting) && reached 30 s.cyc.startWindow
  | .startHoldEnd => decide (s.cyc.state = .running) && reached 60 s.cyc.startHold
  | .speedUpdate =>
    decide (s.cyc.state = .running) && s.cyc.path.isSome && s.cyc.startHold.isNone && decide (5 ≤ s.cyc.sinceUpdate)
  | .transferTimerExpiry => s.transferDone
  | .stopTimerExpiry => decide (s.cyc.state = .stopping) && reached 10 s.cyc.stopTimer
  | .minimumOffTimeOver => s.barEnds (some (s.cyc.lastStop + 180))
  | .faultWaitEnd => s.barEnds s.flt.waitEnd
  | .powerCapExpiry => s.come (s.cap.power.map (·.expiry))
  | .driveCommand => s.driveCommandDue
  | .driveMiss => reached 10 s.link.window
  | .condenserRetryExpiry => ranOut s.act.retry
  | .condenserRunOnExpiry => ranOut s.act.runOn
  | .afterRunExpiry => reached s.afterRunLimit s.act.afterRun
  | .fanDelayExpiry => decide (s.act.fanDelay = .active) && reached 120 s.cyc.turnTimer
  | .damperMoveComplete d => (s.act.dampers.get d).arrived
  | .damperHomingComplete d => decide ((s.act.dampers.get d).motion = .homing) && decide (440 ≤ (s.act.dampers.get d).homed)
  | .heaterLimit => s.act.lowerHeater.output && decide (2700 ≤ s.act.lowerHeater.onTime)
  | .flexHeaterLimit => s.act.flexHeater.output && decide (1200 ≤ s.act.flexHeater.onTime)
  | .flexHeaterRestEnd => ranOut s.act.flexHeater.rest
  | .holdTimeout => s.holdTimeoutDue
  | .defrostAgeLimit => s.wholeSecond && decide (s.acct.age = 259200)
  | .deferralEnd => s.deferralDue
  | .pathWaitExpiry => s.pathWaitDue
  | .stepDurationExpiry => s.durationDue
  | .stepTimeoutExpiry => s.timeoutDue
  | .holdoffEnd => decide (s.mgr.state = .holdoff) && s.come s.mgr.holdoffEnd
  | .portSGapTimeout => s.gapDue
  | .quietTimerExpiry => ranOut s.store.quiet
  | .hourlyMark => s.hourDue
  | .pageBusyTimeout => s.busyDue
  | .saveRetryExpiry k => ranOut (s.store.retryOf k)
  | _ => false

/-! ## The queue of due events -/

/-- The events of the doors. -/
def doorEvents : List Instr :=
  [Door.leftFresh, .rightFresh, .flexDrawer, .freezerDrawer].flatMap fun d =>
    [.doorTransition d, .doorLong d, .lapse d, .doorMinute d]

/-- The events of the cycle controller and its link. -/
def cycleEvents : List Instr :=
  [.turnMaximum, .onTimerMinimum, .lowerRunMinute, .valveMoveComplete, .startWindowExpiry, .startHoldEnd, .speedUpdate,
    .transferTimerExpiry, .stopTimerExpiry, .minimumOffTimeOver, .faultWaitEnd, .powerCapExpiry, .driveCommand, .driveMiss]

/-- The events of the actuator block. -/
def actuatorEvents : List Instr :=
  [.condenserRetryExpiry, .condenserRunOnExpiry, .afterRunExpiry, .fanDelayExpiry, .heaterLimit, .flexHeaterLimit,
    .flexHeaterRestEnd, .holdTimeout]
  ++ [Damper.flexLower, .flexUpper, .ice].flatMap fun d => [.damperMoveComplete d, .damperHomingComplete d]

/-- The events of the zones, paths, manager, ports and image store. -/
def otherEvents : List Instr :=
  [.ready, .boostExpiry .fresh, .boostExpiry .flex, .boostExpiry .freezer, .boostExpiry .ice, .defrostWindowClose,
    .faultTimerExpiry .upper, .faultTimerExpiry .lower, .defrostAgeLimit, .deferralEnd, .pathWaitExpiry,
    .stepDurationExpiry, .stepTimeoutExpiry, .holdoffEnd, .portSGapTimeout, .quietTimerExpiry, .hourlyMark,
    .pageBusyTimeout, .saveRetryExpiry .settings, .saveRetryExpiry .tables]

/-- Every event that the part makes by itself. -/
def ownEvents : List Instr := doorEvents ++ cycleEvents ++ actuatorEvents ++ otherEvents

/-- A list in a free order: each place is taken by the free choice that the counter names (log entry 2). The first argument bounds
the places. -/
def freeOrder : Nat → Nat → List Instr → List Instr × Nat
  | 0, n, l => (l, n)
  | k + 1, n, l =>
    match l with
    | [] => ([], n)
    | [x] => ([x], n)
    | x :: y :: r =>
      let m := x :: y :: r
      let i := Config.pick n % m.length
      let rest := freeOrder k (n + 1) (m.eraseIdx i)
      (m.getD i x :: rest.1, rest.2)

/-- The events now due, in a free order, at the back of the queue. -/
def State.queueDue (s : State) : State :=
  let l := ownEvents.filter s.due
  let o := freeOrder l.length s.free l
  { s with pending := s.pending ++ o.1, free := o.2 }

/-- The step on an empty queue (log entry 1): 10 ms pass, the outputs follow, and what has fallen due is queued. -/
def State.tick (s : State) : State := s.elapse.settle.queueDue

/-! ## How a command ends -/

/-- The end of a command that has made a state from another: the manager takes a hand-over of the cycle state, and the outputs
follow (log entry 18). -/
def State.finish (before after : State) : Host.Outcome State Fault Refusal := .next (State.handOver before after).settle

/-- An event of the part: where it is due it has its effect, elsewhere it does not happen (log entry 3). -/
def State.event (s : State) (i : Instr) (effect : State → State) : Host.Outcome State Fault Refusal :=
  if s.due i then s.finish (effect s) else .next s

end Sys2Proof.Machine
end

