-- ==== Sys2Proof/Machine/ActuatorCommands.lean ====
section
/-!
DEFINITION. The commands of the actuator block: TACH_READING, and its expiries, completions and limits (R108 to R123).
-/
namespace Sys2Proof.Machine

/-- The condenser fan faults (R112): FAULTED, 900 s, FAN_FAULT, and the report that sets the condenser cap. -/
def State.condenserFaults (s : State) : State :=
  (State.raise { s with act := { s.act with condenserFault := .faulted, retry := some 900 } } .fanFault).setCondenserCap

/-- The condenser fault is cleared (R112). -/
def State.condenserClears (s : State) : State :=
  State.clearCondenserCap { s with act := { s.act with condenserFault := .none, retry := none } }

/-- A fan faults: FAN_FAULT, and the rule of the fan (R112, R113). -/
def State.fanFaults (s : State) (f : Fan) : State :=
  match f with
  | .upper => (s.raise .fanFault).pathFault .upper
  | .lower => (s.raise .fanFault).pathFault .lower
  | .condenser => s.condenserFaults

/-- What a good reading may report: 300 s of good running of an evaporator fan, or ten good readings of the condenser fan in
RETRY (R112, R113). -/
def State.fanGood (s : State) (f : Fan) (before after : FanRecord) : State :=
  match f with
  | .upper => if goodReaches 300 before after then s.goodRunning .upper else s
  | .lower => if goodReaches 300 before after then s.goodRunning .lower else s
  | .condenser =>
    if s.act.condenserFault = .retry ∧ goodReaches 10 before after = true then s.condenserClears else s

/-- A tach reading of a driven fan (R108). -/
def State.tach (s : State) (f : Fan) (rpm : Nat) : State :=
  let before := s.act.fans.get f
  let watch := s.supervised f
  let after := before.read f rpm watch
  let t : State := { s with act := { s.act with fans := s.act.fans.set f after } }
  if faultReading before f rpm watch then t.fanFaults f else t.fanGood f before after

/-- TACH_READING (R108): no readings are taken of a fan whose duty is 0. -/
def execTachReading (f : Fan) (rpm : Word16) (s : State) : Host.Outcome State Fault Refusal :=
  if 0 < (s.act.fans.get f).duty then s.finish (s.tach f rpm.toNat) else .next s

/-- The condenser fault goes to RETRY with supervision afresh (R112). -/
def State.condenserRetry (s : State) : State :=
  { s with
    act := { s.act with
      condenserFault := .retry, retry := none,
      fans := { s.act.fans with condenser := { s.act.fans.condenser with spinUp := 0, low := 0, good := 0 } } } }

/-- CONDENSER_RETRY_EXPIRY (R112). -/
def execCondenserRetryExpiry (s : State) : Host.Outcome State Fault Refusal :=
  s.event .condenserRetryExpiry State.condenserRetry

/-- CONDENSER_RUN_ON_EXPIRY (R112). -/
def execCondenserRunOnExpiry (s : State) : Host.Outcome State Fault Refusal :=
  s.event .condenserRunOnExpiry fun t => { t with act := { t.act with runOn := none } }

/-- AFTER_RUN_EXPIRY (R110). -/
def execAfterRunExpiry (s : State) : Host.Outcome State Fault Refusal := s.event .afterRunExpiry State.endAfterRun

/-- FAN_DELAY_EXPIRY (R111). -/
def execFanDelayExpiry (s : State) : Host.Outcome State Fault Refusal := s.event .fanDelayExpiry State.endFanDelay

/-- A damper record is replaced. -/
def State.setDamper (s : State) (d : Damper) (r : DamperRecord) : State :=
  { s with act := { s.act with dampers := s.act.dampers.set d r } }

/-- DAMPER_MOVE_COMPLETE (R115). -/
def execDamperMoveComplete (d : Damper) (s : State) : Host.Outcome State Fault Refusal :=
  s.event (.damperMoveComplete d) fun t => t.setDamper d { t.act.dampers.get d with motion := .idle }

/-- The end of homing: position 0, and the move to the latest target begins (R115). -/
def DamperRecord.homedAt (r : DamperRecord) : DamperRecord :=
  { r with position := some 0, motion := if r.target = 0 then .idle else .moving, homed := 0 }

/-- DAMPER_HOMING_COMPLETE (R115). -/
def execDamperHomingComplete (d : Damper) (s : State) : Host.Outcome State Fault Refusal :=
  s.event (.damperHomingComplete d) fun t => t.setDamper d (t.act.dampers.get d).homedAt

/-- The lower defrost heater is limited: HEATER_LIMIT, and a program in RUNNING aborts (R118, R143). -/
def State.limitHeater (s : State) : State :=
  (State.raise { s with act := { s.act with lowerHeater := { s.act.lowerHeater with limited := true } } }
    .heaterLimit).heaterLimitToManager

/-- HEATER_LIMIT (R118). -/
def execHeaterLimit (s : State) : Host.Outcome State Fault Refusal := s.event .heaterLimit State.limitHeater

/-- The flex heater rests for 600 s (R119). -/
def State.restFlexHeater (s : State) : State :=
  State.raise { s with act := { s.act with flexHeater := { s.act.flexHeater with rest := some 600 } } } .heaterLimit

/-- FLEX_HEATER_LIMIT (R119). -/
def execFlexHeaterLimit (s : State) : Host.Outcome State Fault Refusal := s.event .flexHeaterLimit State.restFlexHeater

/-- FLEX_HEATER_REST_END (R119). -/
def execFlexHeaterRestEnd (s : State) : Host.Outcome State Fault Refusal :=
  s.event .flexHeaterRestEnd fun t => { t with act := { t.act with flexHeater := { t.act.flexHeater with rest := none } } }

/-- HOLD_TIMEOUT (R123): the hold ends, and SERVICE_HOLD_END is raised. -/
def execHoldTimeout (s : State) : Host.Outcome State Fault Refusal :=
  s.event .holdTimeout fun t => t.endHold.raise .serviceHoldEnd

end Sys2Proof.Machine
end

