-- ==== Sys2Proof/Machine/CycleCommands.lean ====
section
/-!
DEFINITION. The events of the cycle controller and of the drive link: TURN_MAXIMUM to DRIVE_MISS (R83 to R103).
-/
namespace Sys2Proof.Machine

/-! ## Turn and on timer -/

/-- The report of the turn maximum sets yield due, and the yield test is made (R73, R85). -/
def State.turnReport (s : State) : State :=
  State.candidateCheck { s with
    cyc := { s.cyc with turnMaxReported := true }, arb := { s.arb with yieldDue := s.arb.turnPath.isSome } }

/-- TURN_MAXIMUM (R85, R73). -/
def execTurnMaximum (s : State) : Host.Outcome State Fault Refusal := s.event .turnMaximum State.turnReport

/-- The report of the minimum on time ends a holdover by a stop (R70, R85). -/
def State.onTimeReport (s : State) : State :=
  let t : State := { s with cyc := { s.cyc with minOnReported := true } }
  if s.arb.holdover then t.handStop else t

/-- ON_TIMER_MINIMUM (R85, R70). -/
def execOnTimerMinimum (s : State) : Host.Outcome State Fault Refusal := s.event .onTimerMinimum State.onTimeReport

/-- LOWER_RUN_MINUTE (R85, R127). -/
def execLowerRunMinute (s : State) : Host.Outcome State Fault Refusal :=
  s.event .lowerRunMinute fun t => State.credit { t with cyc := { t.cyc with runMinutes := t.cyc.runMinutes + 1 } } 1

/-! ## Valve, start, transfer, stop -/

/-- A transfer ends in RUNNING on its target, which is reported (R86, R71). -/
def State.completeTransfer (s : State) : State := s.enterRunningFromTransfer.reportRunning

/-- The valve's arrival at the cycle controller: it ends the VALVE phase, or a transfer whose 20 s are over (R83, R86). -/
def State.valveReport (s : State) (p : Path) : State :=
  if s.cyc.state = .starting ∧ s.cyc.phase = some .valve ∧ s.cyc.path = some p then s.enterRunPhase s.startSpeed
  else if s.transferDone then s.completeTransfer
  else s

/-- The valve stands where its move has brought it, and the arrival is reported (R116); the manager makes its begin test (R132). -/
def State.valveArrives (s : State) : State :=
  match s.act.valve.arrived with
  | none => s
  | some p => (State.valveReport { s with act := { s.act with valve := .standing p } } p).beginTest

/-- VALVE_MOVE_COMPLETE (R116). -/
def execValveMoveComplete (s : State) : Host.Outcome State Fault Refusal := s.event .valveMoveComplete State.valveArrives

/-- A drive fault; in OFF too the new state is handed to the manager (R102). -/
def State.faultEvent (s : State) (cause : DriveFaultCause) (code : Nat) : State :=
  let t := s.driveFault cause code
  if s.cyc.state = .off then t.managerReact else t

/-- START_WINDOW_EXPIRY (R84, R101): a start failure. -/
def execStartWindowExpiry (s : State) : Host.Outcome State Fault Refusal :=
  s.event .startWindowExpiry fun t => t.faultEvent .startFailure 0

/-- START_HOLD_END (R90): the first speed update. -/
def execStartHoldEnd (s : State) : Host.Outcome State Fault Refusal := s.event .startHoldEnd State.updateSpeed

/-- SPEED_UPDATE (R91, R92). -/
def execSpeedUpdate (s : State) : Host.Outcome State Fault Refusal := s.event .speedUpdate State.updateSpeed

/-- TRANSFER_TIMER_EXPIRY (R86): 20 s are over and the valve is at the target. -/
def execTransferTimerExpiry (s : State) : Host.Outcome State Fault Refusal :=
  s.event .transferTimerExpiry State.completeTransfer

/-- STOP_TIMER_EXPIRY (R88). -/
def execStopTimerExpiry (s : State) : Host.Outcome State Fault Refusal := s.event .stopTimerExpiry State.stopped

/-- MINIMUM_OFF_TIME_OVER (R89): the arbiter makes its start check. -/
def execMinimumOffTimeOver (s : State) : Host.Outcome State Fault Refusal := s.event .minimumOffTimeOver State.startCheck

/-- FAULT_WAIT_END (R89, R102): the arbiter makes its start check. -/
def execFaultWaitEnd (s : State) : Host.Outcome State Fault Refusal := s.event .faultWaitEnd State.startCheck

/-- POWER_CAP_EXPIRY (R95). -/
def execPowerCapExpiry (s : State) : Host.Outcome State Fault Refusal :=
  s.event .powerCapExpiry fun t => (t.setPowerCap none).capLifted

/-! ## The drive link -/

/-- A DRIVE_COMMAND frame is sent and its answer window opens; the first run command of a start begins the start window (R84,
R97, R98). -/
def State.sendCommand (s : State) : State :=
  { s with
    link := { s.link with sent := s.cyc.commandFrame, sentAt := s.now, window := some 0 },
    cyc := { s.cyc with
      startWindow :=
        if s.cyc.state = .starting ∧ s.cyc.phase = some .run ∧ s.cyc.startWindow = none then some 0
        else s.cyc.startWindow } }

/-- DRIVE_COMMAND (R97). -/
def execDriveCommand (s : State) : Host.Outcome State Fault Refusal := s.event .driveCommand State.sendCommand

/-- The cycle rules on a reply that declares no fault: the end of STARTING (R84) and the end of STOPPING (R88). A reply of 100 units
or more ends STARTING in its RUN phase even where the first run command has not been sent yet (log entry 33). -/
def State.cycleReply (s : State) (r : DriveReply) : State :=
  if s.cyc.state = .starting ∧ s.cyc.phase = some .run ∧ r.state = .running ∧ 100 ≤ r.units then
    s.enterRunningFromStart.reportRunning
  else if s.cyc.state = .stopping ∧ r.state = .stopped then s.stopped
  else s

/-- A valid reply: the link record, the fault rules or the cycle rules, and last a restoration's report (R98 to R103; log entry
11). -/
def State.driveReply (s : State) (r : DriveReply) : State :=
  let fault := replyFault s s.link r
  let t := State.countReply { s with link := s.link.reply r } r fault
  let u := match fault with
    | some (c, n) => t.faultEvent c n
    | none => t.cycleReply r
  if s.link.state ≠ .up ∧ t.link.state = .up then u.startCheck else u

/-- DRIVE_STATUS (R98): bytes outside a window, and bytes that are no valid answer, are discarded. The operand is one answer, as log
entry 32 has it. -/
def execDriveStatus (frame : List Byte) (s : State) : Host.Outcome State Fault Refusal :=
  match s.link.window, readDriveStatus frame with
  | some _, some r => s.finish (s.driveReply r)
  | _, _ => .next s

/-- A miss: the link record, the stall count, and the loss at the fifth (R98, R99, R101). -/
def State.driveMissed (s : State) : State :=
  let t := State.clearStall { s with link := s.link.missed }
  if s.link.state ≠ .lost ∧ t.link.state = .lost then
    (if s.cyc.state = .off then t.driveLoss.managerReact else t.driveLoss)
  else t

/-- DRIVE_MISS (R98). -/
def execDriveMiss (s : State) : Host.Outcome State Fault Refusal := s.event .driveMiss State.driveMissed

end Sys2Proof.Machine
end

