-- ==== Sys2Proof/Machine/DefrostCommands.lean ====
section
/-!
DEFINITION. The events of the defrost manager: DEFROST_AGE_LIMIT, DEFERRAL_END, PATH_WAIT_EXPIRY, STEP_DURATION_EXPIRY,
STEP_TIMEOUT_EXPIRY, HOLDOFF_END (R128 to R144).
-/
namespace Sys2Proof.Machine

/-- DEFROST_AGE_LIMIT (R128). -/
def execDefrostAgeLimit (s : State) : Host.Outcome State Fault Refusal := s.event .defrostAgeLimit State.dueTest

/-- The deferral wait ends: the path wait begins at the later of the due moment and the deferral end (R131). -/
def State.endDeferral (s : State) : State := s.beginWait (max (s.mgr.dueMoment.getD 0) (s.mgr.deferralEnd.getD 0))

/-- DEFERRAL_END (R131). -/
def execDeferralEnd (s : State) : Host.Outcome State Fault Refusal := s.event .deferralEnd State.endDeferral

/-- The path wait has run its 1800 s: the manager asks for release, and tests on the answer (R131). -/
def State.pathWaitOver (s : State) : State :=
  match s.programRecord with
  | some g => (s.askRelease g.path).beginTest
  | none => s

/-- PATH_WAIT_EXPIRY (R131). -/
def execPathWaitExpiry (s : State) : Host.Outcome State Fault Refusal := s.event .pathWaitExpiry State.pathWaitOver

/-- The running step ends with a cause (R141). -/
def State.stepEnds (s : State) (cause : EndCause) : State :=
  match s.runningProgram, s.runningStep with
  | some g, some st => s.endStep g st cause
  | _, _ => s

/-- STEP_DURATION_EXPIRY (R140). -/
def execStepDurationExpiry (s : State) : Host.Outcome State Fault Refusal :=
  s.event .stepDurationExpiry fun t => t.stepEnds .time

/-- STEP_TIMEOUT_EXPIRY (R140). -/
def execStepTimeoutExpiry (s : State) : Host.Outcome State Fault Refusal :=
  s.event .stepTimeoutExpiry fun t => t.stepEnds .timeout

/-- The holdoff ends: IDLE, and the due test (R144). -/
def State.endHoldoff (s : State) : State :=
  State.dueTest { s with mgr := { s.mgr with state := .idle, holdoffEnd := none } }

/-- HOLDOFF_END (R144). -/
def execHoldoffEnd (s : State) : Host.Outcome State Fault Refusal := s.event .holdoffEnd State.endHoldoff

end Sys2Proof.Machine
end

