-- ==== Sys2Proof/Machine/DoorCommands.lean ====
section
/-!
DEFINITION. The commands of the door monitor: DOOR_EDGE, DOOR_TRANSITION, DOOR_LONG, LAPSE, DOOR_MINUTE (R47 to R53).
-/
namespace Sys2Proof.Machine

/-- A door record is replaced. -/
def State.setDoor (s : State) (d : Door) (r : DoorRecord) : State := { s with doors := s.doors.set d r }

/-- An edge of a raw input: a run begins where the level now differs from the debounced state, and ends where it does not (R47). -/
def DoorRecord.edge (r : DoorRecord) (level : PinLevel) : DoorRecord :=
  { r with raw := level, run := if level = r.debounced then none else some 0 }

/-- DOOR_EDGE (R47); a level equal to the raw level is no edge. -/
def execDoorEdge (d : Door) (level : PinLevel) (s : State) : Host.Outcome State Fault Refusal :=
  if level = (s.doors.get d).raw then .next s else s.finish (s.setDoor d ((s.doors.get d).edge level))

/-- The record after a transition: an opening at age 0, or a closing; both return every mark (R49, R50). -/
def DoorRecord.turn (r : DoorRecord) : DoorRecord :=
  { r with run := none, openAge := if r.isOpen then none else some 0, longReported := false, lapsed := false, minutes := 0 }

/-- A fresh door (spec/00 "Door names"). -/
def freshDoor : Door → Bool
  | .leftFresh => true
  | .rightFresh => true
  | .flexDrawer => false
  | .freezerDrawer => false

/-- A transition: the record, the zones' door views (R16, R54), and the end of the after-run at an opening of a fresh door
(R110). -/
def State.doorTurn (s : State) (d : Door) : State :=
  let t := (s.setDoor d (s.doors.get d).turn).viewAllDoors
  if freshDoor d = true ∧ (s.doors.get d).isOpen = false then t.endAfterRun else t

/-- DOOR_TRANSITION (R47, R49, R50). -/
def execDoorTransition (d : Door) (s : State) : Host.Outcome State Fault Refusal :=
  s.event (.doorTransition d) fun t => t.doorTurn d

/-- DOOR_LONG (R51). -/
def execDoorLong (d : Door) (s : State) : Host.Outcome State Fault Refusal :=
  s.event (.doorLong d) fun t => (t.setDoor d { t.doors.get d with longReported := true }).raise .doorLong

/-- LAPSE (R52). -/
def execLapse (d : Door) (s : State) : Host.Outcome State Fault Refusal :=
  s.event (.lapse d) fun t => t.setDoor d { t.doors.get d with lapsed := true }

/-- DOOR_MINUTE (R53, R127): the minute is credited by the door weight. -/
def execDoorMinute (d : Door) (s : State) : Host.Outcome State Fault Refusal :=
  s.event (.doorMinute d) fun t =>
    (t.setDoor d { t.doors.get d with minutes := (t.doors.get d).minutes + 1 }).credit t.tables.doorWeight

end Sys2Proof.Machine
end

