-- ==== Sys2Proof/Machine/PortCommands.lean ====
section
/-!
DEFINITION. Reception and the requests: the bytes and gaps of the ports, and one command for each row of the command catalogue
(R150 to R166).
-/
namespace Sys2Proof.Machine

/-! ## Reception (R151, R152) -/

/-- PORT_S_GAP_TIMEOUT (R152). -/
def execPortSGapTimeout (s : State) : Host.Outcome State Fault Refusal :=
  s.event .portSGapTimeout fun t => { t with ports := { t.ports with rxS := .hunt } }

/-- A length byte that a frame can have (R152). -/
def lengthFits (b : Byte) : Bool := decide (2 ≤ b.toNat) && decide (b.toNat ≤ 23)

/-- A length byte outside 2..23 is answered BAD_LENGTH with echoed code 0 (R152). -/
def State.rejectLength (s : State) : State :=
  State.respond { s with ports := { s.ports with rxS := .hunt, lastByteS := s.clock } } .s
    { status := .badLength, echo := 0, data := [] }

/-- PORT_S_LENGTH_REJECT (R152). -/
def execPortSLengthReject (b : Byte) (s : State) : Host.Outcome State Fault Refusal :=
  if s.ports.rxS = .length ∧ lengthFits b = false then s.finish s.rejectLength else .next s

/-- PORT_S_FRAME_SENT (R152): the front frame leaves the queue. -/
def execPortSFrameSent (s : State) : Host.Outcome State Fault Refusal :=
  s.finish { s with ports := { s.ports with txS := s.ports.txS.drop 1 } }

/-- The receive state of Port S after a byte that ends no frame and is no rejected length (R152); none where it is one. -/
def SReceive.take (x : SReceive) (b : Byte) : Option SReceive :=
  match x with
  | .hunt => if b = 0xA5#8 then some .length else some .hunt
  | .length => if lengthFits b then some (.body b.toNat []) else none
  | .body n l => if l.length + 1 < n then some (.body n (l ++ [b])) else none

/-- PORT_S_BYTE_RECEIVED (R152). -/
def execPortSByteReceived (b : Byte) (s : State) : Host.Outcome State Fault Refusal :=
  match s.ports.rxS.take b with
  | some x => s.finish { s with ports := { s.ports with rxS := x, lastByteS := s.clock } }
  | none => .next s

/-- The commands that the bytes written in a transaction are to the part: one for each byte where the address is the port's, and none
elsewhere (R151; log entry 25). The request row that carries the STOP or repeated START ends it. -/
def writtenBytes (p : I2cPort) (address : BitVec 7) (written : List Byte) : List Instr :=
  if address = targetAddress then written.map (Instr.writeTransactionByte p) else []

/-- WRITE_TRANSACTION_BYTE (R151): a byte that the port acknowledges. -/
def execWriteTransactionByte (p : I2cPort) (b : Byte) (s : State) : Host.Outcome State Fault Refusal :=
  s.finish { s with ports := s.ports.setRx p ((s.ports.rx p).take b) }

/-! ## The requests -/

/-- UNKNOWN_COMMAND (R154): frames that name no command of the catalogue. No command rule is reached. -/
def execUnknownCommand (e : Ending) (s : State) : Host.Outcome State Fault Refusal :=
  s.finish (s.request e (fun f => f.command.isNone) fun t _ _ => .refuse t .unknownCommand)

/-- IDENTIFY (R158). -/
def execIdentify (e : Ending) (s : State) : Host.Outcome State Fault Refusal :=
  s.finish (s.request e (fun f => f.names .identify) ruleIdentify)

/-- GET_ZONE (R44). -/
def execGetZone (e : Ending) (s : State) : Host.Outcome State Fault Refusal :=
  s.finish (s.request e (fun f => f.names .getZone) ruleGetZone)

/-- GET_SYSTEM (R158). -/
def execGetSystem (e : Ending) (s : State) : Host.Outcome State Fault Refusal :=
  s.finish (s.request e (fun f => f.names .getSystem) ruleGetSystem)

/-- READ_EVENTS (R164). -/
def execReadEvents (e : Ending) (s : State) : Host.Outcome State Fault Refusal :=
  s.finish (s.request e (fun f => f.names .readEvents) ruleReadEvents)

/-- ACK_EVENTS (R164). -/
def execAckEvents (e : Ending) (s : State) : Host.Outcome State Fault Refusal :=
  s.finish (s.request e (fun f => f.names .ackEvents) ruleAckEvents)

/-- SET_EVENT_MASK (R165). -/
def execSetEventMask (e : Ending) (s : State) : Host.Outcome State Fault Refusal :=
  s.finish (s.request e (fun f => f.names .setEventMask) ruleSetEventMask)

/-- SET_SETPOINT (R41). -/
def execSetSetpoint (e : Ending) (s : State) : Host.Outcome State Fault Refusal :=
  s.finish (s.request e (fun f => f.names .setSetpoint) ruleSetSetpoint)

/-- SET_MODE (R42). -/
def execSetMode (e : Ending) (s : State) : Host.Outcome State Fault Refusal :=
  s.finish (s.request e (fun f => f.names .setMode) ruleSetMode)

/-- START_BOOST (R38). -/
def execStartBoost (e : Ending) (s : State) : Host.Outcome State Fault Refusal :=
  s.finish (s.request e (fun f => f.names .startBoost) ruleStartBoost)

/-- CANCEL_BOOST (R39). -/
def execCancelBoost (e : Ending) (s : State) : Host.Outcome State Fault Refusal :=
  s.finish (s.request e (fun f => f.names .cancelBoost) ruleCancelBoost)

/-- LIMIT_POWER (R94). -/
def execLimitPower (e : Ending) (s : State) : Host.Outcome State Fault Refusal :=
  s.finish (s.request e (fun f => f.names .limitPower) ruleLimitPower)

/-- DEFER_DEFROST (R130). -/
def execDeferDefrost (e : Ending) (s : State) : Host.Outcome State Fault Refusal :=
  s.finish (s.request e (fun f => f.names .deferDefrost) ruleDeferDefrost)

/-- RUN_PROGRAM (R146). -/
def execRunProgram (e : Ending) (s : State) : Host.Outcome State Fault Refusal :=
  s.finish (s.request e (fun f => f.names .runProgram) ruleRunProgram)

/-- ABORT_PROGRAM (R143). -/
def execAbortProgram (e : Ending) (s : State) : Host.Outcome State Fault Refusal :=
  s.finish (s.request e (fun f => f.names .abortProgram) ruleAbortProgram)

/-- SET_PANEL_MAP (R156). -/
def execSetPanelMap (e : Ending) (s : State) : Host.Outcome State Fault Refusal :=
  s.finish (s.request e (fun f => f.names .setPanelMap) ruleSetPanelMap)

/-- A RESTART frame of level 2 (R159). -/
def Frame.fullRestart (f : Frame) : Bool := f.names .restart && decide (f.arg 0 = 2)

/-- COOLING_RESTART (R159): RESTART frames of a level other than 2. -/
def execCoolingRestart (e : Ending) (s : State) : Host.Outcome State Fault Refusal :=
  s.finish (s.request e (fun f => f.names .restart && !f.fullRestart) ruleCoolingRestart)

/-- A full restart that passes steps 1 to 7 is a device reset, and no response is written (R159). -/
def State.fullRestart (s : State) (e : Ending) : State :=
  match s.ports.taken s.clock e with
  | none => s
  | some t =>
    if t.frame.fullRestart then
      match (s.afterTaking t).refusal t.port t.frame with
      | some st => (s.afterTaking t).respond t.port { status := st, echo := t.frame.echo, data := [] }
      | none => s.deviceReset s.rawLevels
    else s

/-- FULL_RESTART (R159). -/
def execFullRestart (e : Ending) (s : State) : Host.Outcome State Fault Refusal := .next (s.fullRestart e).settle

/-- READ_TABLE (R160). -/
def execReadTable (e : Ending) (s : State) : Host.Outcome State Fault Refusal :=
  s.finish (s.request e (fun f => f.names .readTable) ruleReadTable)

/-- WRITE_TABLE_CONVERSION (R6). -/
def execWriteTableConversion (e : Ending) (s : State) : Host.Outcome State Fault Refusal :=
  s.finish (s.request e (fun f => f.writes .conversion) ruleWriteConversion)

/-- WRITE_TABLE_PRESET (R19). -/
def execWriteTablePreset (e : Ending) (s : State) : Host.Outcome State Fault Refusal :=
  s.finish (s.request e (fun f => f.writes .preset) ruleWritePreset)

/-- WRITE_TABLE_LADDER (R22). -/
def execWriteTableLadder (e : Ending) (s : State) : Host.Outcome State Fault Refusal :=
  s.finish (s.request e (fun f => f.writes .ladder) ruleWriteLadder)

/-- WRITE_TABLE_STEP (R137). -/
def execWriteTableStep (e : Ending) (s : State) : Host.Outcome State Fault Refusal :=
  s.finish (s.request e (fun f => f.writes .step) ruleWriteStep)

/-- WRITE_TABLE_PROGRAM (R137). -/
def execWriteTableProgram (e : Ending) (s : State) : Host.Outcome State Fault Refusal :=
  s.finish (s.request e (fun f => f.writes .program) ruleWriteProgram)

/-- A WRITE_TABLE frame of the global kind, or of none of the six (R160). -/
def Frame.writesGlobal (f : Frame) : Bool :=
  f.names .writeTable && (decide (f.tableKind = some .global) || f.tableKind.isNone)

/-- WRITE_TABLE_GLOBAL (R160, R137). -/
def execWriteTableGlobal (e : Ending) (s : State) : Host.Outcome State Fault Refusal :=
  s.finish (s.request e Frame.writesGlobal ruleWriteGlobal)

/-- SAVE_TABLES (R161). -/
def execSaveTables (e : Ending) (s : State) : Host.Outcome State Fault Refusal :=
  s.finish (s.request e (fun f => f.names .saveTables) ruleSaveTables)

/-- SERVICE_HOLD_ON (R121): SERVICE_HOLD frames of argument 1. -/
def execServiceHoldOn (e : Ending) (s : State) : Host.Outcome State Fault Refusal :=
  s.finish (s.request e (fun f => f.names .serviceHold && decide (f.arg 0 = 1)) ruleServiceHoldOn)

/-- SERVICE_HOLD_OFF (R123): SERVICE_HOLD frames of any other argument. -/
def execServiceHoldOff (e : Ending) (s : State) : Host.Outcome State Fault Refusal :=
  s.finish (s.request e (fun f => f.names .serviceHold && !decide (f.arg 0 = 1)) ruleServiceHoldOff)

/-- FORCE_OUTPUT (R122). -/
def execForceOutput (e : Ending) (s : State) : Host.Outcome State Fault Refusal :=
  s.finish (s.request e (fun f => f.names .forceOutput) ruleForceOutput)

end Sys2Proof.Machine
end

