-- ==== Sys2Proof/Machine/StartUp.lean ====
section
/-!
DEFINITION. The commands of start-up and of the sensor front end: DEVICE_RESET, IMAGE_LOAD_COMPLETE, SETTINGS_LOAD_COMPLETE, READY,
SAMPLE_COMPLETION.
-/
namespace Sys2Proof.Machine

/-- DEVICE_RESET (R45, R48, R80, R106, R125, R126, R150, R163, R167, R170). -/
def execDeviceReset (raw : DoorLevels) (s : State) : Host.Outcome State Fault Refusal := .next (s.deviceReset raw)

/-- IMAGE_LOAD_COMPLETE (R168): once after a device reset. -/
def execImageLoadComplete (header body : List Byte) (s : State) : Host.Outcome State Fault Refusal :=
  if s.store.imageLoaded then .next s else s.finish (s.loadImage header body)

/-- SETTINGS_LOAD_COMPLETE (R169): once, after the image load. -/
def execSettingsLoadComplete (record : List Byte) (s : State) : Host.Outcome State Fault Refusal :=
  if s.store.imageLoaded = true ∧ s.store.settingsLoaded = false then s.finish (s.loadSettings record) else .next s

/-- READY (R170). -/
def execReady (s : State) : Host.Outcome State Fault Refusal := s.event .ready State.riseReady

/-- The consumers of a channel report (R12): the zone of an air channel, or the actuator block and the defrost manager. -/
def State.takeReport (s : State) (r : Report) : State :=
  match airZone r.channel with
  | some z => s.evaluateZone z r
  | none => (s.evaporatorReport r).stepReport r

/-- A sample completes (R1): record, SENSOR, report. -/
def State.sample (s : State) (ch : Channel) (code : Nat) : State :=
  let before := s.channels.get ch
  let after := sampleRecord s.tables.conv code before
  (State.raiseAll { s with channels := s.channels.set ch after } (sensorEvents before after)).takeReport
    (makeReport ch code before after)

/-- SAMPLE_COMPLETION (R1): sampling begins when both loads have ended (R170). -/
def execSampleCompletion (ch : Channel) (code : BitVec 12) (s : State) : Host.Outcome State Fault Refusal :=
  if s.store.imageLoaded = true ∧ s.store.settingsLoaded = true then s.finish (s.sample ch code.toNat) else .next s

end Sys2Proof.Machine
end

