-- ==== Sys2Proof/Machine/StoreCommands.lean ====
section
/-!
DEFINITION. The events of the image store: QUIET_TIMER_EXPIRY, HOURLY_MARK, PAGE_WRITE_COMPLETE, PAGE_BUSY_TIMEOUT,
SAVE_RETRY_EXPIRY (R171 to R173).
-/
namespace Sys2Proof.Machine

/-- QUIET_TIMER_EXPIRY (R171). -/
def execQuietTimerExpiry (s : State) : Host.Outcome State Fault Refusal :=
  s.event .quietTimerExpiry fun t => State.settingsSaveDue { t with store := { t.store with quiet := none } }

/-- The hourly mark: accumulator and age are compared with the stored copy (R171). -/
def State.markHour (s : State) : State :=
  let t : State := { s with store := { s.store with hoursMarked := s.now / 3600 } }
  if s.store.stored = some (s.acct.accumulator, s.acct.age) then t else t.settingsSaveDue

/-- HOURLY_MARK (R171). -/
def execHourlyMark (s : State) : Host.Outcome State Fault Refusal := s.event .hourlyMark State.markHour

/-- PAGE_WRITE_COMPLETE (R172), with the bytes read back, while a save is in flight. -/
def execPageWriteComplete (readBack : List Byte) (s : State) : Host.Outcome State Fault Refusal :=
  match s.store.job with
  | some j => s.finish (s.pageWritten j readBack)
  | none => .next s

/-- The page in progress has failed: a status read finds its busy bit still set (R172). -/
def State.pageTimedOut (s : State) : State :=
  match s.store.job with
  | some j => (s.sends [spiStatusRead]).failSave j
  | none => s

/-- PAGE_BUSY_TIMEOUT (R172). -/
def execPageBusyTimeout (s : State) : Host.Outcome State Fault Refusal := s.event .pageBusyTimeout State.pageTimedOut

/-- The retry timer of a kind runs out: that save begins anew, or waits for the end of the save in flight (R172, R173). -/
def State.retrySave (s : State) (k : SaveKind) : State :=
  match k with
  | .settings => State.settingsSaveDue { s with store := { s.store with settingsRetry := none } }
  | .tables =>
    let t : State := { s with store := { s.store with tablesRetry := none } }
    if s.store.saveIdle then t.beginTablesSave [] else { t with store := { t.store with tablesDue := true } }

/-- SAVE_RETRY_EXPIRY (R172). -/
def execSaveRetryExpiry (k : SaveKind) (s : State) : Host.Outcome State Fault Refusal :=
  s.event (.saveRetryExpiry k) fun t => t.retrySave k

end Sys2Proof.Machine
end

