-- ==== Sys2Proof/Machine/ZoneCommands.lean ====
section
/-!
DEFINITION. The events of the zone controller and of the arbiter's paths: BOOST_EXPIRY, DEFROST_WINDOW_CLOSE, FAULT_TIMER_EXPIRY.
-/
namespace Sys2Proof.Machine

/-- BOOST_EXPIRY (R40). -/
def execBoostExpiry (z : Zone) (s : State) : Host.Outcome State Fault Refusal :=
  s.event (.boostExpiry z) fun t => t.removeBoost z

/-- DEFROST_WINDOW_CLOSE (R32). -/
def execDefrostWindowClose (s : State) : Host.Outcome State Fault Refusal :=
  s.event .defrostWindowClose fun t => { t with window := .closed }

/-- FAULT_TIMER_EXPIRY (R57). -/
def execFaultTimerExpiry (p : Path) (s : State) : Host.Outcome State Fault Refusal :=
  s.event (.faultTimerExpiry p) fun t => t.faultTimerOut p

end Sys2Proof.Machine
end

