-- ==== Sys2Proof/Machine/Dispatch.lean ====
section
/-!
DEFINITION. The dispatch: one arm for each constructor of Instr, one call of its meaning.
-/
namespace Sys2Proof.Machine

def exec (i : Instr) (s : State) : Host.Outcome State Fault Refusal :=
  match i with
  | .deviceReset raw => Sys2Proof.Machine.execDeviceReset raw s
  | .imageLoadComplete header body => Sys2Proof.Machine.execImageLoadComplete header body s
  | .settingsLoadComplete record => Sys2Proof.Machine.execSettingsLoadComplete record s
  | .ready => Sys2Proof.Machine.execReady s
  | .sampleCompletion ch code => Sys2Proof.Machine.execSampleCompletion ch code s
  | .doorEdge d level => Sys2Proof.Machine.execDoorEdge d level s
  | .doorTransition d => Sys2Proof.Machine.execDoorTransition d s
  | .doorLong d => Sys2Proof.Machine.execDoorLong d s
  | .lapse d => Sys2Proof.Machine.execLapse d s
  | .doorMinute d => Sys2Proof.Machine.execDoorMinute d s
  | .boostExpiry z => Sys2Proof.Machine.execBoostExpiry z s
  | .defrostWindowClose => Sys2Proof.Machine.execDefrostWindowClose s
  | .faultTimerExpiry p => Sys2Proof.Machine.execFaultTimerExpiry p s
  | .turnMaximum => Sys2Proof.Machine.execTurnMaximum s
  | .onTimerMinimum => Sys2Proof.Machine.execOnTimerMinimum s
  | .lowerRunMinute => Sys2Proof.Machine.execLowerRunMinute s
  | .valveMoveComplete => Sys2Proof.Machine.execValveMoveComplete s
  | .startWindowExpiry => Sys2Proof.Machine.execStartWindowExpiry s
  | .startHoldEnd => Sys2Proof.Machine.execStartHoldEnd s
  | .speedUpdate => Sys2Proof.Machine.execSpeedUpdate s
  | .transferTimerExpiry => Sys2Proof.Machine.execTransferTimerExpiry s
  | .stopTimerExpiry => Sys2Proof.Machine.execStopTimerExpiry s
  | .minimumOffTimeOver => Sys2Proof.Machine.execMinimumOffTimeOver s
  | .faultWaitEnd => Sys2Proof.Machine.execFaultWaitEnd s
  | .powerCapExpiry => Sys2Proof.Machine.execPowerCapExpiry s
  | .driveCommand => Sys2Proof.Machine.execDriveCommand s
  | .driveStatus frame => Sys2Proof.Machine.execDriveStatus frame s
  | .driveMiss => Sys2Proof.Machine.execDriveMiss s
  | .tachReading f rpm => Sys2Proof.Machine.execTachReading f rpm s
  | .condenserRetryExpiry => Sys2Proof.Machine.execCondenserRetryExpiry s
  | .condenserRunOnExpiry => Sys2Proof.Machine.execCondenserRunOnExpiry s
  | .afterRunExpiry => Sys2Proof.Machine.execAfterRunExpiry s
  | .fanDelayExpiry => Sys2Proof.Machine.execFanDelayExpiry s
  | .damperMoveComplete d => Sys2Proof.Machine.execDamperMoveComplete d s
  | .damperHomingComplete d => Sys2Proof.Machine.execDamperHomingComplete d s
  | .heaterLimit => Sys2Proof.Machine.execHeaterLimit s
  | .flexHeaterLimit => Sys2Proof.Machine.execFlexHeaterLimit s
  | .flexHeaterRestEnd => Sys2Proof.Machine.execFlexHeaterRestEnd s
  | .holdTimeout => Sys2Proof.Machine.execHoldTimeout s
  | .defrostAgeLimit => Sys2Proof.Machine.execDefrostAgeLimit s
  | .deferralEnd => Sys2Proof.Machine.execDeferralEnd s
  | .pathWaitExpiry => Sys2Proof.Machine.execPathWaitExpiry s
  | .stepDurationExpiry => Sys2Proof.Machine.execStepDurationExpiry s
  | .stepTimeoutExpiry => Sys2Proof.Machine.execStepTimeoutExpiry s
  | .holdoffEnd => Sys2Proof.Machine.execHoldoffEnd s
  | .portSGapTimeout => Sys2Proof.Machine.execPortSGapTimeout s
  | .portSLengthReject b => Sys2Proof.Machine.execPortSLengthReject b s
  | .portSFrameSent => Sys2Proof.Machine.execPortSFrameSent s
  | .unknownCommand e => Sys2Proof.Machine.execUnknownCommand e s
  | .identify e => Sys2Proof.Machine.execIdentify e s
  | .getZone e => Sys2Proof.Machine.execGetZone e s
  | .getSystem e => Sys2Proof.Machine.execGetSystem e s
  | .readEvents e => Sys2Proof.Machine.execReadEvents e s
  | .ackEvents e => Sys2Proof.Machine.execAckEvents e s
  | .setEventMask e => Sys2Proof.Machine.execSetEventMask e s
  | .setSetpoint e => Sys2Proof.Machine.execSetSetpoint e s
  | .setMode e => Sys2Proof.Machine.execSetMode e s
  | .startBoost e => Sys2Proof.Machine.execStartBoost e s
  | .cancelBoost e => Sys2Proof.Machine.execCancelBoost e s
  | .limitPower e => Sys2Proof.Machine.execLimitPower e s
  | .deferDefrost e => Sys2Proof.Machine.execDeferDefrost e s
  | .runProgram e => Sys2Proof.Machine.execRunProgram e s
  | .abortProgram e => Sys2Proof.Machine.execAbortProgram e s
  | .setPanelMap e => Sys2Proof.Machine.execSetPanelMap e s
  | .coolingRestart e => Sys2Proof.Machine.execCoolingRestart e s
  | .fullRestart e => Sys2Proof.Machine.execFullRestart e s
  | .readTable e => Sys2Proof.Machine.execReadTable e s
  | .writeTableConversion e => Sys2Proof.Machine.execWriteTableConversion e s
  | .writeTablePreset e => Sys2Proof.Machine.execWriteTablePreset e s
  | .writeTableLadder e => Sys2Proof.Machine.execWriteTableLadder e s
  | .writeTableStep e => Sys2Proof.Machine.execWriteTableStep e s
  | .writeTableProgram e => Sys2Proof.Machine.execWriteTableProgram e s
  | .writeTableGlobal e => Sys2Proof.Machine.execWriteTableGlobal e s
  | .saveTables e => Sys2Proof.Machine.execSaveTables e s
  | .serviceHoldOn e => Sys2Proof.Machine.execServiceHoldOn e s
  | .serviceHoldOff e => Sys2Proof.Machine.execServiceHoldOff e s
  | .forceOutput e => Sys2Proof.Machine.execForceOutput e s
  | .quietTimerExpiry => Sys2Proof.Machine.execQuietTimerExpiry s
  | .hourlyMark => Sys2Proof.Machine.execHourlyMark s
  | .pageWriteComplete readBack => Sys2Proof.Machine.execPageWriteComplete readBack s
  | .pageBusyTimeout => Sys2Proof.Machine.execPageBusyTimeout s
  | .saveRetryExpiry k => Sys2Proof.Machine.execSaveRetryExpiry k s
  | .portSByteReceived b => Sys2Proof.Machine.execPortSByteReceived b s
  | .writeTransactionByte p b => Sys2Proof.Machine.execWriteTransactionByte p b s

end Sys2Proof.Machine
end

