-- ==== Sys2Proof/Safety.lean ====
section
/-!
DEFINITION. What counts as a safe state, in the terms the statements use: the invariants of the part, when a request is admitted, and
which commands are requests.
-/
namespace Sys2Proof.Machine

/-! ## Outputs -/

/-- The outputs agree with the state: recomputing them changes nothing (spec/06). -/
def State.Settled (s : State) : Prop := s.settle = s

/-- The lower defrost heater is off whenever the cycle is not OFF with the valve anywhere but at UPPER (R117). -/
def State.HeaterInterlocked (s : State) : Prop :=
  s.act.lowerHeater.output = true → s.cyc.state = .off ∨ s.act.valve = .standing .upper

/-! ## The cycle controller -/

/-- The states in which the run flag is 1 (R97). -/
def CycleRecord.mustRun (c : CycleRecord) : Prop :=
  c.state = .running ∨ c.state = .transfer ∨ (c.state = .starting ∧ c.phase = some .run)

/-- A speed the drive link may carry under the caps (R92, R97). -/
def CapRecord.admits (c : CapRecord) (v : Nat) : Prop :=
  1200 ≤ v ∧ v ≤ 4500 ∧ 10 ∣ v ∧ (∀ p, c.power = some p → v ≤ p.rpm) ∧ (c.condenser = true → v ≤ 2400)

/-- The commanded speed is 0 with the run flag 0, and otherwise lies within 1200..4500, every cap and the multiples of 10; the run
flag follows the state; caps and forced runs lie in their domains (R82, R93, R97, R104). -/
structure State.SpeedBounded (s : State) : Prop where
  flag : s.cyc.runFlag = true ↔ s.cyc.mustRun
  stopped : s.cyc.runFlag = false → s.cyc.speed = 0
  running : s.cyc.runFlag = true → s.cap.admits s.cyc.speed
  caps : ∀ p, s.cap.power = some p → 1200 ≤ p.rpm ∧ p.rpm ≤ 4500 ∧ 10 ∣ p.rpm
  forced : s.cyc.runFlag = true → s.cyc.path = none → ∃ f, s.act.forced = some f ∧ 1200 ≤ f.speed ∧ f.speed ≤ 4500
  transfer : s.cyc.state = .transfer → s.cyc.path.isSome = true

/-- No compressor run before 180 s have passed since start-up and since the last stop (R89). -/
def State.OffTimeKept (s : State) : Prop :=
  s.cyc.state = .starting ∨ s.cyc.state = .running ∨ s.cyc.state = .transfer → s.cyc.lastStop + 180 ≤ s.now

/-! ## The arbiter and the zones -/

/-- The levels of a zone's entries, over the turn queue and the served set. -/
def Arbiter.levelsOf (a : Arbiter) (z : Zone) : List CallLevel :=
  ((a.queue ++ a.served).filter fun e => decide (e.zone = z)).map (·.level)

/-- The levels a zone's demand calls for: one entry at its level while CALLING, none while IDLE (R28). -/
def Demand.levels : Demand → List CallLevel
  | .idle => []
  | .calling l => [l]

/-- A calling zone has exactly one entry in the arbiter, at its level, and an idle zone has none (R28, R59). -/
def State.OneEntryEach (s : State) : Prop := ∀ z, s.arb.levelsOf z = (s.zones.get z).demand.levels

/-! ## Tables and settings -/

/-- The working tables have their sizes and lie in their domains, every valid program has valid chains, and the auto-defrost program
is valid on LOWER (R5, R17, R20, R134, R136, R137). -/
structure Tables.Good (t : Tables) : Prop where
  points : t.conv.length = 17
  conv : t.convValid = true
  presetCount : t.presets.length = 16
  presets : ∀ p ∈ t.presets, p.inDomain = true
  ladderCount : t.ladders.length = 12
  ladders : ∀ l ∈ t.ladders, l.inDomain = true
  stepCount : t.steps.length = 32
  steps : ∀ st ∈ t.steps, st.inDomain = true
  programCount : t.programs.length = 8
  programs : ∀ g ∈ t.programs, g.inDomain = true
  chains : t.chainsValid = true
  auto : t.autoValid = true
  gain : t.ambientGain ≤ 40
  weight : t.doorWeight ≤ 15

/-- A zone's preset contains the zone, and its setpoint lies in the preset's range (R19, R41). -/
def State.SetpointInRange (s : State) (z : Zone) : Prop :=
  (s.zones.get z).preset < 16 ∧ (s.tablePreset z).mask.get z = true
    ∧ (s.tablePreset z).minSetpoint ≤ (s.zones.get z).setpoint ∧ (s.zones.get z).setpoint ≤ (s.tablePreset z).maxSetpoint

/-- The loads come in order, requests are served only after them (R155, R170), the tables are good, and from the settings load on
every zone's setpoint lies in its preset's range; before it, every zone has a preset to take (R23). -/
structure State.Configured (s : State) : Prop where
  order : s.store.settingsLoaded = true → s.store.imageLoaded = true
  served : s.ready = true → s.store.settingsLoaded = true
  tables : s.tables.Good
  choices : s.store.settingsLoaded = false → s.tables.zonesServed = true
  setpoints : s.store.settingsLoaded = true → ∀ z, s.SetpointInRange z

/-- The accounting lies in its domains (R126). -/
def Accounting.InRange (a : Accounting) : Prop :=
  a.accumulator ≤ 65535 ∧ 240 ≤ a.interval ∧ a.interval ≤ 1440 ∧ a.age ≤ 4294967295

/-! ## Counts -/

/-- Every count of the records lies in the range its rule gives (R2, R56, R82, R108, R150). -/
structure State.CountsInRange (s : State) : Prop where
  debounce : ∀ c, (s.channels.get c).debounce ≤ 2
  pathFaults : ∀ p, (s.arb.paths.get p).count ≤ 3
  misses : s.link.miss ≤ 4
  goods : s.link.good ≤ 2
  faultList : s.flt.times.length ≤ 3
  stalls : s.flt.stall ≤ 9
  spinUps : ∀ f, (s.act.fans.get f).spinUp ≤ 5
  lows : ∀ f, (s.act.fans.get f).low ≤ 10
  readings : ∀ f, (s.act.fans.get f).good ≤ 300
  frames : s.ports.txS.length ≤ 4

/-- A channel that has never been good holds no temperature (R2, R9). -/
def State.UnseededEmpty (s : State) : Prop :=
  ∀ c, (s.channels.get c).state = .unseeded → (s.channels.get c).temperature = none

/-! ## Steps of a program -/

/-- A command ends step j of program i, n seconds into it, with a cause (R139, R140): a TIME step at its duration, an EVAP step at its
timeout, or an EVAP step at a report of the program's evaporator channel whose current or held temperature meets its condition. -/
def State.EndsStep (s : State) (i j n : Nat) (c : Instr) (cause : EndCause) : Prop :=
  (s.mgr.state = .running ∨ s.mgr.state = .exiting) ∧ s.mgr.program = some i ∧ s.mgr.step = some j ∧ s.mgr.stepTimer = some n
    ∧ ((cause = .time ∧ c = .stepDurationExpiry ∧ (s.tables.step j).endKind = .time ∧ (s.tables.step j).duration ≤ n)
      ∨ (cause = .timeout ∧ c = .stepTimeoutExpiry ∧ (s.tables.step j).endKind ≠ .time ∧ (s.tables.step j).timeout ≤ n)
      ∨ (cause = .condition ∧ s.store.imageLoaded = true ∧ s.store.settingsLoaded = true
          ∧ ∃ (code : BitVec 12) (t : Int),
              let ch : Channel := if (s.tables.program i).path = .upper then .ch4 else .ch5
              let before := s.channels.get ch
              c = .sampleCompletion ch code
                ∧ (makeReport ch code.toNat before (sampleRecord s.tables.conv code.toNat before)).trusted = some t
                ∧ (((s.tables.step j).endKind = .evapAbove ∧ (s.tables.step j).threshold < t)
                  ∨ ((s.tables.step j).endKind = .evapBelow ∧ t < (s.tables.step j).threshold))))

/-! ## Requests -/

/-- The ending takes frame f on port p and leaves the ports' receive states as in q, the frame's command is c, and steps 1 to 7
of R154 pass. -/
def Admitted (s : State) (e : Ending) (c : Command) (p : Port) (f : Frame) (q : Ports) : Prop :=
  s.ports.taken s.clock e = some { port := p, frame := f, ports := q } ∧ s.refusal p f = none ∧ f.command = some c

/-- The zones' door views agree with the doors: a zone's door hold timer is present exactly while one of its doors is open
(R16, R54). -/
def State.DoorViewsAgree (s : State) : Prop :=
  ∀ z, (s.zones.get z).doorHold.isSome = z.doors.any fun d => (s.doors.get d).isOpen

/-- The response record that stands on a port. -/
def State.answer (s : State) (p : Port) : Response := s.ports.responses.get p

end Sys2Proof.Machine

namespace Sys2Proof

open Sys2Proof.Machine

/-- The row a request constructor stands for: its ending and the frames it takes. -/
def Instr.row : Instr → Option (Ending × (Frame → Bool))
  | .unknownCommand e => some (e, fun f => f.command.isNone)
  | .identify e => some (e, fun f => f.names .identify)
  | .getZone e => some (e, fun f => f.names .getZone)
  | .getSystem e => some (e, fun f => f.names .getSystem)
  | .readEvents e => some (e, fun f => f.names .readEvents)
  | .ackEvents e => some (e, fun f => f.names .ackEvents)
  | .setEventMask e => some (e, fun f => f.names .setEventMask)
  | .setSetpoint e => some (e, fun f => f.names .setSetpoint)
  | .setMode e => some (e, fun f => f.names .setMode)
  | .startBoost e => some (e, fun f => f.names .startBoost)
  | .cancelBoost e => some (e, fun f => f.names .cancelBoost)
  | .limitPower e => some (e, fun f => f.names .limitPower)
  | .deferDefrost e => some (e, fun f => f.names .deferDefrost)
  | .runProgram e => some (e, fun f => f.names .runProgram)
  | .abortProgram e => some (e, fun f => f.names .abortProgram)
  | .setPanelMap e => some (e, fun f => f.names .setPanelMap)
  | .coolingRestart e => some (e, fun f => f.names .restart && !f.fullRestart)
  | .fullRestart e => some (e, Frame.fullRestart)
  | .readTable e => some (e, fun f => f.names .readTable)
  | .writeTableConversion e => some (e, fun f => f.writes .conversion)
  | .writeTablePreset e => some (e, fun f => f.writes .preset)
  | .writeTableLadder e => some (e, fun f => f.writes .ladder)
  | .writeTableStep e => some (e, fun f => f.writes .step)
  | .writeTableProgram e => some (e, fun f => f.writes .program)
  | .writeTableGlobal e => some (e, Frame.writesGlobal)
  | .saveTables e => some (e, fun f => f.names .saveTables)
  | .serviceHoldOn e => some (e, fun f => f.names .serviceHold && decide (f.arg 0 = 1))
  | .serviceHoldOff e => some (e, fun f => f.names .serviceHold && !decide (f.arg 0 = 1))
  | .forceOutput e => some (e, fun f => f.names .forceOutput)
  | _ => none

/-- Device reset in either form. -/
def Instr.resets : Instr → Bool
  | .deviceReset _ => true
  | .fullRestart _ => true
  | _ => false

end Sys2Proof
end

