-- ==== Sys2Proof/Certificates/Slice0/Obligations.lean ====
section
/-!
DEFINITION. The statements for the provers: what a step does, what every command leaves behind and where it completes, what no
command touches, the invariants every step keeps, and the encodings that read back what was written. OBLIGATIONS.json lists them.
A result is written as an equation of states, so everything it does not name is unchanged; where the actuator block follows at the
end of an event, the result stands under State.settle, whose own effect is OutputsFollowTheirRules; where the defrost manager may react to
a hand-over of the cycle state first, it stands under State.finish, whose own effect is DueProgramsWaitForTheirPath.
-/
open Sys2Proof Sys2Proof.Machine

/-! ## The step -/

/-- A step takes the command at the front of the queue and runs it on the queue's rest. -/
def Obligations.FrontCommandRuns : Prop :=
  ∀ (c : Instr) (s : State) (rest : List Instr),
    step { s with pending := c :: rest } = exec c { s with pending := rest }

/-- On an empty queue 10 ms pass, and each of the part's own events that is then due is queued exactly once (log entries 1
and 2: the model's choice).

What 10 ms count, and what a whole second of now counts (R47, R48, R82, R110, R112, R116, R126, R128, R139; log entry 9); the status of a
page in progress is read each 10 ms (R172; log entry 37: the model's pace).

A damper that moves goes one step in 10 ms toward the target it had, one that homes counts one of its 440 steps, and each then takes the
target the state as it stands gives it (R114, R115; TimersAndLimitsEndAndDampersMove says what taking a target does).

In a whole second the heater on-times count while the output stays on, and an alarm timer counts in a PENDING state that is
neither paused nor suspended (R31, R32, R118, R119). -/
def Obligations.EmptyQueueCountsTime : Prop :=
  (∀ s : State, s.pending = [] →
      ∃ t, step s = .next t ∧ t.clock = s.clock + 1 ∧ t.pending.Perm (ownEvents.filter t.due) ∧ t.Settled)
    ∧ (∀ s : State, s.pending = [] →
        ∃ t, step s = .next t
          ∧ (∀ d, t.doors.get d =
              { s.doors.get d with run := (s.doors.get d).run.map (· + 1), openAge := (s.doors.get d).openAge.map (· + 1) })
          ∧ t.link = { s.link with window := s.link.window.map (· + 1) }
          ∧ (∀ p d n, s.act.valve = .moving p d n → n < d → t.act.valve = .moving p d (n + 1))
          ∧ (∀ d, t.act.dampers.get d = (s.act.dampers.get d).tick.aim (if s.damperOpen d then 400 else 0))
          ∧ (∀ d n, (s.act.dampers.get d).motion = .moving → (s.act.dampers.get d).position = some n →
              n ≠ (s.act.dampers.get d).target →
              (t.act.dampers.get d).position = some (if n < (s.act.dampers.get d).target then n + 1 else n - 1))
          ∧ (∀ d, (s.act.dampers.get d).motion = .homing →
              (t.act.dampers.get d).position = (s.act.dampers.get d).position
                ∧ ((s.act.dampers.get d).homed < 440 → (t.act.dampers.get d).homed = (s.act.dampers.get d).homed + 1))
          ∧ (∀ d, (s.act.dampers.get d).motion = .idle → (t.act.dampers.get d).position = (s.act.dampers.get d).position)
          ∧ (∀ z, (t.zones.get z).doorHold = (s.zones.get z).doorHold.map (· + 1))
          ∧ ((s.clock + 1) % 100 ≠ 0 → t.cyc = s.cyc ∧ t.mgr = s.mgr ∧ t.acct = s.acct ∧ t.arb = s.arb)
          ∧ ((s.clock + 1) % 100 = 0 →
              t.acct = { s.acct with age := min 4294967295 (s.acct.age + 1) }
                ∧ t.cyc = { s.cyc with
                    startWindow := s.cyc.startWindow.map fun n => min 30 (n + 1),
                    startHold := s.cyc.startHold.map fun n => min 60 (n + 1),
                    transferTimer := s.cyc.transferTimer.map fun n => min 20 (n + 1),
                    stopTimer := s.cyc.stopTimer.map fun n => min 10 (n + 1),
                    turnTimer := s.cyc.turnTimer.map (· + 1), onTimer := s.cyc.onTimer.map (· + 1),
                    sinceUpdate := s.cyc.sinceUpdate + 1 }
                ∧ t.mgr = { s.mgr with stepTimer := s.mgr.stepTimer.map (· + 1) }
                ∧ (∀ p, t.arb.paths.get p = { s.arb.paths.get p with timer := (s.arb.paths.get p).timer.map (· - 1) })
                ∧ t.act.retry = s.act.retry.map (· - 1) ∧ t.act.runOn = s.act.runOn.map (· - 1)
                ∧ t.act.afterRun = s.act.afterRun.map (· + 1)
                ∧ t.act.flexHeater.rest = s.act.flexHeater.rest.map (· - 1)
                ∧ t.store.quiet = s.store.quiet.map (· - 1)
                ∧ t.store.settingsRetry = s.store.settingsRetry.map (· - 1)
                ∧ t.store.tablesRetry = s.store.tablesRetry.map (· - 1))
          ∧ t.store = { s.store with
              quiet := t.store.quiet, settingsRetry := t.store.settingsRetry, tablesRetry := t.store.tablesRetry,
              job := s.store.job.map fun j => { j with busy := j.busy + 1 },
              sent := if s.store.job.isSome then [spiStatusRead] else s.store.sent }
          ∧ t.channels = s.channels ∧ t.window = s.window ∧ t.cap = s.cap ∧ t.flt = s.flt ∧ t.ports = s.ports
          ∧ t.panel = s.panel ∧ t.events = s.events ∧ t.tables = s.tables ∧ t.ready = s.ready)
    ∧ (∀ s : State, s.pending = [] → (s.clock + 1) % 100 = 0 →
        ∃ t, step s = .next t
          ∧ (s.act.lowerHeater.output = true → t.act.lowerHeater.output = true →
              t.act.lowerHeater.onTime = s.act.lowerHeater.onTime + 1)
          ∧ (t.act.lowerHeater.output = false → t.act.lowerHeater.onTime = 0)
          ∧ (s.act.flexHeater.output = true → t.act.flexHeater.output = true →
              t.act.flexHeater.onTime = s.act.flexHeater.onTime + 1)
          ∧ (t.act.flexHeater.output = false → t.act.flexHeater.onTime = 0)
          ∧ (∀ z, (t.zones.get z).alarm = (s.zones.get z).alarm)
          ∧ (∀ z, (s.zones.get z).alarm = .pendingWarm → (s.zones.get z).alarmPaused = false →
              (s.window = .closed ∨ z = .fresh) → (s.zones.get z).alarmTimer < (s.ladderOf z).delay →
              (t.zones.get z).alarmTimer = (s.zones.get z).alarmTimer + 1)
          ∧ (∀ z, (s.zones.get z).alarm = .pendingCold → (s.zones.get z).alarmPaused = false →
              (s.zones.get z).alarmTimer < (s.ladderOf z).delay →
              (t.zones.get z).alarmTimer = (s.zones.get z).alarmTimer + 1)
          ∧ (∀ z, (s.zones.get z).alarmPaused = true → (t.zones.get z).alarmTimer = (s.zones.get z).alarmTimer))

/-- What each output follows, and what holds it off (R109 to R112, R114, R117, R119), and what recomputing the outputs leaves alone. The
outputs are recomputed at the end of an event (log entry 18: the model's choice).

While a program runs, the actuators of its path follow the current step, the heater in TRANSFER too (R109, R111, R117, R139).

A fan whose duty falls to 0 loses its spin-up count, low count and good timer; a change to another duty above 0 restarts the spin-up
count alone; a duty that stands leaves the fan's record as it is (R108). -/
def Obligations.OutputsFollowTheirRules : Prop :=
  (∀ s : State,
      let t := s.settle
      let free (p : Path) : Prop := ∀ g, s.runningProgram = some g → g.path ≠ p
      t = { s with act := t.act }
        ∧ t.act = { s.act with
            fans := t.act.fans, dampers := t.act.dampers, lowerHeater := t.act.lowerHeater, flexHeater := t.act.flexHeater }
        ∧ (s.act.forced = none → s.cyc.state = .running → s.cyc.path = some .upper → free .upper →
            s.arb.paths.upper.fault = .none → s.doors.leftFresh.stopping = false → s.doors.rightFresh.stopping = false →
            t.act.fans.upper.duty = 70)
        ∧ (s.act.forced = none → s.act.afterRun.isSome = true → s.cyc.state ≠ .transfer → free .upper →
            s.arb.paths.upper.fault = .none → t.act.fans.upper.duty = 70)
        ∧ (s.act.forced = none → s.cyc.state ≠ .running ∨ s.cyc.path ≠ some .upper ∨ s.doors.leftFresh.stopping = true
            ∨ s.doors.rightFresh.stopping = true → s.act.afterRun = none → free .upper → t.act.fans.upper.duty = 0)
        ∧ (s.act.forced = none → s.cyc.state = .transfer ∨ s.arb.paths.upper.fault ≠ .none → t.act.fans.upper.duty = 0)
        ∧ (s.act.forced = none → s.cyc.state = .running → s.cyc.path = some .lower → free .lower →
            s.arb.paths.lower.fault = .none → s.doors.freezerDrawer.stopping = false → s.act.fanDelay ≠ .active →
            t.act.fans.lower.duty = 80)
        ∧ (s.act.forced = none → s.cyc.state = .transfer ∨ s.arb.paths.lower.fault ≠ .none
            ∨ s.doors.freezerDrawer.stopping = true → t.act.fans.lower.duty = 0)
        ∧ (s.act.forced = none → s.cyc.state ≠ .running ∨ s.cyc.path ≠ some .lower ∨ s.act.fanDelay = .active → free .lower →
            t.act.fans.lower.duty = 0)
        ∧ (s.act.forced = none → free .lower → t.act.lowerHeater.requested = false)
        ∧ (s.act.forced = none →
            t.act.fans.condenser.duty = if s.cyc.state ≠ .off ∨ s.act.runOn.isSome = true then 100 else 0)
        ∧ (∀ g, s.act.forced = some g →
            t.act.fans.upper.duty = g.fans.upper ∧ t.act.fans.lower.duty = g.fans.lower
              ∧ t.act.fans.condenser.duty
                  = max g.fans.condenser (if s.cyc.state ≠ .off ∨ s.act.runOn.isSome = true then 100 else 0)
              ∧ (∀ d, (t.act.dampers.get d).target = if g.dampers.get d then 400 else 0)
              ∧ t.act.lowerHeater.requested = g.lowerHeater ∧ t.act.flexHeater.requested = g.flexHeater)
        ∧ (s.act.forced = none →
            t.act.dampers.flexLower.target
                = (if s.arb.serves .flex = true ∧ s.arb.turnPath = some .lower ∧ s.doors.flexDrawer.stopping = false then 400
                   else 0)
              ∧ t.act.dampers.flexUpper.target
                = (if s.arb.serves .flex = true ∧ s.arb.turnPath = some .upper ∧ s.doors.flexDrawer.stopping = false then 400
                   else 0)
              ∧ t.act.dampers.ice.target
                = (if s.arb.serves .ice = true ∧ s.doors.leftFresh.stopping = false then 400 else 0)
              ∧ t.act.flexHeater.requested = (s.zones.flex.heat && !s.doors.flexDrawer.isOpen))
        ∧ (t.act.lowerHeater.output = true ↔
            t.act.lowerHeater.requested = true ∧ s.interlocked = false ∧ s.act.lowerHeater.limited = false)
        ∧ (t.act.flexHeater.output = true ↔ t.act.flexHeater.requested = true ∧ s.act.flexHeater.rest = none)
        ∧ (s.interlocked = true ↔ s.cyc.state ≠ .off ∧ s.act.valve ≠ .standing .upper)
        ∧ ∀ f, let r := s.act.fans.get f
            let u := t.act.fans.get f
            (u.duty = r.duty → u = r)
              ∧ (u.duty = 0 → r.duty ≠ 0 → u = { r with duty := 0, spinUp := 0, low := 0, good := 0 })
              ∧ (u.duty ≠ 0 → u.duty ≠ r.duty → u = { r with duty := u.duty, spinUp := 0 }))
    ∧ (∀ (s : State) (g : Program) (st : Step), s.act.forced = none → s.runningProgram = some g → s.runningStep = some st →
        let t := s.settle
        (g.path = .upper → s.arb.paths.upper.fault = .none → s.cyc.state ≠ .transfer →
            t.act.fans.upper.duty = if st.upperFan = true ∧ s.freshStopping = false then 70 else 0)
          ∧ (g.path = .lower → s.arb.paths.lower.fault = .none → s.cyc.state ≠ .transfer →
              t.act.fans.lower.duty = if st.lowerFan = true ∧ s.doors.freezerDrawer.stopping = false then 80 else 0)
          ∧ t.act.lowerHeater.requested = (decide (g.path = .lower) && st.heater))

/-! ## Reset and start-up -/

/-- What reset leaves (R2, R15, R45, R48, R56, R60, R80, R82, R106, R125, R126, R150, R163, R167).

A device reset returns every record to its reset value, reads each door afresh and starts the door hold timers of the zones
whose door is found open (R16, R45, R48, R170); a full restart that is admitted is a device reset with the pins as they stand,
and answers nothing (R159). -/
def Obligations.ResetValues : Prop :=
  (
    let s := State.reset
    s.clock = 0 ∧ s.pending = [] ∧ s.ready = false
      ∧ (∀ c, s.channels.get c
          = { state := .unseeded, lastCode := none, temperature := none, faultKind := .none, debounce := 0 })
      ∧ (∀ z, (s.zones.get z).estimate = none ∧ (s.zones.get z).seeded = false ∧ (s.zones.get z).band = none
          ∧ (s.zones.get z).demand = .idle ∧ (s.zones.get z).heat = false ∧ (s.zones.get z).alarm = .none
          ∧ (s.zones.get z).alarmTimer = 0 ∧ (s.zones.get z).boost = none ∧ (s.zones.get z).fallbackStart = none)
      ∧ s.window = .closed ∧ s.arb.queue = [] ∧ s.arb.served = [] ∧ s.arb.turnPath = none ∧ s.arb.holdover = false
      ∧ s.arb.yieldDue = false ∧ s.arb.compressorHold = false
      ∧ (∀ p, (s.arb.paths.get p).state = .available ∧ (s.arb.paths.get p).count = 0 ∧ (s.arb.paths.get p).timer = none)
      ∧ s.cyc.state = .off ∧ s.cyc.path = none ∧ s.cyc.phase = none ∧ s.cyc.runFlag = false ∧ s.cyc.speed = 0
      ∧ s.cyc.target = none ∧ s.cyc.turnTimer = none ∧ s.cyc.onTimer = none ∧ s.cyc.stopTimer = none
      ∧ s.cyc.lastStop = 0 ∧ s.cyc.stopCommandedSince = 0 ∧ s.cap.power = none ∧ s.cap.condenser = false
      ∧ s.link.state = .unknown ∧ s.link.miss = 0 ∧ s.link.good = 0 ∧ s.link.lastStatus = none
      ∧ s.flt.times = [] ∧ s.flt.waitEnd = none ∧ s.flt.lockout = none ∧ s.flt.last = none ∧ s.flt.runaway = false
      ∧ s.flt.stall = 0
      ∧ (∀ f, (s.act.fans.get f).duty = 0 ∧ (s.act.fans.get f).spinUp = 0 ∧ (s.act.fans.get f).low = 0
          ∧ (s.act.fans.get f).good = 0)
      ∧ s.act.condenserFault = .none ∧ s.act.afterRun = none ∧ s.act.fanDelay = .disarmed
      ∧ (∀ d, (s.act.dampers.get d).motion = .homing ∧ (s.act.dampers.get d).position = none
          ∧ (s.act.dampers.get d).target = 0)
      ∧ s.act.valve = .moving .upper 200 0
      ∧ s.act.lowerHeater = { requested := false, output := false, onTime := 0, limited := false }
      ∧ s.act.flexHeater = { requested := false, output := false, onTime := 0, rest := none }
      ∧ s.act.forced = none ∧ s.act.lastValidS = 0
      ∧ s.mgr.state = .idle ∧ s.mgr.program = none ∧ s.mgr.deferralEnd = none ∧ s.mgr.lastOutcome = none
      ∧ s.acct = { accumulator := 0, interval := 480, age := 0 }
      ∧ s.ports.rxA = .idle ∧ s.ports.rxB = .idle ∧ s.ports.rxS = .hunt ∧ s.ports.txS = []
      ∧ (∀ p, s.answer p = { status := .none, echo := 0, data := [] })
      ∧ (∀ p, s.events.get p = { set := 0, mask := 0xFFFF })
      ∧ s.store.dirty = false ∧ s.store.quiet = none ∧ s.store.job = none ∧ s.store.lastFailure = none ∧ s.store.sent = [])
    ∧ ((∀ (raw : DoorLevels) (s : State),
        ∃ t, exec (.deviceReset raw) s = .next t
          ∧ t = { State.reset with pending := s.pending, free := s.free, doors := t.doors, zones := t.zones }
          ∧ t.doors.leftFresh.raw = raw.leftFresh ∧ t.doors.rightFresh.raw = raw.rightFresh
          ∧ t.doors.flexDrawer.raw = raw.flexDrawer ∧ t.doors.freezerDrawer.raw = raw.freezerDrawer
          ∧ (∀ d, (t.doors.get d).openAge = (if (t.doors.get d).raw = .high then some 0 else none)
              ∧ (t.doors.get d).run = none ∧ (t.doors.get d).longReported = false ∧ (t.doors.get d).lapsed = false
              ∧ (t.doors.get d).minutes = 0)
          ∧ (∀ z, t.zones.get z = { State.reset.zones.get z with
              doorHold := if z.doors.any (fun d => (t.doors.get d).isOpen) then some 0 else none }))
        ∧ ∀ (s : State) (e : Ending) (p : Port) (f : Frame) (q : Ports), Admitted s e .restart p f q → f.arg 0 = 2 →
            exec (.fullRestart e) s = exec (.deviceReset s.rawLevels) s
              ∧ ∃ t, exec (.fullRestart e) s = .next t ∧ t.ready = false ∧ t.ports.txS = []
                  ∧ ∀ x, t.answer x = { status := .none, echo := 0, data := [] })

/-- The image load: an accepted image becomes the working tables, any other leaves the built-in ones with LOAD_IMAGE and
STORE; and what makes an image acceptable (R168).

The settings load hands a loaded record to its owners, and leaves them at their no-record values otherwise (R126, R156, R169): a zone
takes its usable stored choice, else its factory preset where that contains the zone, else the lowest preset that does (R18, R45).

READY rises when both loads have ended and every air channel has completed a sample, and the first due test is made (R129,
R170). -/
def Obligations.LoadsConfigureThePart : Prop :=
  (∀ (s : State) (header body : List Byte), s.store.imageLoaded = false →
      (∀ v t, acceptImage header body = some (v, t) ↔
        word16At header 0 = 0xE41C ∧ byteAt header 2 = 1 ∧ v = word16At header 3 ∧ word16At header 5 = 845
          ∧ word16At header 7 = (crc16 (areaAt body 0 845)).toNat ∧ readBody body = some t ∧ t.convValid = true
          ∧ t.zonesServed = true ∧ t.chainsValid = true ∧ t.autoValid = true ∧ t.ambientGain ≤ 40 ∧ t.doorWeight ≤ 15)
      ∧ (∀ v t, acceptImage header body = some (v, t) →
          exec (.imageLoadComplete header body) s = .next (State.settle { s with
            tables := t,
            store := { s.store with
              imageLoaded := true, imageState := .accepted, imageVersion := v, sent := [spiRead 0x0000, spiRead 0x0020] } }))
      ∧ (acceptImage header body = none →
          exec (.imageLoadComplete header body) s = .next (State.settle { s with
            tables := builtInTables,
            store := { s.store with
              imageLoaded := true, imageState := .builtIn, imageVersion := 0, lastFailure := some .loadImage,
              sent := [spiRead 0x0000, spiRead 0x0020] },
            events := s.events.map (·.add .store) })))
    ∧ (∀ (s : State) (record : List Byte), s.store.imageLoaded = true → s.store.settingsLoaded = false →
        ∃ t, exec (.settingsLoadComplete record) s = .next t
          ∧ (∀ x, Settings.read record = some x →
              t = State.settle { s with
                  zones := t.zones, panel := x.panel,
                  acct := { x.accounting with interval := max 240 (min 1440 x.accounting.interval) },
                  store := { s.store with
                    settingsLoaded := true, settingsState := .loaded,
                    stored := some (x.accounting.accumulator, x.accounting.age), sent := [spiRead 0x1800] } }
                ∧ (∀ z, (x.zones.get z).1 < 16 → (s.tables.preset (x.zones.get z).1).mask.get z = true →
                    (t.zones.get z).preset = (x.zones.get z).1
                      ∧ (t.zones.get z).setpoint =
                          clampInt (s.tables.preset (x.zones.get z).1).minSetpoint (s.tables.preset (x.zones.get z).1).maxSetpoint
                            (x.zones.get z).2)
                ∧ (∀ z, ¬ ((x.zones.get z).1 < 16 ∧ (s.tables.preset (x.zones.get z).1).mask.get z = true) →
                    (t.zones.get z).preset = s.tables.defaultPreset z
                      ∧ (t.zones.get z).setpoint = (s.tables.preset (s.tables.defaultPreset z)).defaultSetpoint))
          ∧ (Settings.read record = none →
              t = State.settle { s with
                  zones := t.zones,
                  store := { s.store with
                    settingsLoaded := true, settingsState := .defaults, stored := none, lastFailure := some .loadSettings,
                    sent := [spiRead 0x1800] },
                  events := s.events.map (·.add .store) }
                ∧ (∀ z, (t.zones.get z).preset = s.tables.defaultPreset z
                    ∧ (t.zones.get z).setpoint = (s.tables.preset (s.tables.defaultPreset z)).defaultSetpoint))
          ∧ (∀ z, t.zones.get z = { s.zones.get z with
                preset := (t.zones.get z).preset, setpoint := (t.zones.get z).setpoint,
                mode := if (s.tables.preset (t.zones.get z).preset).disabled then .disabled else .normal })
          ∧ (∀ z, (s.tables.preset (factoryPreset z)).mask.get z = true → s.tables.defaultPreset z = factoryPreset z)
          ∧ (∀ z i, (s.tables.preset (factoryPreset z)).mask.get z = false → i < 16 → (s.tables.preset i).mask.get z = true →
              (∀ k, k < i → (s.tables.preset k).mask.get z = false) → s.tables.defaultPreset z = i)
          ∧ factoryPreset .fresh = 0 ∧ factoryPreset .flex = 4 ∧ factoryPreset .freezer = 6 ∧ factoryPreset .ice = 7)
    ∧ (∀ s : State, s.ready = false → s.store.imageLoaded = true → s.store.settingsLoaded = true →
        (∀ z : Zone, (s.channels.get z.channel).lastCode.isSome = true) →
        ∃ t, exec .ready s = .next t ∧ t.ready = true
          ∧ (¬ (s.mgr.state = .idle ∧ s.act.forced = none ∧ (s.acct.interval ≤ s.acct.accumulator ∨ 259200 ≤ s.acct.age)) →
              t = State.settle { s with ready := true })
          ∧ (s.mgr.state = .idle → s.act.forced = none → (s.acct.interval ≤ s.acct.accumulator ∨ 259200 ≤ s.acct.age) →
              t.mgr.program = some s.tables.autoProgram ∧ t.mgr.kind = some .automatic
                ∧ (t.mgr.state = .due ∨ t.mgr.state = .running)))

/-! ## Sensors -/

/-- R8: an in-range sample at a channel in UNSEEDED or OK is accepted as good; its report names the channel, OK, the current
temperature, and UNSEEDED where the channel leaves it (R12). -/
def Obligations.GoodSampleIsAccepted : Prop :=
  ∀ (s : State) (ch : Channel) (code : BitVec 12), s.store.imageLoaded = true → s.store.settingsLoaded = true →
    (s.channels.get ch).state ≠ .fault → 16 ≤ code.toNat → code.toNat ≤ 4079 →
    let temperature := convert s.tables.conv code.toNat
    let u : State := { s with
      channels := s.channels.set ch { s.channels.get ch with
        state := .ok, lastCode := some code.toNat, temperature := some temperature, debounce := 0 } }
    ∃ t, exec (.sampleCompletion ch code) s = .next t
      ∧ exec (.sampleCompletion ch code) s
          = s.finish (u.takeReport
              { channel := ch, state := .ok, temperature := some (temperature, .current),
                changedFrom := if (s.channels.get ch).state = .unseeded then some .unseeded else none })
      ∧ t.channels = u.channels
      ∧ ∀ p, holdsKind (t.events.get p).set .sensor = holdsKind (s.events.get p).set .sensor

/-- R9: out-of-range samples at a channel in UNSEEDED or OK are debounced, and the third in a row enters FAULT, whose report names
the state the channel was in (R12). -/
def Obligations.OutOfRangeIsDebounced : Prop :=
  ∀ (s : State) (ch : Channel) (code : BitVec 12), s.store.imageLoaded = true → s.store.settingsLoaded = true →
    (s.channels.get ch).state ≠ .fault → code.toNat ≤ 15 ∨ 4080 ≤ code.toNat → s.UnseededEmpty →
    let r := s.channels.get ch
    ∃ t, exec (.sampleCompletion ch code) s = .next t
      ∧ (r.debounce ≤ 1 →
          let u : State := { s with
            channels := s.channels.set ch { r with lastCode := some code.toNat, debounce := r.debounce + 1 } }
          exec (.sampleCompletion ch code) s
              = s.finish (u.takeReport
                  { channel := ch, state := r.state,
                    temperature := if r.state = .ok then r.temperature.map (·, .held) else none, changedFrom := none })
            ∧ t.channels = u.channels
            ∧ ∀ p, holdsKind (t.events.get p).set .sensor = holdsKind (s.events.get p).set .sensor)
      ∧ (r.debounce = 2 →
          let u : State := { s with
            channels := s.channels.set ch { r with
              state := .fault, lastCode := some code.toNat, debounce := 0,
              faultKind := if code.toNat ≤ 15 then .short else .openLead },
            events := s.events.map (·.add .sensor) }
          exec (.sampleCompletion ch code) s
              = s.finish (u.takeReport
                  { channel := ch, state := .fault, temperature := r.temperature.map (·, .stale),
                    changedFrom := some r.state })
            ∧ t.channels = u.channels
            ∧ ∀ p, holdsKind (t.events.get p).set .sensor = true)

/-- R10: three in-range samples in a row return a channel in FAULT to OK, whose report names FAULT as the state before (R12); an
out-of-range sample begins the count again. -/
def Obligations.FaultRecovers : Prop :=
  ∀ (s : State) (ch : Channel) (code : BitVec 12), s.store.imageLoaded = true → s.store.settingsLoaded = true →
    (s.channels.get ch).state = .fault →
    let r := s.channels.get ch
    let stale : Report :=
      { channel := ch, state := .fault, temperature := r.temperature.map (·, .stale), changedFrom := none }
    let temperature := convert s.tables.conv code.toNat
    ∃ t, exec (.sampleCompletion ch code) s = .next t
      ∧ (16 ≤ code.toNat → code.toNat ≤ 4079 → r.debounce ≤ 1 →
          let u : State := { s with
            channels := s.channels.set ch { r with lastCode := some code.toNat, debounce := r.debounce + 1 } }
          exec (.sampleCompletion ch code) s = s.finish (u.takeReport stale) ∧ t.channels = u.channels)
      ∧ (16 ≤ code.toNat → code.toNat ≤ 4079 → r.debounce = 2 →
          let u : State := { s with
            channels := s.channels.set ch { r with
              state := .ok, lastCode := some code.toNat, temperature := some temperature, faultKind := .none,
              debounce := 0 },
            events := s.events.map (·.add .sensor) }
          exec (.sampleCompletion ch code) s
              = s.finish (u.takeReport
                  { channel := ch, state := .ok, temperature := some (temperature, .current), changedFrom := some .fault })
            ∧ t.channels = u.channels ∧ ∀ p, holdsKind (t.events.get p).set .sensor = true)
      ∧ (code.toNat ≤ 15 ∨ 4080 ≤ code.toNat →
          let u : State := { s with
            channels := s.channels.set ch { r with
              lastCode := some code.toNat, debounce := 0,
              faultKind := if code.toNat ≤ 15 then .short else .openLead } }
          exec (.sampleCompletion ch code) s = s.finish (u.takeReport stale) ∧ t.channels = u.channels)

/-- Conversion (R4): the segment of the code, the quotient rounded toward minus infinity, the clamp; a good table never converts a
higher code to a higher temperature (R5). -/
def Obligations.ConversionFollowsTheTable : Prop :=
  (∀ (t : List Int) (code : Nat),
    convert t code = max (-500) (min 700
      (t.getD (code / 256) 0
        + ((t.getD (code / 256 + 1) 0 - t.getD (code / 256) 0) * ((code % 256 : Nat) : Int)).fdiv 256)))
    ∧ (∀ (t : Tables) (a b : Nat), t.convValid = true → t.conv.length = 17 → a ≤ b → b ≤ 4079 →
        convert t.conv b ≤ convert t.conv a)

/-! ## Zones -/

/-- A sample of an air channel evaluates its zone with the tables as they stand, raises what the channel and the evaluation
raise, hands the arbiter the change of demand, or of the path set of a zone that stays CALLING, and touches no other zone and no
other block's settings (R12, R19, R22, R24, R28). What the arbiter does with it is JoinsLeavesAndLevels. -/
def Obligations.SampleEvaluatesItsZone : Prop :=
  ∀ (s : State) (z : Zone) (code : BitVec 12), s.store.imageLoaded = true → s.store.settingsLoaded = true →
    let before := s.channels.get z.channel
    let after := sampleRecord s.tables.conv code.toNat before
    let x : Evaluation :=
      { zone := z, preset := s.tablePreset z, ladder := s.tables.ladder (s.tablePreset z).ladder, now := s.now,
        suspended := decide (s.window ≠ .closed) && decide (z ≠ .fresh),
        report := makeReport z.channel code.toNat before after }
    let ran := x.run { s.zones.get z with kept := none }
    let evaluated : State := State.raiseAll
      { s with channels := s.channels.set z.channel after, zones := s.zones.set z ran.1 } (sensorEvents before after ++ ran.2)
    exec (.sampleCompletion z.channel code) s
        = s.finish (evaluated.demandEvaluated z (s.zones.get z).demand ran.1.demand (s.tablePreset z).pathSet)
      ∧ ∃ t, exec (.sampleCompletion z.channel code) s = .next t
        ∧ t.channels = s.channels.set z.channel after
        ∧ t.zones = s.zones.set z ran.1
        ∧ (∀ p k, k ∈ ran.2 → holdsKind (t.events.get p).set k = true)
        ∧ ((s.zones.get z).demand = .idle → ran.1.demand = .idle → t.arb = s.arb ∧ t.cyc = s.cyc)
        ∧ t.doors = s.doors ∧ t.tables = s.tables ∧ t.panel = s.panel ∧ t.ports = s.ports ∧ t.cap = s.cap
        ∧ t.link = s.link ∧ t.acct = s.acct ∧ t.store = s.store ∧ t.ready = s.ready ∧ t.clock = s.clock
        ∧ t.pending = s.pending

/-- The estimate moves on current temperatures only (R25): seeding, the filter step toward a sample, the door hold. -/
def Obligations.EstimateMoves : Prop :=
  ∀ (x : Evaluation) (z : ZoneRecord), x.report.enteredFault = false →
    let w := (x.run z).1
    (∀ t, x.report.temperature = some (t, .current) → z.seeded = false → w.estimate = some (16 * t) ∧ w.seeded = true)
      ∧ (∀ t e, x.report.temperature = some (t, .current) → z.seeded = true → z.estimate = some e →
          z.doorHeld x.preset = false →
          w.estimate = some (e + (16 * t - e).tdiv (2 ^ x.preset.shift)) ∧ w.seeded = true
            ∧ (x.preset.shift = 0 → w.estimate = some (16 * t)))
      ∧ (∀ t e, x.report.temperature = some (t, .current) → z.seeded = true → z.estimate = some e →
          z.doorHeld x.preset = true → w.estimate = some e)
      ∧ ((∀ t, x.report.temperature ≠ some (t, .current)) → w.estimate = z.estimate ∧ w.seeded = z.seeded)
      ∧ (z.doorHeld x.preset = true ↔ ∃ a, z.doorHold = some a ∧ a / 100 < x.preset.doorHold)

/-- In NORMAL mode the band is the number of separators at or below the reported temperature, its attributes set demand and heat,
and a boost calls at level 3 (R26, R27, R29, R40). -/
def Obligations.NormalEvaluationFollowsTheBand : Prop :=
  ∀ (x : Evaluation) (z : ZoneRecord), x.preset.disabled = false → x.report.state ≠ .fault →
    let w := (x.run z).1
    w.mode = .normal ∧ w.fallbackStart = none
      ∧ (w.estimate = none → w.band = none ∧ w.heat = false ∧ w.demand = if z.boost.isSome then .calling .three else .idle)
      ∧ (∀ e, w.estimate = some e →
          let reported := (e + 8).fdiv 16
          let k := (x.ladder.offsets.filter fun o => z.setpoint + o ≤ reported).length
          let b := x.ladder.band k
          let early := z.boost.isSome && decide (reported ≤ z.setpoint - (x.preset.boostDepth : Int))
          w.band = some k
            ∧ w.boost = (if early then none else z.boost)
            ∧ (early = true → EventKind.boostEnd ∈ (x.run z).2)
            ∧ (w.boost.isSome = true → w.demand = .calling .three)
            ∧ (w.boost = none → b.demand = .none → w.demand = .idle)
            ∧ (w.boost = none → b.demand = .call → w.demand = .calling .one)
            ∧ (w.boost = none → b.demand = .urgent → w.demand = .calling .two)
            ∧ (w.boost = none → b.demand = .hold → w.demand = if early then .calling .one else z.demand)
            ∧ (w.heat = true ↔ x.zone = .flex ∧ x.preset.heaterEnable = true ∧ w.demand = .idle
                ∧ (b.heat = .on ∨ (b.heat = .hold ∧ z.heat = true))))
      ∧ w.preset = z.preset ∧ w.setpoint = z.setpoint ∧ w.doorHold = z.doorHold

/-- The alarm of a zone in NORMAL mode with a band, by the band's attribute (R30, R31), with warm alarms suspended in the defrost
window (R32); ZONE_ALARM is raised at each promotion to WARM or COLD and each change out of them. That in the window the attribute NONE
keeps WARM and PENDING_WARM, and COLD does not, is the model's reading (log entry 12). -/
def Obligations.AlarmFollowsTheBand : Prop :=
  ∀ (x : Evaluation) (z : ZoneRecord) (k : Nat), x.preset.disabled = false → x.report.state ≠ .fault →
    let w := (x.run z).1
    w.band = some k →
    let a := (x.ladder.band k).alarm
    let d := x.ladder.delay
    (a = .none → x.suspended = false → w.alarm = .none ∧ w.alarmTimer = 0)
      ∧ (a = .warm → x.suspended = false → z.alarm = .none ∨ z.alarm = .pendingCold ∨ z.alarm = .cold →
          w.alarm = (if d = 0 then .warm else .pendingWarm) ∧ w.alarmTimer = 0)
      ∧ (a = .warm → x.suspended = false → z.alarm = .pendingWarm → z.alarmTimer < d →
          w.alarm = .pendingWarm ∧ w.alarmTimer = z.alarmTimer)
      ∧ (a = .warm → x.suspended = false → z.alarm = .pendingWarm → d ≤ z.alarmTimer → w.alarm = .warm ∧ w.alarmTimer = 0)
      ∧ (a = .warm → z.alarm = .warm → w.alarm = .warm)
      ∧ (a = .cold → z.alarm = .none ∨ z.alarm = .pendingWarm ∨ z.alarm = .warm →
          w.alarm = (if d = 0 then .cold else .pendingCold) ∧ w.alarmTimer = 0)
      ∧ (a = .cold → z.alarm = .pendingCold → z.alarmTimer < d → w.alarm = .pendingCold ∧ w.alarmTimer = z.alarmTimer)
      ∧ (a = .cold → z.alarm = .pendingCold → d ≤ z.alarmTimer → w.alarm = .cold ∧ w.alarmTimer = 0)
      ∧ (a = .cold → z.alarm = .cold → w.alarm = .cold)
      ∧ (a = .warm → x.suspended = true → z.alarm = .none ∨ z.alarm = .pendingCold ∨ z.alarm = .cold →
          w.alarm = .none ∧ w.alarmTimer = 0)
      ∧ (a = .none → x.suspended = true → z.alarm = .pendingWarm → w.alarm = .pendingWarm ∧ w.alarmTimer = z.alarmTimer)
      ∧ (a = .none → x.suspended = true → z.alarm = .warm → w.alarm = .warm)
      ∧ (a = .none → z.alarm = .none ∨ z.alarm = .pendingCold ∨ z.alarm = .cold → w.alarm = .none ∧ w.alarmTimer = 0)
      ∧ (a = .warm → x.suspended = true → z.alarm = .pendingWarm →
          w.alarm = .pendingWarm ∧ w.alarmTimer = z.alarmTimer)
      ∧ (EventKind.zoneAlarm ∈ (x.run z).2 ↔
          z.alarm ≠ w.alarm ∧ (z.alarm = .warm ∨ z.alarm = .cold ∨ w.alarm = .warm ∨ w.alarm = .cold))

/-- FALLBACK keeps the hour's duty, DISABLED stands still (R24, R33, R34, R36). -/
def Obligations.FallbackAndDisabledModes : Prop :=
  ∀ (x : Evaluation) (z : ZoneRecord),
    let w := (x.run z).1
    (x.preset.disabled = true →
        w.mode = .disabled ∧ w.demand = .idle ∧ w.heat = false ∧ w.alarm = .none ∧ w.alarmTimer = 0 ∧ w.boost = none
          ∧ w.band = none ∧ w.fallbackStart = none ∧ EventKind.boostEnd ∉ (x.run z).2)
      ∧ (x.preset.disabled = false → x.report.state = .fault →
          let start := if z.mode = .fallback then z.fallbackStart.getD x.now else x.now
          w.mode = .fallback ∧ w.fallbackStart = some start ∧ w.band = none ∧ w.heat = false ∧ w.alarm = .none
            ∧ w.alarmTimer = 0 ∧ w.boost = z.boost
            ∧ (z.boost.isSome = true → w.demand = .calling .three)
            ∧ (z.boost = none → (x.now - start) % 3600 < 60 * x.preset.fallbackOn → w.demand = .calling .one)
            ∧ (z.boost = none → 60 * x.preset.fallbackOn ≤ (x.now - start) % 3600 → w.demand = .idle))
      ∧ (x.report.enteredFault = true → (∀ t, x.report.temperature ≠ some (t, .current)) → w.seeded = false)
      ∧ (x.preset.disabled = true ∨ x.report.state = .fault →
          (EventKind.zoneAlarm ∈ (x.run z).2 ↔ z.alarm = .warm ∨ z.alarm = .cold))

/-- START_BOOST creates or merges a boost, calls at level 3 and hands the arbiter the change (R28, R37, R38); CANCEL_BOOST is taken
from the recorded port or a lower level, and removes the boost with BOOST_END as its expiry does (R39, R40). The boost maximum is
that of the entry the zone goes on using after a preset write (log entry 14).

A boost's expiry removes it with BOOST_END, sets the demand as the mode and the band have it without a boost, then the heat (R29), and
hands the arbiter the change (R28, R34, R40).

A zone byte of 4 or more, which only Port S and Port A bring past step 7 of R154, is refused with BAD_ARGUMENT. -/
def Obligations.BoostsStartEndAndAreCancelled : Prop :=
  (∀ (s : State) (e : Ending) (p : Port) (f : Frame) (q : Ports) (z : Zone), f.zone = some z →
      let r := s.zones.get z
      (Admitted s e .startBoost p f q →
          (r.mode = .disabled →
              exec (.startBoost e) s = .next (State.settle (State.respond { s with ports := q } p
                { status := .badArgument, echo := 0x13, data := [] })))
            ∧ (r.mode ≠ .disabled →
                let m := max 1 (min (s.presetOf z).boostMax (f.arg16 1))
                let expiry := match r.boost with
                  | none => s.now + 60 * m
                  | some b => max b.expiry (s.now + 60 * m)
                let called : State := { s with
                  ports := q,
                  zones := s.zones.set z { r with
                    boost := some { expiry := expiry, port := p }, demand := .calling .three, heat := false } }
                1 ≤ (s.presetOf z).boostMax →
                exec (.startBoost e) s
                    = s.finish (State.respond
                        (called.demandChanged z r.demand (.calling .three) (s.presetOf z).pathSet) p
                        { status := if m = f.arg16 1 then .ok else .okClamped, echo := 0x13,
                          data := be32 (expiry - s.now) })
                  ∧ ∃ t, exec (.startBoost e) s = .next t
                    ∧ t.answer p = { status := if m = f.arg16 1 then .ok else .okClamped, echo := 0x13,
                                     data := be32 (expiry - s.now) }
                    ∧ t.zones = called.zones
                    ∧ (r.demand = .calling .three → t.arb = s.arb ∧ t.cyc = s.cyc)
                    ∧ t.channels = s.channels ∧ t.doors = s.doors ∧ t.tables = s.tables ∧ t.store = s.store))
        ∧ (Admitted s e .cancelBoost p f q →
            (r.boost = none →
                exec (.cancelBoost e) s = .next (State.settle (State.respond { s with ports := q } p
                  { status := .notRunning, echo := 0x14, data := [] })))
              ∧ (∀ b, r.boost = some b → p ≠ b.port → b.port.level ≤ p.level →
                  exec (.cancelBoost e) s = .next (State.settle (State.respond { s with ports := q } p
                    { status := .denied, echo := 0x14, data := [] })))
              ∧ (∀ b, r.boost = some b → p = b.port ∨ p.level < b.port.level →
                  ∃ t, exec (.cancelBoost e) s = .next t
                    ∧ exec (.cancelBoost e) s
                        = s.finish (State.respond
                            (State.demandChanged
                              { s with ports := q, zones := t.zones, events := s.events.map (·.add .boostEnd) } z
                              r.demand (s.demandAfterBoost z) (s.presetOf z).pathSet) p
                            { status := .ok, echo := 0x14, data := [] })
                    ∧ t.answer p = { status := .ok, echo := 0x14, data := [] }
                    ∧ (t.zones.get z).demand = s.demandAfterBoost z
                    ∧ t.zones = s.zones.set z { r with
                        boost := none, demand := (t.zones.get z).demand, heat := (t.zones.get z).heat }
                    ∧ (r.band = none → (t.zones.get z).heat = false)
                    ∧ (∀ k, r.band = some k →
                        let b := (s.ladderOf z).band k
                        ((t.zones.get z).heat = true ↔ z = .flex ∧ r.mode = .normal ∧ (s.presetOf z).heaterEnable = true
                          ∧ s.demandAfterBoost z = .idle ∧ (b.heat = .on ∨ (b.heat = .hold ∧ r.heat = true))))
                    ∧ (∀ x, holdsKind (t.events.get x).set .boostEnd = true)
                    ∧ t.channels = s.channels ∧ t.doors = s.doors ∧ t.tables = s.tables ∧ t.store = s.store)))
    ∧ (∀ (s : State) (z : Zone) (b : Boost), (s.zones.get z).boost = some b → b.expiry ≤ s.now →
        ∃ t, exec (.boostExpiry z) s = .next t
          ∧ exec (.boostExpiry z) s
              = s.finish (State.demandChanged { s with zones := t.zones, events := s.events.map (·.add .boostEnd) } z
                  (s.zones.get z).demand (s.demandAfterBoost z) (s.presetOf z).pathSet)
          ∧ (t.zones.get z).demand = s.demandAfterBoost z
          ∧ (t.zones.get z).boost = none
          ∧ (∀ p, holdsKind (t.events.get p).set .boostEnd = true)
          ∧ t.zones = s.zones.set z { s.zones.get z with
              boost := none, demand := (t.zones.get z).demand, heat := (t.zones.get z).heat }
          ∧ ((s.zones.get z).band = none → (t.zones.get z).heat = false)
          ∧ (∀ k, (s.zones.get z).band = some k →
              let b := (s.ladderOf z).band k
              ((t.zones.get z).heat = true ↔ z = .flex ∧ (s.zones.get z).mode = .normal ∧ (s.presetOf z).heaterEnable = true
                ∧ s.demandAfterBoost z = .idle ∧ (b.heat = .on ∨ (b.heat = .hold ∧ (s.zones.get z).heat = true))))
          ∧ t.channels = s.channels ∧ t.doors = s.doors ∧ t.tables = s.tables ∧ t.ports = s.ports ∧ t.store = s.store
          ∧ t.acct = s.acct)
    ∧ (∀ (s : State) (z : Zone),
        let r := s.zones.get z
        (r.mode = .normal → r.band = none → s.demandAfterBoost z = .idle)
          ∧ (∀ k, r.mode = .normal → r.band = some k →
              let a := ((s.ladderOf z).band k).demand
              s.demandAfterBoost z = if a = .none then .idle else if a = .urgent then .calling .two else .calling .one)
          ∧ (∀ start, r.mode = .fallback → r.fallbackStart = some start →
              s.demandAfterBoost z
                = if (s.now - start) % 3600 < 60 * (s.presetOf z).fallbackOn then .calling .one else .idle))
    ∧ (∀ (s : State) (e : Ending) (p : Port) (f : Frame) (q : Ports), 4 ≤ f.arg 0 →
        (Admitted s e .startBoost p f q →
            exec (.startBoost e) s = .next (State.settle (State.respond { s with ports := q } p
              { status := .badArgument, echo := 0x13, data := [] })))
          ∧ (Admitted s e .cancelBoost p f q →
              exec (.cancelBoost e) s = .next (State.settle (State.respond { s with ports := q } p
                { status := .badArgument, echo := 0x14, data := [] }))))

/-! ## Doors -/

/-- A raw edge begins or ends a debounce run; a run of 50 ms turns the door (R16, R47, R49, R50, R54, R110). -/
def Obligations.DoorsDebounceAndTurn : Prop :=
  (∀ (s : State) (d : Door) (level : PinLevel), level ≠ (s.doors.get d).raw →
      exec (.doorEdge d level) s = .next (State.settle { s with
        doors := s.doors.set d { s.doors.get d with
          raw := level,
          run := if level = (if (s.doors.get d).openAge.isSome then .high else .low) then none else some 0 } }))
    ∧ ∀ (s : State) (d : Door) (n : Nat), (s.doors.get d).run = some n → 5 ≤ n → s.DoorViewsAgree →
        ∃ t, exec (.doorTransition d) s = .next t
          ∧ t.doors = s.doors.set d { s.doors.get d with
              run := none, openAge := if (s.doors.get d).openAge.isSome then none else some 0, longReported := false,
              lapsed := false, minutes := 0 }
          ∧ (∀ z, d ∉ z.doors → t.zones.get z = s.zones.get z)
          ∧ (∀ z, d ∈ z.doors → (s.doors.get d).openAge = none →
              t.zones.get z = { s.zones.get z with doorHold := some ((s.zones.get z).doorHold.getD 0) })
          ∧ (∀ z, d ∈ z.doors → (s.doors.get d).openAge.isSome = true →
              t.zones.get z = { s.zones.get z with
                doorHold := if z.doors.any (fun e => decide (e ≠ d) && (s.doors.get e).openAge.isSome)
                  then (s.zones.get z).doorHold else none })
          ∧ ((s.doors.get d).openAge = none → d = .leftFresh ∨ d = .rightFresh → t.act.afterRun = none)
          ∧ t = { s with doors := t.doors, zones := t.zones, act := t.act } ∧ t.DoorViewsAgree

/-- DOOR_LONG at 120 s and the lapse at 600 s of one opening, each once (R51, R52).

A door minute credits the door weight and a LOWER run minute credits 1, both saturating; a credit that makes a defrost due
brings the manager to DUE, or at once to RUNNING, for the auto-defrost program (R53, R85, R127, R129), from READY on (R148, R170; log
entry 35). -/
def Obligations.OpeningsReportLapseAndCredit : Prop :=
  ((∀ (s : State) (d : Door) (n : Nat), (s.doors.get d).openAge = some n → 120 ≤ n / 100 →
        (s.doors.get d).longReported = false →
        exec (.doorLong d) s = .next (State.settle { s with
          doors := s.doors.set d { s.doors.get d with longReported := true }, events := s.events.map (·.add .doorLong) }))
      ∧ (∀ (s : State) (d : Door) (n : Nat), (s.doors.get d).openAge = some n → 600 ≤ n / 100 →
          (s.doors.get d).lapsed = false →
          exec (.lapse d) s = .next (State.settle { s with
            doors := s.doors.set d { s.doors.get d with lapsed := true } }))
      ∧ ∀ (s : State) (d : Door), ((s.doors.get d).longReported = true ∨ (s.doors.get d).openAge = none →
            exec (.doorLong d) s = .next s)
          ∧ ((s.doors.get d).lapsed = true ∨ (s.doors.get d).openAge = none → exec (.lapse d) s = .next s))
    ∧ (∀ (s : State) (c : Instr) (weight : Nat) (u : State),
        ((∃ d n, c = .doorMinute d ∧ (d = .flexDrawer ∨ d = .freezerDrawer) ∧ (s.doors.get d).openAge = some n
              ∧ 60 * ((s.doors.get d).minutes + 1) ≤ n / 100 ∧ weight = s.tables.doorWeight
              ∧ u = { s with doors := s.doors.set d { s.doors.get d with minutes := (s.doors.get d).minutes + 1 } })
          ∨ (∃ n, c = .lowerRunMinute ∧ s.cyc.state = .running ∧ s.cyc.path = some .lower ∧ s.cyc.turnTimer = some n
              ∧ 60 * (s.cyc.runMinutes + 1) ≤ n ∧ weight = 1
              ∧ u = { s with cyc := { s.cyc with runMinutes := s.cyc.runMinutes + 1 } })) →
        let a : Accounting := { s.acct with accumulator := min 65535 (s.acct.accumulator + weight) }
        let due := s.ready = true ∧ s.mgr.state = .idle ∧ s.act.forced = none ∧ (a.interval ≤ a.accumulator ∨ 259200 ≤ a.age)
        ∃ t, exec c s = .next t ∧ t.acct = a ∧ t.doors = u.doors
          ∧ (¬ due → t = State.settle { u with acct := a })
          ∧ (due → t.mgr.program = some s.tables.autoProgram ∧ t.mgr.kind = some .automatic
              ∧ (t.mgr.state = .due ∨ t.mgr.state = .running)))

/-! ## The arbiter and the cycle controller -/

/-- A change of a zone's demand in the arbiter: a join rides along on a current turn its path set contains, ending a holdover, and
else goes to the back of the queue before the arbiter's checks (R61, R70); a leave removes the entry, and the last served entry that
leaves RUNNING without holdover brings the decision of R69 (R62); a level update changes the entry in place (R63); at an evaluation a
changed path set is a leave and then a join (R19). -/
def Obligations.JoinsLeavesAndLevels : Prop :=
  ∀ (s : State) (z : Zone) (ps : PathSet) (level : CallLevel),
    let e : Entry := { zone := z, pathSet := ps, level := level, time := s.now }
    let others (l : List Entry) : List Entry := l.filter fun x => decide (x.zone ≠ z)
    let left : State := { s with arb := { s.arb with queue := others s.arb.queue, served := others s.arb.served } }
    let lastLeaves := (∃ x ∈ s.arb.served, x.zone = z) ∧ others s.arb.served = [] ∧ s.cyc.state = .running
      ∧ s.arb.holdover = false ∧ s.arb.turnPath ≠ none
    let all := s.arb.queue ++ s.arb.served
    (∀ p, s.arb.turnPath = some p → ps.contains p = true → s.act.forced = none →
        s.demandChanged z .idle (.calling level) ps
          = { s with arb := { s.arb with served := s.arb.served ++ [e], holdover := false } })
      ∧ ((∀ p, s.arb.turnPath = some p → ps.contains p = false) ∨ s.act.forced ≠ none →
          s.demandChanged z .idle (.calling level) ps
            = State.arbiterCheck { s with arb := { s.arb with queue := s.arb.queue ++ [e] } })
      ∧ (lastLeaves → s.demandChanged z (.calling level) .idle ps = left.servedEmptied)
      ∧ (¬ lastLeaves → s.demandChanged z (.calling level) .idle ps = left)
      ∧ (∀ old, old ≠ level →
          let renewed (l : List Entry) : List Entry := l.map fun x => if x.zone = z then { x with level := level } else x
          s.demandChanged z (.calling old) (.calling level) ps
            = { s with arb := { s.arb with queue := renewed s.arb.queue, served := renewed s.arb.served } })
      ∧ s.demandChanged z (.calling level) (.calling level) ps = s ∧ s.demandChanged z .idle .idle ps = s
      ∧ (∀ before after, before = .idle ∨ after = .idle ∨ (∀ x ∈ all, x.zone = z → x.pathSet = ps) →
          s.demandEvaluated z before after ps = s.demandChanged z before after ps)
      ∧ (∀ old, (∃ x ∈ all, x.zone = z) → (∀ x ∈ all, x.zone = z → x.pathSet ≠ ps) →
          s.demandEvaluated z (.calling old) (.calling level) ps
            = (s.demandChanged z (.calling old) .idle ps).demandChanged z .idle (.calling level) ps)
      ∧ s.arbiterCheck = (if s.cyc.state = .off then s.startCheck else s.candidateCheck)

/-- The oldest candidate is the first queue entry with a usable path that is not the current turn path; its eligible path is
chosen, and with both eligible the valve's position (R56, R64, R65).

The current turn path is given up at a release (R74), at a fault of its own (R75) and, in TRANSFER, at a fault of the target,
which turns the transfer back (R72): the served entries go to the front, and the turn transfers toward a candidate in RUNNING or
TRANSFER, or stops. A release of another path changes nothing; a fault of another path changes its record alone.

A path record after an evaporator fan fault: FAULTED with 900 s at the first and second count, LOCKED at the third, and a locked
path stays so (R57). -/
def Obligations.CandidatesAreSelectedAndTurnsGivenUp : Prop :=
  (∀ (a : Arbiter) (v : Valve),
      (∀ e, a.oldestCandidate = some e ↔ ∃ before after, a.queue = before ++ e :: after
          ∧ (∃ p, e.pathSet.contains p = true ∧ (a.paths.get p).state = .available ∧ a.turnPath ≠ some p)
          ∧ ∀ x ∈ before, ∀ p, x.pathSet.contains p = true → (a.paths.get p).state = .available → a.turnPath = some p)
        ∧ (∀ e, a.isCandidate e = true →
            e.pathSet.contains (a.choosePath v e) = true ∧ (a.paths.get (a.choosePath v e)).state = .available
              ∧ a.turnPath ≠ some (a.choosePath v e)
              ∧ (a.eligible e .upper = true → a.eligible e .lower = true → a.choosePath v e = v.heading))
        ∧ (∀ p now, a.select p now = { a with
            served := a.served ++ (a.queue.filter fun e => e.pathSet.contains p).map fun e => { e with time := now },
            queue := a.queue.filter fun e => !e.pathSet.contains p })
        ∧ (∀ p, (a.paths.get p).state = .available ↔ (a.paths.get p).blocked = false ∧ (a.paths.get p).fault = .none))
    ∧ (∀ (s given : State) (p : Path) (paths : PerPath PathRecord),
        (given = s.release p ∧ paths = s.arb.paths)
          ∨ (given = s.pathFault p ∧ paths = s.arb.paths.set p (s.arb.paths.get p).faulted) →
        let front : Arbiter := { s.arb with
          paths := paths, queue := s.arb.served.map (fun e => { e with time := s.now }) ++ s.arb.queue, served := [] }
        let moved : State := { s with arb := front }
        (s.arb.turnPath = some p →
            (∀ e, s.cyc.state = .running ∨ s.cyc.state = .transfer → front.oldestCandidate = some e →
                given = moved.handTransfer p.other ∧ given.cyc.state = .transfer ∧ given.cyc.path = some p.other
                  ∧ given.cyc.runFlag = s.cyc.runFlag ∧ given.cyc.transferTimer = some 0
                  ∧ given.arb = { front.select p.other s.now with
                      turnPath := some p.other, holdover := false, yieldDue := false })
              ∧ (s.cyc.state = .running ∨ s.cyc.state = .transfer → front.oldestCandidate = none →
                  given = moved.handStop ∧ given.cyc.state = .stopping
                    ∧ given.arb = { front with turnPath := none, holdover := false, yieldDue := false })
              ∧ (s.cyc.state = .starting →
                  given = moved.handStop ∧ given.cyc.state = .stopping
                    ∧ given.arb = { front with turnPath := none, holdover := false, yieldDue := false }))
          ∧ (s.arb.turnPath ≠ some p → given = { s with arb := { s.arb with paths := paths } }))
    ∧ (∀ r : PathRecord,
        (r.fault ≠ .locked → r.count ≤ 1 →
            r.faulted = { r with fault := .faulted, count := r.count + 1, timer := some 900 })
          ∧ (r.fault ≠ .locked → 2 ≤ r.count → r.faulted = { r with fault := .locked, count := 3, timer := none })
          ∧ (r.fault = .locked → r.faulted = { r with count := 3 }))

/-- An emptied served set: a transfer toward a candidate's path, else holdover while the minimum on time is not over, else a stop
(R69), made too where RUNNING is reported with the served set empty (R68, R71). A candidate that appears ends a holdover by a
transfer (R70) and is yielded to while yield due is set (R73). And what a transfer and a stop are (R71, R86, R88, R101, R110, R111). -/
def Obligations.EmptiedTurnsTransferHoldOverOrStop : Prop :=
  ∀ s : State,
    let onUpper := s.cyc.state = .running ∧ s.cyc.path = some .upper
    let onLower := s.cyc.state = .running ∧ s.cyc.path = some .lower
    let fansAfter : Actuators := { s.act with
      afterRun :=
        if onUpper ∧ s.doors.leftFresh.stopping = false ∧ s.doors.rightFresh.stopping = false ∧ s.act.forced = none then some 0
        else s.act.afterRun,
      fanDelay := if onLower ∧ s.act.fanDelay = .active then .disarmed else s.act.fanDelay }
    (∀ e, s.arb.oldestCandidate = some e → s.servedEmptied = s.handTransfer (s.arb.choosePath s.act.valve e))
      ∧ (∀ n, s.arb.oldestCandidate = none → s.cyc.onTimer = some n →
          s.servedEmptied
            = if n < 120 ∨ (n = 120 ∧ s.cyc.minOnReported = false) then { s with arb := { s.arb with holdover := true } }
              else s.handStop)
      ∧ s.reportRunning = (if s.arb.turnPath ≠ none ∧ s.arb.served = [] then s.servedEmptied else s)
      ∧ (∀ e, s.cyc.state = .running → s.arb.turnPath ≠ none → s.arb.oldestCandidate = some e →
          let q := s.arb.choosePath s.act.valve e
          let yielded : State := { s with arb := { s.arb with
            queue := s.arb.queue ++ s.arb.served.map fun x => { x with time := s.now }, served := [] } }
          s.candidateCheck
            = if s.arb.holdover then s.handTransfer q else if s.arb.yieldDue then yielded.handTransfer q else s)
      ∧ (s.cyc.state ≠ .running ∨ s.arb.turnPath = none ∨ s.arb.oldestCandidate = none → s.candidateCheck = s)
      ∧ (∀ q, s.handTransfer q = { s with
          arb := { s.arb.select q s.now with turnPath := some q, holdover := false, yieldDue := false },
          cyc := { s.cyc with
            state := .transfer, path := some q, transferTimer := some 0, turnTimer := none, startHold := none,
            target := none, speed := s.cap.bound 1800, sinceUpdate := 0, turnMaxReported := false, runMinutes := 0 },
          act := { fansAfter with valve := s.act.valve.request q } })
      ∧ s.handStop = State.stopOrder { s with
          arb := { s.arb with turnPath := none, holdover := false, yieldDue := false } }
      ∧ (s.cyc.state = .off ∨ s.cyc.state = .stopping → s.stopOrder = s)
      ∧ (s.cyc.state ≠ .off → s.cyc.state ≠ .stopping →
          s.stopOrder = { s with
            cyc := { CycleRecord.initial with
              state := .stopping, stopTimer := some 0, lastStop := s.cyc.lastStop,
              stopCommandedSince := if s.cyc.runFlag then s.now else s.cyc.stopCommandedSince },
            act := fansAfter, flt := { s.flt with stall := 0 } })
      ∧ (∀ a : Actuators, a.onRunning (some .upper) = { a with afterRun := none }
          ∧ a.onRunning (some .lower) = { a with fanDelay := if a.fanDelay = .armed then .active else a.fanDelay })

/-- The start check makes a start exactly where every condition of R66 holds: the compressor OFF, no bar (R89), no service hold, no
compressor hold, a candidate. The start runs selection with no turn current and enters the VALVE phase, or the RUN phase where the
valve stands at the path already (R83, R84).

The events that make the start check (R67): the ends of the bars (R89), a link restoration (R100), the end of a path's fault timer
(R57), an unblock and the end of the compressor hold (R58, R78), the report of OFF (R88) and the end of service hold, whose order with
the manager's due test is free (R77, R123; log entry 17). A join makes it too: JoinsLeavesAndLevels.

At the end of a bar to a start (R66, R67, R89): with a candidate and no other bar the start is made on the chosen path, through
the VALVE phase where the valve does not stand there (R83, R84); without a candidate nothing changes. -/
def Obligations.BarEndMakesTheStart : Prop :=
  (∀ s : State,
      let may := s.cyc.state = .off ∧ s.cyc.lastStop + 180 ≤ s.now ∧ s.link.state = .up ∧ s.flt.waitEnd.getD 0 ≤ s.now
        ∧ s.flt.lockout = none ∧ s.act.forced = none ∧ s.arb.compressorHold = false
      let fresh : Arbiter := { s.arb with turnPath := none, holdover := false, yieldDue := false }
      (¬ may ∨ fresh.oldestCandidate = none → s.startCheck = s)
        ∧ ∀ e, may → fresh.oldestCandidate = some e →
            let p := fresh.choosePath s.act.valve e
            let there := s.act.valve = .standing p
            s.startCheck = { s with
              arb := { fresh.select p s.now with turnPath := some p },
              cyc := { CycleRecord.initial with
                state := .starting, path := some p, lastStop := s.cyc.lastStop,
                stopCommandedSince := s.cyc.stopCommandedSince, phase := some (if there then .run else .valve),
                runFlag := decide there, speed := if there then s.cap.bound 2000 else 0 },
              act := { s.act with valve := s.act.valve.request p, runOn := none },
              flt := { s.flt with runaway := s.flt.runaway && !decide there } })
    ∧ (∀ s : State,
        let freed (u : State) : State := { u with
          act := { u.act with forced := none, lowerHeater := { u.act.lowerHeater with limited := false } } }
        let ended (u : State) : State :=
          State.afterHold (if u.cyc.state = .starting ∨ u.cyc.state = .running then (freed u).stopOrder else freed u)
        let counted : State := { s with free := s.free + 1 }
        (s.clock % 100 = 0 → s.now = s.cyc.lastStop + 180 → exec .minimumOffTimeOver s = s.finish s.startCheck)
          ∧ (s.clock % 100 = 0 → s.flt.waitEnd = some s.now → exec .faultWaitEnd s = s.finish s.startCheck)
          ∧ (∀ (l : List Byte) (n : Nat) (r : DriveReply), s.link.window = some n → readDriveStatus l = some r →
              s.link.state ≠ .up → s.link.good = 2 → s.cyc.state = .off → r.state = .stopped →
              (s.link.reply r).state = .up
                ∧ exec (.driveStatus l) s = s.finish (State.startCheck
                    { s with link := s.link.reply r, flt := { s.flt with runaway := false, stall := 0 } }))
          ∧ (∀ p, (s.arb.paths.get p).timer = some 0 →
              exec (.faultTimerExpiry p) s = s.finish (State.arbiterCheck { s with
                arb := { s.arb with paths := s.arb.paths.set p { s.arb.paths.get p with fault := .none, timer := none } } }))
          ∧ (∀ p, s.unblock p = State.arbiterCheck { s with
              arb := { s.arb with paths := s.arb.paths.set p { s.arb.paths.get p with blocked := false } } })
          ∧ s.endCompressorHold = State.startCheck { s with arb := { s.arb with compressorHold := false } }
          ∧ s.reportOff = State.startCheck { s with
              arb := { s.arb with turnPath := none, holdover := false, yieldDue := false } }
          ∧ (∀ n, s.cyc.state = .stopping → s.cyc.stopTimer = some n → 10 ≤ n →
              exec .stopTimerExpiry s = s.finish (State.reportOff { s with
                cyc := { CycleRecord.initial with lastStop := s.now, stopCommandedSince := s.cyc.stopCommandedSince },
                act := { s.act with runOn := some 60 }, flt := { s.flt with stall := 0 } }))
          ∧ (s.act.forced ≠ none → s.act.lastValidS + 600 ≤ s.now →
              exec .holdTimeout s = s.finish ((ended s).raise .serviceHoldEnd))
          ∧ (∀ (e : Ending) (p : Port) (f : Frame) (q : Ports), Admitted s e .serviceHold p f q → f.arg 0 = 0 →
              s.act.forced ≠ none →
              exec (.serviceHoldOff e) s
                = s.finish (State.respond (ended { s with ports := q }) p { status := .ok, echo := 0x32, data := [] }))
          ∧ (s.afterHold = counted.startCheck.dueTest ∨ s.afterHold = counted.dueTest.startCheck))
    ∧ (∀ (s : State) (c : Instr), c = .minimumOffTimeOver ∧ s.now = s.cyc.lastStop + 180 ∨ c = .faultWaitEnd ∧ s.flt.waitEnd = some s.now →
        s.clock % 100 = 0 → s.cyc.state = .off → s.cyc.lastStop + 180 ≤ s.now → s.link.state = .up →
        s.flt.waitEnd.getD 0 ≤ s.now → s.flt.lockout = none → s.act.forced = none → s.arb.compressorHold = false →
        s.mgr.state ≠ .due →
        (∀ e, s.arb.noTurn.oldestCandidate = some e →
            let p := s.arb.noTurn.choosePath s.act.valve e
            ∃ t, exec c s = .next t
              ∧ t.arb = { s.arb.noTurn.select p s.now with turnPath := some p }
              ∧ t.cyc = { CycleRecord.initial with
                  state := .starting, path := some p, lastStop := s.cyc.lastStop,
                  stopCommandedSince := s.cyc.stopCommandedSince,
                  phase := some (if s.act.valve = .standing p then .run else .valve),
                  runFlag := decide (s.act.valve = .standing p),
                  speed := if s.act.valve = .standing p then s.cap.bound 2000 else 0 }
              ∧ t.act.valve = s.act.valve.request p ∧ t.act.runOn = none
              ∧ t = { s with arb := t.arb, cyc := t.cyc, act := t.act,
                             flt := { s.flt with runaway := s.flt.runaway && decide (s.act.valve ≠ .standing p) } })
          ∧ (s.arb.noTurn.oldestCandidate = none → exec c s = .next s.settle))

/-- The turn maximum (R73, R85): with a candidate the served entries go to the back of the queue and the turn transfers toward the
other path; without one the turn goes on with yield due set. -/
def Obligations.TurnMaximumYields : Prop :=
  ∀ (s : State) (p : Path) (n : Nat), s.cyc.state = .running → s.cyc.path = some p → s.arb.turnPath = some p →
    s.cyc.turnTimer = some n → (if p = .upper then 1800 else 2700) ≤ n → s.cyc.turnMaxReported = false →
    exec .turnMaximum s = s.finish (State.candidateCheck { s with
        cyc := { s.cyc with turnMaxReported := true }, arb := { s.arb with yieldDue := true } })
      ∧ (s.arb.holdover = false → s.arb.oldestCandidate = none →
          exec .turnMaximum s = .next (State.settle { s with
            cyc := { s.cyc with turnMaxReported := true }, arb := { s.arb with yieldDue := true } }))
      ∧ (∀ e, s.arb.holdover = false → s.mgr.state ≠ .due → s.arb.oldestCandidate = some e →
          let all := s.arb.queue ++ s.arb.served.map fun e => { e with time := s.now }
          ∃ t, exec .turnMaximum s = .next t
            ∧ t.arb = { s.arb with
                queue := all.filter fun e => !e.pathSet.contains p.other,
                served := (all.filter fun e => e.pathSet.contains p.other).map fun e => { e with time := s.now },
                turnPath := some p.other, holdover := false, yieldDue := false }
            ∧ t.cyc.state = .transfer ∧ t.cyc.path = some p.other ∧ t.cyc.transferTimer = some 0
            ∧ t.cyc.turnTimer = none ∧ t.cyc.onTimer = s.cyc.onTimer ∧ t.cyc.target = none ∧ t.cyc.startHold = none
            ∧ t.cyc.runFlag = s.cyc.runFlag ∧ t.cyc.speed = s.cap.bound 1800
            ∧ t.act.valve = s.act.valve.request p.other
            ∧ t = { s with arb := t.arb, cyc := t.cyc, act := t.act })

/-- The minimum on time of 120 s (R70, R85): it ends a holdover by a stop, and changes nothing else. Reached in TRANSFER, it is reported
on the return to RUNNING (log entry 36: the model's reading).

The ends of TRANSFER and STOPPING by their timers (R86, R88); with the served set empty the report of RUNNING at the end of TRANSFER
brings R69 (R71). -/
def Obligations.MinimumTransferAndStopTimersEnd : Prop :=
  (∀ (s : State) (n : Nat), s.cyc.state = .running → s.cyc.onTimer = some n → 120 ≤ n → s.cyc.minOnReported = false →
      (s.arb.holdover = false →
          exec .onTimerMinimum s = .next (State.settle { s with cyc := { s.cyc with minOnReported := true } }))
        ∧ (s.arb.holdover = true →
            exec .onTimerMinimum s = s.finish (State.handStop { s with cyc := { s.cyc with minOnReported := true } }))
        ∧ (s.arb.holdover = true → s.mgr.state ≠ .due →
            ∃ t, exec .onTimerMinimum s = .next t
              ∧ t.arb = { s.arb with turnPath := none, holdover := false, yieldDue := false }
              ∧ t.cyc = { CycleRecord.initial with
                  state := .stopping, stopTimer := some 0, lastStop := s.cyc.lastStop,
                  stopCommandedSince := if s.cyc.runFlag then s.now else s.cyc.stopCommandedSince }
              ∧ t = { s with arb := t.arb, cyc := t.cyc, act := t.act, flt := { s.flt with stall := 0 } }))
    ∧ ((∀ (s : State) (q : Path) (n : Nat), s.cyc.state = .transfer → s.cyc.path = some q → s.cyc.transferTimer = some n →
          20 ≤ n → s.act.valve = .standing q →
          let run : CycleRecord := { s.cyc with
            state := .running, transferTimer := none, turnTimer := some 0, startHold := none, target := none, sinceUpdate := 0,
            turnMaxReported := false, runMinutes := 0 }
          exec .transferTimerExpiry s
              = s.finish (State.reportRunning { s with cyc := run, act := s.act.onRunning (some q) })
            ∧ (s.arb.served ≠ [] → s.mgr.state ≠ .due →
                ∃ t, exec .transferTimerExpiry s = .next t ∧ t.cyc = run ∧ t = { s with cyc := t.cyc, act := t.act }))
        ∧ (∀ (s : State) (n : Nat), s.cyc.state = .stopping → s.cyc.stopTimer = some n → 10 ≤ n → s.mgr.state ≠ .due →
            ∃ t, exec .stopTimerExpiry s = .next t
              ∧ t.cyc = { CycleRecord.initial with lastStop := s.now, stopCommandedSince := s.cyc.stopCommandedSince }
              ∧ t.arb = { s.arb with turnPath := none, holdover := false, yieldDue := false }
              ∧ t.act.runOn = some 60
              ∧ t = { s with arb := t.arb, cyc := t.cyc, act := t.act, flt := { s.flt with stall := 0 } }))

/-- The valve takes 2 s from one position to the other, and a reversal takes the time already spent (R116).

The valve's arrival (R116): it ends the VALVE phase of a start on its path (R84), or a transfer whose 20 s are over (R86), whose
report of RUNNING brings R69 with the served set empty (R71), and otherwise, in a transfer whose 20 s are not over too, only moves the
position; a defrost due that waits for its
path makes its begin test at every arrival (R132).

A start whose window reaches 30 s has failed, and is a drive fault: OFF, the served entries first in the queue, 300 s of
waiting, the fault list and the lockout as DriveFaultRecord.enter gives them, which FaultListAndLockout states
(R76, R84, R101, R102, R103). -/
def Obligations.ValveArrivesOrTheStartFails : Prop :=
  (∀ p : Path,
      Valve.request (.standing p) p = .standing p ∧ Valve.request (.standing p.other) p = .moving p 200 0
        ∧ (∀ d n, Valve.request (.moving p d n) p = .moving p d n ∧ Valve.request (.moving p.other d n) p = .moving p n 0)
        ∧ (∀ d n, n < d → (Valve.moving p d n).tick = .moving p d (n + 1) ∧ (Valve.moving p d n).arrived = none)
        ∧ ∀ d n, d ≤ n → (Valve.moving p d n).arrived = some p)
    ∧ (∀ (s : State) (p : Path) (d n : Nat), s.act.valve = .moving p d n → d ≤ n →
        let arrived : State := { s with act := { s.act with valve := .standing p } }
        (s.cyc.state = .starting → s.cyc.phase = some .valve → s.cyc.path = some p →
            exec .valveMoveComplete s = s.finish (State.beginTest { arrived with
              cyc := { s.cyc with phase := some .run, runFlag := true, speed := s.cap.bound 2000, startWindow := none },
              flt := { s.flt with runaway := false } }))
          ∧ (∀ m, s.cyc.state = .transfer → s.cyc.path = some p → s.cyc.transferTimer = some m → 20 ≤ m →
              let run : CycleRecord := { s.cyc with
                state := .running, transferTimer := none, turnTimer := some 0, startHold := none, target := none,
                sinceUpdate := 0, turnMaxReported := false, runMinutes := 0 }
              exec .valveMoveComplete s = s.finish (State.beginTest (State.reportRunning { arrived with
                  cyc := run, act := arrived.act.onRunning (some p) }))
                ∧ (s.arb.served ≠ [] → s.mgr.state ≠ .due →
                    ∃ t, exec .valveMoveComplete s = .next t ∧ t.cyc = run
                      ∧ t.act.valve = .standing p ∧ t = { s with cyc := t.cyc, act := t.act }))
          ∧ (∀ m, s.cyc.state = .transfer → s.cyc.path = some p → s.cyc.transferTimer = some m → m < 20 →
              exec .valveMoveComplete s = s.finish arrived.beginTest
                ∧ (s.mgr.state ≠ .due → exec .valveMoveComplete s = .next arrived.settle))
          ∧ (s.cyc.path ≠ some p ∨ (s.cyc.state ≠ .starting ∧ s.cyc.state ≠ .transfer)
              ∨ (s.cyc.state = .starting ∧ s.cyc.phase ≠ some .valve) →
              exec .valveMoveComplete s = s.finish arrived.beginTest)
          ∧ (s.mgr.state ≠ .due → ∀ u : State, u.mgr = s.mgr → u.beginTest = u))
    ∧ (∀ (s : State) (n : Nat), s.cyc.state = .starting → s.cyc.startWindow = some n → 30 ≤ n →
        let failed (t : State) : Prop :=
          t.cyc = { CycleRecord.initial with lastStop := s.now, stopCommandedSince := s.now }
            ∧ t.arb = { s.arb with
                queue := s.arb.served.map (fun e => { e with time := s.now }) ++ s.arb.queue, served := [],
                turnPath := none, holdover := false, yieldDue := false }
            ∧ t.flt.times = (s.flt.enter s.now).times ∧ t.flt.lockout = (s.flt.enter s.now).lockout
            ∧ t.flt = { s.flt.enter s.now with
                waitEnd := some (s.now + 300), last := some (.startFailure, 0), stall := 0 }
            ∧ t.act.runOn = some 60 ∧ t.act.valve = s.act.valve
            ∧ (∀ p, holdsKind (t.events.get p).set .driveFault = true)
            ∧ t.events = (
                let raised := s.events.map (·.add .driveFault)
                if s.flt.lockout = none ∧ (s.flt.enter s.now).lockout.isSome = true then raised.map (·.add .driveLockout)
                else raised)
            ∧ t = { s with arb := t.arb, cyc := t.cyc, act := t.act, flt := t.flt, events := t.events }
        (∃ u, exec .startWindowExpiry s = s.finish u ∧ failed u)
          ∧ (s.mgr.state ≠ .due → ∃ t, exec .startWindowExpiry s = .next t ∧ failed t))

/-- R103: the fault list and the lockout at a drive fault at time t, what a set lockout bars, and what clears it. -/
def Obligations.FaultListAndLockout : Prop :=
  ∀ (r : DriveFaultRecord) (t : Nat),
    (r.lockout = none → r.times.length < 3 → r.enter t = { r with times := r.times ++ [t] })
      ∧ (∀ a b c, r.lockout = none → r.times = [a, b, c] → t < a + 3600 → r.enter t = { r with lockout := some t })
      ∧ (∀ a b c, r.lockout = none → r.times = [a, b, c] → a + 3600 ≤ t → r.enter t = { r with times := [b, c, t] })
      ∧ (r.lockout ≠ none → r.enter t = r)
      ∧ ∀ (s : State) (cause : DriveFaultCause) (code : Nat), s.flt = r → s.now = t →
          (s.driveFault cause code).flt.times = (r.enter t).times
            ∧ (s.driveFault cause code).flt.lockout = (r.enter t).lockout
            ∧ (r.lockout = none → (r.enter t).lockout ≠ none →
                ∀ p, holdsKind ((s.driveFault cause code).events.get p).set .driveLockout = true)
            ∧ (r.lockout ≠ none ∨ (r.enter t).lockout = none → ∀ p,
                holdsKind ((s.driveFault cause code).events.get p).set .driveLockout
                  = holdsKind (s.events.get p).set .driveLockout)
            ∧ (s.driveFault cause code).flt.waitEnd = some (t + 300) ∧ (s.driveFault cause code).flt.last = some (cause, code)
            ∧ (∀ p, holdsKind ((s.driveFault cause code).events.get p).set .driveFault = true)
            ∧ (r.lockout ≠ none → s.startBarred = true)
            ∧ s.coolingRestart.flt.times = [] ∧ s.coolingRestart.flt.lockout = none
            ∧ (∀ raw, (s.deviceReset raw).flt.times = [] ∧ (s.deviceReset raw).flt.lockout = none)
            ∧ (∀ u, r.lockout ≠ none → s.pending = [] → step s = .next u → u.flt.lockout = r.lockout)
            ∧ ∀ c u, r.lockout ≠ none → c.resets = false → (∀ e, c ≠ .coolingRestart e) → exec c s = .next u →
                u.flt.lockout = r.lockout

/-- R92: at a speed update the raw speed (R90, R91; the ambient temperature is that of CH6, current or held, and its term is 0 where CH6
is in FAULT or UNSEEDED or carries none) is clamped, bounded by the caps and truncated to a multiple of 10 rpm, and the
commanded speed moves toward that target by at most 200 rpm. -/
def Obligations.SpeedUpdateSlewsToTheTarget : Prop :=
  ∀ (s : State) (c : Instr) (n : Nat), s.cyc.state = .running →
    (c = .startHoldEnd ∧ s.cyc.startHold = some n ∧ 60 ≤ n)
      ∨ (c = .speedUpdate ∧ s.cyc.path ≠ none ∧ s.cyc.startHold = none ∧ 5 ≤ s.cyc.sinceUpdate) →
    let ambient : Int :=
      match (if s.channels.ch6.state = .ok then s.channels.ch6.temperature else none) with
      | none => 0
      | some ta => max (-400) (min 800 (((ta - 250) * (s.tables.ambientGain : Int)).tdiv 10))
    let raw : Int :=
      match s.arb.holdover, s.cyc.path with
      | false, some p =>
        (if p = .upper then 1600 else 2000)
          + (s.arb.served.map fun e => if e.level = .one then 300 else if e.level = .two then 700 else 1200).sum + ambient
      | _, _ => 1200
    let target := s.cap.bound (max 1200 (min 4500 raw)).toNat / 10 * 10
    exec c s = .next (State.settle { s with
      cyc := { s.cyc with
        target := some target, startHold := none, sinceUpdate := 0,
        speed :=
          if s.cyc.speed ≤ target then min target (s.cyc.speed + 200) else max target (s.cyc.speed - 200) } })
      ∧ ((∀ p, s.cap.power = some p → 1200 ≤ p.rpm ∧ 10 ∣ p.rpm) → s.cap.admits target)

/-- The bound of the caps is the least of a speed, the power cap and, under the condenser cap, 2400 rpm (R84, R86, R92, R93).

The power cap: LIMIT_POWER sets, replaces and cancels it, its arrival lowers the speed at once, and its expiry removes it and
leaves the speed (R93, R94, R95); a target above the bound is lowered even where the commanded speed is not (log entry 41: the model's
reading); the commanded speed of a forced run is set afresh at each of the three (R104).

The condenser cap (R93, R96, R104): becoming set it bounds the commanded speed and the target at once while the run flag is 1; cleared
it leaves them; a forced run takes its bound at once in both. -/
def Obligations.CapsBindArriveAndExpire : Prop :=
  (∀ (c : CapRecord) (v : Nat),
      c.bound v ≤ v ∧ (∀ p, c.power = some p → c.bound v ≤ p.rpm) ∧ (c.condenser = true → c.bound v ≤ 2400)
        ∧ (c.bound v = v ∨ (∃ p, c.power = some p ∧ c.bound v = p.rpm) ∨ c.condenser = true ∧ c.bound v = 2400))
    ∧ (∀ s : State,
        let forcedRun := s.cyc.runFlag = true ∧ s.cyc.path = none ∧ s.act.forced ≠ none
        let without : CapRecord := { s.cap with power := none }
        let lifted : CycleRecord := match s.act.forced with
          | some g => if s.cyc.runFlag = true ∧ s.cyc.path = none then { s.cyc with speed := without.bound g.speed / 10 * 10 } else s.cyc
          | none => s.cyc
        (∀ k : PowerCap, s.cap.power = some k → k.expiry ≤ s.now →
            exec .powerCapExpiry s = .next (State.settle { s with cap := without, cyc := lifted }))
          ∧ ∀ (e : Ending) (p : Port) (f : Frame) (q : Ports), Admitted s e .limitPower p f q →
              (f.arg16 0 = 0 →
                  exec (.limitPower e) s = .next (State.settle (State.respond
                    { s with ports := q, cap := without, cyc := lifted } p
                    { status := .ok, echo := 0x20, data := be16 0 ++ be32 0 })))
                ∧ (f.arg16 0 ≠ 0 →
                    let rpm := max 1200 (min 4500 (f.arg16 0)) / 10 * 10
                    let minutes := max 1 (min 1440 (f.arg16 2))
                    let cap : CapRecord := { s.cap with power := some { rpm := rpm, expiry := s.now + 60 * minutes } }
                    let answered (c : CycleRecord) : Host.Outcome State Fault Refusal :=
                      .next (State.settle (State.respond { s with ports := q, cap := cap, cyc := c } p
                        { status := if rpm ≠ f.arg16 0 ∨ minutes ≠ f.arg16 2 then .okClamped else .ok, echo := 0x20,
                          data := be16 rpm ++ be32 (60 * minutes) }))
                    (¬ forcedRun →
                        exec (.limitPower e) s = answered
                          (if s.cyc.runFlag then
                              { s.cyc with speed := cap.bound s.cyc.speed, target := s.cyc.target.map cap.bound }
                            else s.cyc))
                      ∧ (∀ g, forcedRun → s.act.forced = some g →
                          exec (.limitPower e) s = answered { s.cyc with speed := cap.bound g.speed / 10 * 10 })))
    ∧ (∀ s : State,
        let forcedRun := s.cyc.runFlag = true ∧ s.cyc.path = none ∧ s.act.forced ≠ none
        let on : CapRecord := { s.cap with condenser := true }
        let off : CapRecord := { s.cap with condenser := false }
        let forcedSpeed (c : CapRecord) (g : Forced) : CycleRecord := { s.cyc with speed := c.bound g.speed / 10 * 10 }
        (s.cap.condenser = true → s.setCondenserCap = s) ∧ (s.cap.condenser = false → s.clearCondenserCap = s)
          ∧ (s.cap.condenser = false → ¬ forcedRun →
              s.setCondenserCap = { s with
                cap := on,
                cyc := if s.cyc.runFlag then
                    { s.cyc with speed := on.bound s.cyc.speed, target := s.cyc.target.map on.bound }
                  else s.cyc })
          ∧ (s.cap.condenser = true → ¬ forcedRun → s.clearCondenserCap = { s with cap := off })
          ∧ (∀ g, forcedRun → s.act.forced = some g →
              (s.cap.condenser = false → s.setCondenserCap = { s with cap := on, cyc := forcedSpeed on g })
                ∧ (s.cap.condenser = true → s.clearCondenserCap = { s with cap := off, cyc := forcedSpeed off g })))

/-! ## The drive link -/

/-- The DRIVE_COMMAND frame carries the run flag and the speed in units of 10 rpm with its check byte; the first run command of a
start begins the start window, and each frame opens an answer window (R84, R97, R98).

A valid answer in its window moves the link record by the table of R99; bytes outside a window and invalid answers change
nothing (R98). That the operand is one answer, cut from the bytes of the window, is the model's choice (log entry 32).

A miss moves the link record by the table of R99; the fifth in a row is a drive loss, which takes the compressor as stopped
(R76, R99), and is handed to the defrost manager, in OFF too. -/
def Obligations.FramesRepliesAndMissesMoveTheLink : Prop :=
  (∀ s : State, s.link.sentAt < s.now →
      let inner : List Byte :=
        [if s.cyc.runFlag then 1 else 0, BitVec.ofNat 8 (s.cyc.speed / 10 / 256), BitVec.ofNat 8 (s.cyc.speed / 10)]
      exec .driveCommand s = .next (State.settle { s with
        link := { s.link with sent := 0xD1 :: inner ++ [crc8 inner], sentAt := s.now, window := some 0 },
        cyc := { s.cyc with
          startWindow :=
            if s.cyc.state = .starting ∧ s.cyc.phase = some .run ∧ s.cyc.startWindow = none then some 0
            else s.cyc.startWindow } }))
    ∧ ((∀ (s : State) (l : List Byte), s.link.window = none ∨ readDriveStatus l = none → exec (.driveStatus l) s = .next s)
        ∧ (∀ (l : List Byte) (r : DriveReply), readDriveStatus l = some r ↔
            ∃ st hi lo code : Byte, l = [0xD2, st, hi, lo, code, crc8 [st, hi, lo, code]]
              ∧ (st = 0 ∧ r.state = .stopped ∨ st = 1 ∧ r.state = .running ∨ st = 2 ∧ r.state = .fault)
              ∧ r.units = hi.toNat * 256 + lo.toNat ∧ r.units ≤ 450 ∧ r.code = code.toNat ∧ r.code ≤ 15)
        ∧ ∀ (s : State) (l : List Byte) (n : Nat) (r : DriveReply), s.link.window = some n → readDriveStatus l = some r →
            ∃ t, exec (.driveStatus l) s = .next t
              ∧ (s.link.state = .up →
                  t.link = { s.link with lastStatus := some r, window := none, miss := 0 })
              ∧ (s.link.state = .unknown → s.link.good ≤ 1 →
                  t.link = { s.link with lastStatus := some r, window := none, miss := 0, good := s.link.good + 1 })
              ∧ (s.link.state = .unknown → s.link.good = 2 →
                  t.link = { s.link with lastStatus := some r, window := none, state := .up, miss := 0, good := 0 })
              ∧ (s.link.state = .lost → s.link.good ≤ 1 →
                  t.link = { s.link with lastStatus := some r, window := none, good := s.link.good + 1 })
              ∧ (s.link.state = .lost → s.link.good = 2 →
                  t.link = { s.link with lastStatus := some r, window := none, state := .up, good := 0 })
              ∧ t.zones = s.zones ∧ t.channels = s.channels ∧ t.doors = s.doors ∧ t.cap = s.cap ∧ t.acct = s.acct
              ∧ t.ports = s.ports ∧ t.store = s.store ∧ t.tables = s.tables)
    ∧ (∀ (s : State) (n : Nat), s.link.window = some n → 10 ≤ n →
        let lost (t : State) : Prop :=
          t.link = { s.link with window := none, state := .lost, miss := 0,
                                 good := if s.link.state = .unknown then 0 else s.link.good }
            ∧ t.cyc.lastStop = s.now
            ∧ (∀ p, holdsKind (t.events.get p).set .driveLost = true)
            ∧ t.cyc.state = .off ∧ t.cyc.runFlag = (if s.cyc.state = .off then s.cyc.runFlag else false)
            ∧ (s.cyc.state = .starting ∨ s.cyc.state = .running ∨ s.cyc.state = .transfer →
                t.cyc.stopCommandedSince = s.now ∧ t.act.runOn = some 60
                  ∧ t.arb = { s.arb with
                      queue := s.arb.served.map (fun e => { e with time := s.now }) ++ s.arb.queue, served := [],
                      turnPath := none, holdover := false, yieldDue := false })
        (s.link.state = .up → s.link.miss ≤ 3 →
            exec .driveMiss s = .next (State.settle { s with
              link := { s.link with window := none, miss := s.link.miss + 1 }, flt := { s.flt with stall := 0 } }))
          ∧ (s.link.state = .unknown → s.link.miss ≤ 3 →
              exec .driveMiss s = .next (State.settle { s with
                link := { s.link with window := none, good := 0, miss := s.link.miss + 1 },
                flt := { s.flt with stall := 0 } }))
          ∧ (s.link.state = .lost →
              exec .driveMiss s = .next (State.settle { s with
                link := { s.link with window := none, good := 0 }, flt := { s.flt with stall := 0 } }))
          ∧ (s.link.state ≠ .lost → s.link.miss = 4 →
              (∃ u, exec .driveMiss s = s.finish (if s.cyc.state = .off then u.managerReact else u) ∧ lost u)
                ∧ (s.mgr.state ≠ .due → ∃ t, exec .driveMiss s = .next t ∧ lost t)))

/-- A RUNNING reply of 1000 rpm or more ends STARTING in its RUN phase (R84), whatever frame it answers (log entry 33: the model's
choice), and R69 follows where the served set is empty (R68); under service hold it ends in RUNNING with no path and without timers
(R84, R104); a STOPPED reply ends STOPPING (R88); and the drive faults a reply declares: REPORTED, RUNAWAY, STALL (R101), in the order of
log entry 11. A RUNAWAY is declared in every STOPPING by the same condition (log entry 38: the model's reading).

Every drive fault raises DRIVE_FAULT, makes last stop now and the fault wait end now + 300, enters the fault list, whose fourth time in an
hour raises DRIVE_LOCKOUT, and leaves the cycle OFF; the served entries of a turn go to the front of the queue (R76, R102, R103). -/
def Obligations.RepliesEndStartsAndStopsAndDeclareFaults : Prop :=
  ∀ (s : State) (l : List Byte) (n : Nat) (r : DriveReply), s.link.window = some n → readDriveStatus l = some r →
    (∀ p, r.state = .running → 100 ≤ r.units → s.cyc.state = .starting → s.cyc.phase = some .run →
        s.cyc.path = some p → s.cyc.runFlag = true →
        let run : CycleRecord := { s.cyc with
          state := .running, phase := none, startWindow := none, target := none, turnTimer := some 0, onTimer := some 0,
          startHold := some 0, sinceUpdate := 0, turnMaxReported := false, minOnReported := false, runMinutes := 0 }
        exec (.driveStatus l) s = s.finish (State.reportRunning { s with
            link := s.link.reply r, flt := { s.flt with stall := 0 }, cyc := run, act := s.act.onRunning (some p) })
          ∧ (s.arb.served ≠ [] → s.mgr.state ≠ .due →
              ∃ t, exec (.driveStatus l) s = .next t ∧ t.cyc = run ∧ t.arb = s.arb))
      ∧ (r.state = .running → 100 ≤ r.units → s.cyc.state = .starting → s.cyc.phase = some .run → s.cyc.path = none →
          s.cyc.runFlag = true →
          let run : CycleRecord := { s.cyc with
            state := .running, phase := none, startWindow := none, target := none, turnTimer := none, onTimer := none,
            startHold := none, sinceUpdate := 0, turnMaxReported := false, minOnReported := false, runMinutes := 0 }
          let ended : State := { s with link := s.link.reply r, flt := { s.flt with stall := 0 }, cyc := run }
          exec (.driveStatus l) s = s.finish ended.reportRunning
            ∧ (s.arb.turnPath = none → exec (.driveStatus l) s = s.finish ended
                ∧ (s.mgr.state ≠ .due → exec (.driveStatus l) s = .next ended.settle)))
      ∧ (s.mgr.state ≠ .due →
          let starts := s.cyc.state = .starting ∨ s.cyc.state = .running ∨ s.cyc.state = .transfer
          let faulted (cause : DriveFaultCause) (code : Nat) (t : State) : Prop :=
            t.flt.last = some (cause, code) ∧ t.flt.waitEnd = some (s.now + 300)
              ∧ t.flt.times = (s.flt.enter s.now).times ∧ t.flt.lockout = (s.flt.enter s.now).lockout ∧ t.flt.stall = 0
              ∧ t.cyc.state = .off ∧ t.cyc.lastStop = s.now
              ∧ (∀ p, holdsKind (t.events.get p).set .driveFault = true)
              ∧ t.events = (
                  let raised := s.events.map (·.add .driveFault)
                  if s.flt.lockout = none ∧ (s.flt.enter s.now).lockout.isSome = true then raised.map (·.add .driveLockout)
                  else raised)
              ∧ (starts → t.cyc = { CycleRecord.initial with lastStop := s.now, stopCommandedSince := s.now }
                  ∧ t.act.runOn = some 60
                  ∧ t.arb = { s.arb with
                      queue := s.arb.served.map (fun e => { e with time := s.now }) ++ s.arb.queue, served := [],
                      turnPath := none, holdover := false, yieldDue := false })
              ∧ (s.cyc.state = .stopping →
                  t.cyc = { CycleRecord.initial with lastStop := s.now, stopCommandedSince := s.cyc.stopCommandedSince }
                    ∧ t.act.runOn = some 60
                    ∧ t.arb = { s.arb with turnPath := none, holdover := false, yieldDue := false })
              ∧ (s.cyc.state = .off → t.cyc = { s.cyc with lastStop := s.now } ∧ t.arb = s.arb ∧ t.act.runOn = s.act.runOn)
              ∧ t.act.valve = s.act.valve
              ∧ t = { s with link := s.link.reply r, cyc := t.cyc, arb := t.arb, act := t.act, flt := t.flt, events := t.events }
          ∃ t, exec (.driveStatus l) s = .next t
            ∧ (r.state = .running → r.units < 100 → s.cyc.runFlag = true → s.link.state = .up → t.cyc = s.cyc)
            ∧ (r.state = .stopped → s.cyc.state = .stopping →
                t.cyc = { CycleRecord.initial with lastStop := s.now, stopCommandedSince := s.cyc.stopCommandedSince }
                  ∧ t.act.runOn = some 60)
            ∧ (r.state = .fault →
                (s.link.lastStatus = none ∨ (∃ q, s.link.lastStatus = some q ∧ q.state ≠ .fault) ∨ s.link.state = .lost) →
                faulted .reported r.code t ∧ t.flt.runaway = s.flt.runaway)
            ∧ (∀ q, r.state = .fault → s.link.lastStatus = some q → q.state = .fault → s.link.state = .up →
                t.flt.last = s.flt.last ∧ t.flt.times = s.flt.times ∧ t.cyc = s.cyc)
            ∧ (r.state = .running → s.cyc.runFlag = false → s.cyc.stopCommandedSince + 10 < s.now → s.flt.runaway = false →
                faulted .runaway 0 t ∧ t.flt.runaway = true)
            ∧ (r.state = .running → s.cyc.state = .off ∨ s.cyc.state = .stopping → s.link.state = .up →
                s.cyc.runFlag = true ∨ s.now ≤ s.cyc.stopCommandedSince + 10 ∨ s.flt.runaway = true →
                t.flt = { s.flt with stall := 0 } ∧ t.cyc = s.cyc ∧ t.events = s.events)
            ∧ (r.state = .stopped → t.flt.runaway = false)
            ∧ (r.state = .stopped → s.cyc.state = .running ∨ s.cyc.state = .transfer → s.flt.stall = 9 →
                faulted .stall 0 t)
            ∧ (r.state = .stopped → s.cyc.state = .running ∨ s.cyc.state = .transfer → s.flt.stall < 9 →
                s.link.state = .up → t.flt.stall = s.flt.stall + 1 ∧ t.cyc = s.cyc))

/-! ## The actuator block -/

/-- A tach reading of a driven fan: the spin-up, the low count and the good timer; the fault at the tenth low reading, which goes to the
path of an evaporator fan (R57, R75, R113) and to the condenser cap (R96, R112); and the reports of good running (R57, R108, R112). -/
def Obligations.TachReadingsSuperviseTheFans : Prop :=
  ∀ (s : State) (f : Fan) (rpm : Word16),
    let r := s.act.fans.get f
    let supervised := 5 ≤ r.spinUp ∧ ¬ (f = .condenser ∧ s.act.condenserFault = .faulted)
    let full := match f with
      | .upper => 2000
      | .lower => 2400
      | .condenser => 1600
    let low := 2 * rpm.toNat < full * r.duty / 100
    let read (x : FanRecord) : State := { s with act := { s.act with fans := s.act.fans.set f x } }
    let after : FanRecord := { r with tach := rpm.toNat, low := 0, good := if r.good < 300 then r.good + 1 else r.good }
    let failing : State := { read { r with tach := rpm.toNat, low := 0, good := 0 } with
      events := s.events.map (·.add .fanFault) }
    (r.duty = 0 → exec (.tachReading f rpm) s = .next s)
      ∧ (0 < r.duty →
          (r.spinUp < 5 → exec (.tachReading f rpm) s
              = .next (State.settle (read { r with tach := rpm.toNat, spinUp := r.spinUp + 1 })))
            ∧ (5 ≤ r.spinUp → ¬ supervised →
                exec (.tachReading f rpm) s = .next (State.settle (read { r with tach := rpm.toNat })))
            ∧ (supervised → low → r.low < 9 → exec (.tachReading f rpm) s
                = .next (State.settle (read { r with tach := rpm.toNat, low := r.low + 1, good := 0 })))
            ∧ (supervised → ¬ low → (f = .condenser → ¬ (s.act.condenserFault = .retry ∧ r.good = 9)) →
                (f ≠ .condenser → r.good ≠ 299) →
                exec (.tachReading f rpm) s = .next (State.settle (read after)))
            ∧ (∀ p : Path, f = p.fan → supervised → ¬ low → r.good = 299 →
                exec (.tachReading f rpm) s = .next (State.settle { read after with
                  arb := { s.arb with paths := s.arb.paths.set p { s.arb.paths.get p with count := 0 } } }))
            ∧ (∀ p : Path, f = p.fan → supervised → low → r.low = 9 →
                exec (.tachReading f rpm) s = s.finish (failing.pathFault p))
            ∧ (f = .condenser → supervised → low → r.low = 9 →
                exec (.tachReading f rpm) s = s.finish (State.setCondenserCap { failing with
                  act := { failing.act with condenserFault := .faulted, retry := some 900 } }))
            ∧ (f = .condenser → supervised → ¬ low → r.good = 9 → s.act.condenserFault = .retry →
                exec (.tachReading f rpm) s = s.finish (State.clearCondenserCap { read after with
                  act := { (read after).act with condenserFault := .none, retry := none } })))

/-- The evaporator reports (R110, R111, R139, R140, R141). A report's temperature is told where it is current or held: an in-range
sample's conversion outside FAULT or at the third good sample that ends it, and the last good temperature at the first two out-of-range
samples. A FAULT holds the temperature back, and its end tells it again. What is told ends the after-run, the fan delay and the EVAP step
of the program on its path; the entry to FAULT ends an after-run of 300 s or more, and nothing else. -/
def Obligations.EvaporatorReportsAct : Prop :=
  ∀ (s : State) (code : BitVec 12), s.store.imageLoaded = true → s.store.settingsLoaded = true →
    let inRange := 16 ≤ code.toNat ∧ code.toNat ≤ 4079
    let told (ch : Channel) : Option Int :=
      if inRange then
        if (s.channels.get ch).state ≠ .fault ∨ 2 ≤ (s.channels.get ch).debounce then some (convert s.tables.conv code.toNat)
        else none
      else if (s.channels.get ch).state ≠ .fault ∧ (s.channels.get ch).debounce < 2 then (s.channels.get ch).temperature
      else none
    let fails := ¬ inRange ∧ s.channels.ch4.state ≠ .fault ∧ 2 ≤ s.channels.ch4.debounce
    ((∀ g, s.runningProgram = some g → g.path = .lower) →
        ∃ t, exec (.sampleCompletion .ch4 code) s = .next t
          ∧ t.act.afterRun
              = (if (told .ch4).any (fun x => decide (10 ≤ x)) = true ∨ (fails ∧ 300 ≤ s.act.afterRun.getD 0) then none
                 else s.act.afterRun)
          ∧ t.act.fanDelay = s.act.fanDelay ∧ t.mgr = s.mgr)
      ∧ ((∀ g, s.runningProgram = some g → g.path = .upper) →
          ∃ t, exec (.sampleCompletion .ch5 code) s = .next t
            ∧ t.act.fanDelay
                = (if (told .ch5).any (fun x => decide (x < -50)) = true ∧ s.act.fanDelay = .active then .disarmed
                   else s.act.fanDelay)
            ∧ t.act.afterRun = s.act.afterRun ∧ t.mgr = s.mgr)
      ∧ ∀ (ch : Channel) (i j n : Nat), s.mgr.state = .running → s.mgr.program = some i → s.mgr.step = some j →
          s.mgr.stepTimer = some n → ch = (if (s.tables.program i).path = .upper then .ch4 else .ch5) →
          let st := s.tables.step j
          let met := (st.endKind = .evapAbove ∧ (told ch).any (fun x => decide (st.threshold < x)) = true)
            ∨ (st.endKind = .evapBelow ∧ (told ch).any (fun x => decide (x < st.threshold)) = true)
          ∃ t, exec (.sampleCompletion ch code) s = .next t
            ∧ (¬ met → t.mgr = s.mgr)
            ∧ (met → st.last = false →
                t.mgr = { s.mgr with
                  step := some st.next, stepTimer := some 0,
                  runMeasurement := if st.measure then some { elapsed := n, cause := .condition } else s.mgr.runMeasurement,
                  lastMeasurement :=
                    if st.measure then some (i, { elapsed := n, cause := .condition }) else s.mgr.lastMeasurement })
            ∧ (met → st.last = true → t.mgr.lastOutcome = some (i, .completed, s.now))

/-- The window of R32 closes 1800 s after the end of a LOWER program; a path's fault timer runs out and leaves the count (R57).

The expiries of the actuator block (R110, R111, R112, R119).

A damper takes one step in 10 ms toward its target, and its move and its homing end; at the end of every event it takes the target that
OutputsFollowTheirRules gives: a new one away from its position starts or turns a move, one at its position ends it, and one that
arrives in homing is recorded (R114, R115). That the 10 ms of a step move it so is in EmptyQueueCountsTime.

The lower defrost heater is limited at 2700 s and a program in RUNNING aborts; the flex heater rests for 600 s at 1200 s (R118,
R119, R143). -/
def Obligations.TimersAndLimitsEndAndDampersMove : Prop :=
  ((∀ (s : State) (m : Nat), s.window = .closing m → m ≤ s.now →
        exec .defrostWindowClose s = .next (State.settle { s with window := .closed }))
      ∧ ∀ (s : State) (p : Path), (s.arb.paths.get p).timer = some 0 →
          ∃ t, exec (.faultTimerExpiry p) s = .next t
            ∧ (t.arb.paths.get p).fault = .none ∧ (t.arb.paths.get p).timer = none
            ∧ (t.arb.paths.get p).count = (s.arb.paths.get p).count
            ∧ t.arb.paths.get p.other = { s.arb.paths.get p.other with blocked := (t.arb.paths.get p.other).blocked }
            ∧ t.zones = s.zones ∧ t.channels = s.channels ∧ t.doors = s.doors ∧ t.tables = s.tables ∧ t.ports = s.ports
            ∧ t.acct = s.acct ∧ t.store = s.store)
    ∧ ((∀ s : State, s.act.retry = some 0 →
          exec .condenserRetryExpiry s = .next (State.settle { s with
            act := { s.act with
              condenserFault := .retry, retry := none,
              fans := { s.act.fans with condenser := { s.act.fans.condenser with spinUp := 0, low := 0, good := 0 } } } }))
        ∧ (∀ s : State, s.act.runOn = some 0 →
            exec .condenserRunOnExpiry s = .next (State.settle { s with act := { s.act with runOn := none } }))
        ∧ (∀ (s : State) (n : Nat), s.act.afterRun = some n → (if s.channels.ch4.state = .ok then 600 else 300) ≤ n →
            exec .afterRunExpiry s = .next (State.settle { s with act := { s.act with afterRun := none } }))
        ∧ (∀ (s : State) (n : Nat), s.act.fanDelay = .active → s.cyc.turnTimer = some n → 120 ≤ n →
            exec .fanDelayExpiry s = .next (State.settle { s with act := { s.act with fanDelay := .disarmed } }))
        ∧ ∀ s : State, s.act.flexHeater.rest = some 0 →
            exec .flexHeaterRestEnd s
              = .next (State.settle { s with act := { s.act with flexHeater := { s.act.flexHeater with rest := none } } }))
    ∧ ((∀ (s : State) (d : Damper), (s.act.dampers.get d).motion = .moving →
          (s.act.dampers.get d).position = some (s.act.dampers.get d).target →
          exec (.damperMoveComplete d) s = .next (State.settle { s with
            act := { s.act with dampers := s.act.dampers.set d { s.act.dampers.get d with motion := .idle } } }))
        ∧ (∀ (s : State) (d : Damper), (s.act.dampers.get d).motion = .homing → 440 ≤ (s.act.dampers.get d).homed →
            exec (.damperHomingComplete d) s = .next (State.settle { s with
              act := { s.act with
                dampers := s.act.dampers.set d { s.act.dampers.get d with
                  position := some 0, homed := 0,
                  motion := if (s.act.dampers.get d).target = 0 then .idle else .moving } } }))
        ∧ (∀ (r : DamperRecord) (n : Nat), r.motion = .moving → r.position = some n → n < r.target →
            r.tick = { r with position := some (n + 1) })
        ∧ (∀ (r : DamperRecord) (n : Nat), r.motion = .moving → r.position = some n → r.target < n →
            r.tick = { r with position := some (n - 1) })
        ∧ (∀ r : DamperRecord, (r.motion = .idle → r.tick = r)
            ∧ (r.motion = .moving → r.position = some r.target → r.tick = r)
            ∧ (r.motion = .homing → r.homed < 440 → r.tick = { r with homed := r.homed + 1 })
            ∧ (r.motion = .homing → 440 ≤ r.homed → r.tick = r))
        ∧ (∀ (s : State) (d : Damper),
            s.settle.act.dampers.get d = (s.act.dampers.get d).aim (if s.damperOpen d then 400 else 0))
        ∧ ∀ (r : DamperRecord) (target : Nat),
            (target = r.target → r.aim target = r)
              ∧ (r.motion = .homing → r.aim target = { r with target := target })
              ∧ (r.motion ≠ .homing → target ≠ r.target → r.position = some target →
                  r.aim target = { r with target := target, motion := .idle })
              ∧ (r.motion ≠ .homing → target ≠ r.target → r.position ≠ some target →
                  r.aim target = { r with target := target, motion := .moving }))
    ∧ ((∀ s : State, s.act.lowerHeater.output = true → 2700 ≤ s.act.lowerHeater.onTime →
          ∃ t, exec .heaterLimit s = .next t ∧ t.act.lowerHeater.output = false ∧ t.act.lowerHeater.limited = true
            ∧ t.act.lowerHeater.onTime = 0 ∧ t.events = s.events.map (·.add .heaterLimit)
            ∧ (s.mgr.state ≠ .running →
                t = State.settle { s with
                  act := { s.act with lowerHeater := { s.act.lowerHeater with limited := true } },
                  events := s.events.map (·.add .heaterLimit) })
            ∧ (∀ i, s.mgr.state = .running → s.mgr.program = some i →
                t.mgr = { s.mgr with
                  state := .exiting, step := some (s.tables.program i).exitHead, stepTimer := some 0 }))
        ∧ ∀ s : State, s.act.flexHeater.output = true → 1200 ≤ s.act.flexHeater.onTime →
            ∃ t, exec .flexHeaterLimit s = .next t ∧ t.act.flexHeater.output = false ∧ t.act.flexHeater.onTime = 0
              ∧ t = State.settle { s with
                  act := { s.act with flexHeater := { s.act.flexHeater with rest := some 600 } },
                  events := s.events.map (·.add .heaterLimit) })

/-- SERVICE_HOLD on: the forced values at rest, the turn given up, the manager's work cancelled, the valve sent to UPPER (R77, R104,
R121, R145); while the hold is ON it changes nothing.

The hold ends by SERVICE_HOLD off or by 600 s without a valid Port S request, which raises SERVICE_HOLD_END; a forced run is
stopped through STOPPING (R104, R123). -/
def Obligations.ServiceHoldBeginsAndEnds : Prop :=
  (∀ (s : State) (e : Ending) (p : Port) (f : Frame) (q : Ports), Admitted s e .serviceHold p f q → f.arg 0 = 1 →
      (s.act.forced ≠ none →
          exec (.serviceHoldOn e) s
            = .next (State.settle (State.respond { s with ports := q } p { status := .ok, echo := 0x32, data := [] })))
        ∧ (s.act.forced = none →
            ∃ t, exec (.serviceHoldOn e) s = .next t
              ∧ t.answer p = { status := .ok, echo := 0x32, data := [] }
              ∧ t.act.forced = some
                  { speed := 0, valve := .upper, fans := { upper := 0, lower := 0, condenser := 0 },
                    dampers := { flexLower := false, flexUpper := false, ice := false }, lowerHeater := false,
                    flexHeater := false }
              ∧ t.act.afterRun = none ∧ (t.act.valve = .standing .upper ∨ ∃ d n, t.act.valve = .moving .upper d n)
              ∧ t.act.fans.upper.duty = 0 ∧ t.act.fans.lower.duty = 0 ∧ t.act.lowerHeater.output = false
              ∧ (∀ d, (t.act.dampers.get d).target = 0)
              ∧ t.mgr.state = .idle ∧ t.mgr.program = none ∧ t.mgr.deferralEnd = none ∧ t.acct = s.acct
              ∧ t.arb.turnPath = none
              ∧ (s.arb.turnPath ≠ none →
                  t.arb.queue = s.arb.served.map (fun e => { e with time := s.now }) ++ s.arb.queue ∧ t.arb.served = [])
              ∧ (s.arb.turnPath ≠ none → s.cyc.state ≠ .off →
                  t.cyc.state = .stopping ∧ t.cyc.runFlag = (if s.cyc.state = .stopping then s.cyc.runFlag else false))
              ∧ (s.arb.turnPath = none → t.arb.queue = s.arb.queue ∧ t.cyc = s.cyc)
              ∧ (∀ i, s.mgr.inProgram = true → s.mgr.program = some i → t.mgr.lastOutcome = some (i, .cancelled, s.now))
              ∧ t.zones = s.zones ∧ t.doors = s.doors ∧ t.tables = s.tables ∧ t.cap = s.cap ∧ t.link = s.link))
    ∧ (∀ s : State,
        (∀ g, s.act.forced = some g → s.act.lastValidS + 600 ≤ s.now →
            ∃ t, exec .holdTimeout s = .next t ∧ t.act.forced = none ∧ t.act.lowerHeater.limited = false
              ∧ (∀ p, holdsKind (t.events.get p).set .serviceHoldEnd = true)
              ∧ (s.cyc.state = .starting ∨ s.cyc.state = .running → t.cyc.state = .stopping ∧ t.cyc.runFlag = false))
          ∧ ∀ (e : Ending) (p : Port) (f : Frame) (q : Ports), Admitted s e .serviceHold p f q →
              (f.arg 0 = 0 → s.act.forced = none →
                  exec (.serviceHoldOff e) s = .next (State.settle (State.respond { s with ports := q } p
                    { status := .notRunning, echo := 0x32, data := [] })))
                ∧ (2 ≤ f.arg 0 →
                    exec (.serviceHoldOff e) s = .next (State.settle (State.respond { s with ports := q } p
                      { status := .badArgument, echo := 0x32, data := [] })))
                ∧ (∀ g, f.arg 0 = 0 → s.act.forced = some g →
                    ∃ t, exec (.serviceHoldOff e) s = .next t ∧ t.act.forced = none ∧ t.act.lowerHeater.limited = false
                      ∧ t.answer p = { status := .ok, echo := 0x32, data := [] }
                      ∧ (s.cyc.state = .starting ∨ s.cyc.state = .running →
                          t.cyc.state = .stopping ∧ t.cyc.runFlag = false)))

/-- FORCE_OUTPUT: the domain of each output, NOT_RUNNING without the hold, the forced speed (R104, R122) and the recorded
values. -/
def Obligations.ForcedOutputsAreTaken : Prop :=
  ∀ (s : State) (e : Ending) (p : Port) (f : Frame) (q : Ports), Admitted s e .forceOutput p f q →
    let output := f.arg 0
    let v := f.arg16 1
    let answered (u : State) (st : Status) (data : List Byte) : Host.Outcome State Fault Refusal :=
      .next (State.settle (State.respond { u with ports := q } p { status := st, echo := 0x33, data := data }))
    let bad := 10 ≤ output ∨ (2 ≤ output ∧ output ≤ 4 ∧ 100 < v) ∨ ((output = 1 ∨ 5 ≤ output) ∧ 1 < v)
    (bad → exec (.forceOutput e) s = answered s .badArgument [])
      ∧ (¬ bad → s.act.forced = none → exec (.forceOutput e) s = answered s .notRunning [])
      ∧ ∀ g, ¬ bad → s.act.forced = some g →
          let forced (x : Forced) : State := { s with act := { s.act with forced := some x } }
          (output = 1 →
              exec (.forceOutput e) s = answered
                { s with act := { s.act with
                    forced := some { g with valve := if v = 0 then .upper else .lower },
                    valve := s.act.valve.request (if v = 0 then .upper else .lower) } } .ok (be16 v))
            ∧ (output = 2 → exec (.forceOutput e) s
                = answered (forced { g with fans := { g.fans with upper := v } }) .ok (be16 v))
            ∧ (output = 3 → exec (.forceOutput e) s
                = answered (forced { g with fans := { g.fans with lower := v } }) .ok (be16 v))
            ∧ (output = 4 → exec (.forceOutput e) s
                = answered (forced { g with fans := { g.fans with condenser := v } }) .ok (be16 v))
            ∧ (output = 5 → exec (.forceOutput e) s
                = answered (forced { g with dampers := { g.dampers with flexLower := decide (v = 1) } }) .ok (be16 v))
            ∧ (output = 6 → exec (.forceOutput e) s
                = answered (forced { g with dampers := { g.dampers with flexUpper := decide (v = 1) } }) .ok (be16 v))
            ∧ (output = 7 → exec (.forceOutput e) s
                = answered (forced { g with dampers := { g.dampers with ice := decide (v = 1) } }) .ok (be16 v))
            ∧ (output = 8 → exec (.forceOutput e) s = answered (forced { g with lowerHeater := decide (v = 1) }) .ok (be16 v))
            ∧ (output = 9 → exec (.forceOutput e) s = answered (forced { g with flexHeater := decide (v = 1) }) .ok (be16 v))
            ∧ (output = 0 → v ≠ 0 → s.cyc.state = .stopping ∨ (s.cyc.state = .off ∧ s.startBarred = true) →
                exec (.forceOutput e) s = answered s .busy [])
            ∧ (output = 0 → v ≠ 0 → s.cyc.state = .off → s.startBarred = false →
                let w := max 1200 (min 4500 v)
                let run : State := { forced { g with speed := w } with
                  cyc := { CycleRecord.initial with
                    state := .starting, phase := some .run, runFlag := true, speed := s.cap.bound w / 10 * 10,
                    lastStop := s.cyc.lastStop, stopCommandedSince := s.cyc.stopCommandedSince },
                  act := { s.act with forced := some { g with speed := w }, runOn := none },
                  flt := { s.flt with runaway := false } }
                exec (.forceOutput e) s = s.finish (State.respond { run with ports := q } p
                    { status := if w = v then .ok else .okClamped, echo := 0x33, data := be16 w })
                  ∧ (s.mgr.state ≠ .due →
                      exec (.forceOutput e) s = answered run (if w = v then .ok else .okClamped) (be16 w)))
            ∧ (output = 0 → v ≠ 0 → s.cyc.state = .starting ∨ s.cyc.state = .running → s.cyc.runFlag = true →
                let w := max 1200 (min 4500 v)
                exec (.forceOutput e) s = answered
                  { forced { g with speed := w } with cyc := { s.cyc with speed := s.cap.bound w / 10 * 10 } }
                  (if w = v then .ok else .okClamped) (be16 w))
            ∧ (output = 0 → v = 0 → s.cyc.state = .off ∨ s.cyc.state = .stopping →
                exec (.forceOutput e) s = answered (forced { g with speed := 0 }) .ok (be16 0))
            ∧ (output = 0 → v = 0 → exec (.forceOutput e) s
                = s.finish (State.respond { (forced { g with speed := 0 }).stopOrder with ports := q } p
                    { status := .ok, echo := 0x33, data := be16 0 }))
            ∧ (output = 0 → v = 0 → s.cyc.state = .starting ∨ s.cyc.state = .running → s.mgr.state ≠ .due →
                ∃ t, exec (.forceOutput e) s = .next t ∧ t.cyc.state = .stopping ∧ t.cyc.runFlag = false
                  ∧ t.cyc.speed = 0 ∧ t.answer p = { status := .ok, echo := 0x33, data := be16 0 })

/-! ## Defrost -/

/-- An automatic defrost falls due at 72 hours of age; its deferral holds it back, and else the path wait begins, with the program
begun at once where the compressor is OFF and the valve not on its way to the path (R128, R129, R131, R132, R133); before READY no due
test is made (R148, R170; log entry 35).

The deferral's end begins the path wait at the later of the due moment and the deferral end, and the program begins at once where
the begin condition holds (R131, R132). -/
def Obligations.DefrostFallsDueAndWaits : Prop :=
  (∀ s : State, s.clock % 100 = 0 → s.acct.age = 259200 →
      let i := s.tables.autoProgram
      let g := s.tables.program i
      (s.ready = false ∨ s.mgr.state ≠ .idle ∨ s.act.forced ≠ none → exec .defrostAgeLimit s = .next s.settle)
        ∧ (∀ m, s.ready = true → s.mgr.state = .idle → s.act.forced = none → s.mgr.deferralEnd = some m → s.now < m →
            exec .defrostAgeLimit s = .next (State.settle { s with
              mgr := { s.mgr with
                state := .due, program := some i, kind := some .automatic, dueMoment := some s.now, releaseAsked := false,
                waitStart := none } }))
        ∧ (s.ready = true → s.mgr.state = .idle → s.act.forced = none → s.mgr.deferralEnd.getD 0 ≤ s.now →
            s.beginCondition g.path = false →
            exec .defrostAgeLimit s = .next (State.settle { s with
              mgr := { s.mgr with
                state := .due, program := some i, kind := some .automatic, dueMoment := some s.now, releaseAsked := false,
                waitStart := some s.now } }))
        ∧ (s.ready = true → s.mgr.state = .idle → s.act.forced = none → s.mgr.deferralEnd.getD 0 ≤ s.now →
            s.beginCondition g.path = true →
            ∃ t, exec .defrostAgeLimit s = .next t
              ∧ t.mgr = { s.mgr with
                  state := .running, program := some i, kind := some .automatic, runMeasurement := none, dueMoment := none,
                  waitStart := none, releaseAsked := false, deferralEnd := none, step := some g.head, stepTimer := some 0 }
              ∧ (t.arb.paths.get g.path).blocked = true
              ∧ (g.compressorOff = true → t.arb.compressorHold = true)
              ∧ (g.path = .lower → t.window = .running) ∧ (g.path = .upper → t.act.afterRun = none)
              ∧ t.events = s.events.map (·.add .defrostBegin) ∧ t.cyc = s.cyc ∧ t.acct = s.acct)
        ∧ (∀ p, s.beginCondition p = true ↔
            (s.cyc.state = .off ∨ ((s.cyc.state = .starting ∨ s.cyc.state = .running ∨ s.cyc.state = .transfer)
                ∧ s.cyc.path = some p.other))
              ∧ ∀ d n, s.act.valve ≠ .moving p d n))
    ∧ (∀ (s : State) (i m d : Nat), s.mgr.state = .due → s.mgr.kind = some .automatic → s.mgr.program = some i →
        s.mgr.waitStart = none → s.mgr.deferralEnd = some m → s.mgr.dueMoment = some d → m ≤ s.now →
        let waiting : State := { s with mgr := { s.mgr with waitStart := some (max d m) } }
        exec .deferralEnd s = s.finish waiting.managerReact
          ∧ (s.now < max d m + 1800 → s.beginCondition (s.tables.program i).path = false →
              exec .deferralEnd s = .next waiting.settle)
          ∧ (s.now < max d m + 1800 → s.beginCondition (s.tables.program i).path = true →
              ∃ t, exec .deferralEnd s = .next t ∧ t.mgr.state = .running ∧ t.mgr.program = some i
                ∧ t.mgr.step = some (s.tables.program i).head ∧ t.mgr.stepTimer = some 0 ∧ t.mgr.deferralEnd = none))

/-- What the defrost manager does at a hand-over of the cycle state, every change of cycle state or path being one (log entry 39: the
model's reading), while a due program waits for its path (R131, R132): past 1800 s it
asks for the release of the path where the cycle is current on it, and it makes the begin test; and what the beginning of a program
hands on (R133).

PATH_WAIT_EXPIRY (R131): 1800 s after the wait start the manager asks for the release of a path the cycle is current on, and begins
at once where the answer leaves the begin condition true, as a transfer toward the other path does (R74, R132). A path that is not
current is not asked for. -/
def Obligations.DueProgramsWaitForTheirPath : Prop :=
  (∀ (s u : State) (i w : Nat),
      let g := u.tables.program i
      let waits := u.mgr.state = .due ∧ u.mgr.program = some i ∧ u.mgr.waitStart = some w
      let current := (u.cyc.state = .starting ∨ u.cyc.state = .running ∨ u.cyc.state = .transfer) ∧ u.cyc.path = some g.path
      let asked : State := { u with mgr := { u.mgr with releaseAsked := true } }
      s.finish u = .next (State.settle
          (if s.cyc.state = u.cyc.state ∧ s.cyc.path = u.cyc.path then u else u.managerReact))
        ∧ (u.mgr.state ≠ .due ∨ u.mgr.waitStart = none → u.managerReact = u ∧ u.beginTest = u)
        ∧ (waits → u.now < w + 1800 ∨ ¬ current → u.managerReact = u.beginTest)
        ∧ (waits → w + 1800 ≤ u.now → current → u.managerReact = (asked.release g.path).beginTest)
        ∧ (waits → u.beginCondition g.path = false → u.beginTest = u)
        ∧ (waits → u.beginCondition g.path = true →
            u.beginTest = { u with
              mgr := { u.mgr with
                state := .running, runMeasurement := none, dueMoment := none, waitStart := none, releaseAsked := false,
                deferralEnd := if u.mgr.kind = some .automatic then none else u.mgr.deferralEnd,
                step := some g.head, stepTimer := some 0 },
              arb := { u.arb with
                paths := u.arb.paths.set g.path { u.arb.paths.get g.path with blocked := true },
                compressorHold := u.arb.compressorHold || g.compressorOff },
              act := if g.path = .upper then { u.act with afterRun := none } else u.act,
              window := if g.path = .lower then .running else u.window,
              events := u.events.map (·.add .defrostBegin) }))
    ∧ (∀ (s : State) (i w : Nat), s.mgr.state = .due → s.mgr.program = some i → s.mgr.waitStart = some w → w + 1800 ≤ s.now →
        let p := (s.tables.program i).path
        let current := (s.cyc.state = .starting ∨ s.cyc.state = .running ∨ s.cyc.state = .transfer) ∧ s.cyc.path = some p
        let front : Arbiter := { s.arb with
          queue := s.arb.served.map (fun e => { e with time := s.now }) ++ s.arb.queue, served := [] }
        (¬ current → exec .pathWaitExpiry s = .next s)
          ∧ (current → exec .pathWaitExpiry s
              = s.finish (State.beginTest (State.release { s with mgr := { s.mgr with releaseAsked := true } } p)))
          ∧ (current → s.arb.turnPath = some p → s.cyc.state = .starting ∨ front.oldestCandidate = none →
              ∃ t, exec .pathWaitExpiry s = .next t ∧ t.mgr = { s.mgr with releaseAsked := true } ∧ t.cyc.state = .stopping
                ∧ t.cyc.path = none ∧ t.arb = { front with turnPath := none, holdover := false, yieldDue := false })
          ∧ (∀ e, current → s.arb.turnPath = some p → s.cyc.state = .running ∨ s.cyc.state = .transfer →
              front.oldestCandidate = some e →
              ∃ t, exec .pathWaitExpiry s = .next t ∧ t.mgr.state = .running ∧ t.mgr.program = some i
                ∧ t.mgr.step = some (s.tables.program i).head ∧ t.mgr.stepTimer = some 0 ∧ t.cyc.state = .transfer
                ∧ t.cyc.path = some p.other ∧ t.arb.turnPath = some p.other ∧ (t.arb.paths.get p).blocked = true
                ∧ t.arb.queue = (front.select p.other s.now).queue ∧ t.arb.served = (front.select p.other s.now).served
                ∧ ∀ x, holdsKind (t.events.get x).set .defrostBegin = true))

/-- A step of the main chain or of the exit chain ends by its duration, its timeout or its condition (R140): the events, the
measurement, and then the abort, the end of the chain or the next step (R141, R143, R144). In EXITING the abort on timeout is taken
as CONTINUE. -/
def Obligations.StepsEnd : Prop :=
  ∀ (s : State) (i j n : Nat) (c : Instr) (cause : EndCause), s.EndsStep i j n c cause →
    let st := s.tables.step j
    let m : Measurement := { elapsed := n, cause := cause }
    let measured : Manager := { s.mgr with
      runMeasurement := if st.measure then some m else s.mgr.runMeasurement,
      lastMeasurement := if st.measure then some (i, m) else s.mgr.lastMeasurement }
    let aborts := s.mgr.state = .running ∧ cause = .timeout ∧ st.abortOnTimeout = true
    ∃ t, exec c s = .next t
      ∧ (∀ p, holdsKind (t.events.get p).set .stepTimeout
            = (holdsKind (s.events.get p).set .stepTimeout || decide (cause = .timeout)))
      ∧ (∀ p, holdsKind (t.events.get p).set .programStep = (holdsKind (s.events.get p).set .programStep || st.notify))
      ∧ t.mgr.lastMeasurement = measured.lastMeasurement
      ∧ (aborts →
          t.mgr = { measured with
              state := .exiting, step := some (s.tables.program i).exitHead, stepTimer := some 0 }
            ∧ t.arb = s.arb ∧ t.window = s.window ∧ t.acct = s.acct)
      ∧ (¬ aborts → st.last = false →
          t.mgr = { measured with step := some st.next, stepTimer := some 0 }
            ∧ t.arb = s.arb ∧ t.window = s.window ∧ t.acct = s.acct)
      ∧ (¬ aborts → st.last = true →
          (s.mgr.state = .running → t.mgr.lastOutcome = some (i, .completed, s.now))
            ∧ (s.mgr.state = .exiting → t.mgr.lastOutcome = some (i, .aborted, s.now) ∧ t.mgr.state = .holdoff)
            ∧ ∀ p, holdsKind (t.events.get p).set .defrostEnd = true)

/-- What every end of a program hands on (R142, R144, R145): the heater's limit is cleared, a LOWER program arms the fan delay and
starts the window's last 1800 s, the path is unblocked and the compressor hold of a COMPRESSOR_OFF program ends.

The completion of a program, whatever ends its last step (R142): for LOWER the accumulator and the age return to 0, the interval
adapts to the run measurement, a MEASURE on the last step included, and the settings are marked dirty; for UPPER the accounting is kept
and the due test follows (R129).

An exit chain's last step, whatever ends it, leads to HOLDOFF for 3600 s with the accounting kept; the holdoff ends in IDLE with the
due test (R129, R144). -/
def Obligations.CompletionsAndExitChainsEnd : Prop :=
  (∀ (s : State) (g : Program),
      let cooled : State := { s with act := { s.act with lowerHeater := { s.act.lowerHeater with limited := false } } }
      let armed : State := { cooled with
        act := { cooled.act with fanDelay := if g.path = .lower then .armed else s.act.fanDelay },
        window := if g.path = .lower then .closing (s.now + 1800) else s.window }
      s.programEnded g
        = if g.compressorOff then (armed.unblock g.path).endCompressorHold else armed.unblock g.path)
    ∧ (∀ (s : State) (i j n : Nat) (c : Instr) (cause : EndCause), s.EndsStep i j n c cause → s.mgr.state = .running →
        let st := s.tables.step j
        let g := s.tables.program i
        let measured : Measurement := { elapsed := n, cause := cause }
        let run := if st.measure then some measured else s.mgr.runMeasurement
        let done : Manager := { s.mgr with
          state := .idle, program := none, kind := none, step := none, stepTimer := none, runMeasurement := run,
          lastMeasurement := if st.measure then some (i, measured) else s.mgr.lastMeasurement,
          lastOutcome := some (i, .completed, s.now) }
        let due := s.ready = true ∧ s.act.forced = none ∧ (s.acct.interval ≤ s.acct.accumulator ∨ 259200 ≤ s.acct.age)
        st.last = true → ¬ (cause = .timeout ∧ st.abortOnTimeout = true) →
        (g.path = .lower → 240 ≤ s.acct.interval →
            ∃ t, exec c s = .next t
              ∧ t.acct.accumulator = 0 ∧ t.acct.age = 0
              ∧ (run = none → t.acct.interval = s.acct.interval)
              ∧ (∀ m, run = some m →
                  t.acct.interval =
                    if m.cause = .timeout then max (s.acct.interval - 120) 240
                    else if m.elapsed < 900 then min (s.acct.interval + 60) 1440
                    else if m.elapsed ≤ 1800 then s.acct.interval
                    else max (s.acct.interval - 120) 240)
              ∧ t.mgr = done
              ∧ t.store = { s.store with dirty := true, quiet := some 30 }
              ∧ t.act.fanDelay = .armed ∧ t.act.lowerHeater.limited = false ∧ t.window = .closing (s.now + 1800)
              ∧ (t.arb.paths.get .lower).blocked = false
              ∧ t.arb.compressorHold = (s.arb.compressorHold && !g.compressorOff)
              ∧ ∀ p, holdsKind (t.events.get p).set .defrostEnd = true)
          ∧ (g.path = .upper →
              ∃ t, exec c s = .next t
                ∧ t.acct = s.acct ∧ t.store = s.store ∧ t.act.lowerHeater.limited = false
                ∧ t.mgr.lastOutcome = done.lastOutcome ∧ t.mgr.lastMeasurement = done.lastMeasurement
                ∧ (∀ p, holdsKind (t.events.get p).set .defrostEnd = true)
                ∧ (¬ due → t.mgr = done ∧ t.window = s.window ∧ (t.arb.paths.get .upper).blocked = false
                    ∧ t.arb.compressorHold = (s.arb.compressorHold && !g.compressorOff))
                ∧ (due → t.mgr.program = some s.tables.autoProgram ∧ t.mgr.kind = some .automatic
                    ∧ (t.mgr.state = .due ∨ t.mgr.state = .running))))
    ∧ ((∀ (s : State) (i j n : Nat) (c : Instr) (cause : EndCause), s.EndsStep i j n c cause → s.mgr.state = .exiting →
          (s.tables.step j).last = true →
          let st := s.tables.step j
          let g := s.tables.program i
          let measured : Measurement := { elapsed := n, cause := cause }
          ∃ t, exec c s = .next t
            ∧ t.mgr = { s.mgr with
                state := .holdoff, holdoffEnd := some (s.now + 3600), program := none, kind := none, step := none,
                stepTimer := none, runMeasurement := if st.measure then some measured else s.mgr.runMeasurement,
                lastMeasurement := if st.measure then some (i, measured) else s.mgr.lastMeasurement,
                lastOutcome := some (i, .aborted, s.now) }
            ∧ t.acct = s.acct ∧ t.store = s.store ∧ (t.arb.paths.get g.path).blocked = false
            ∧ t.act.lowerHeater.limited = false
            ∧ t.arb.compressorHold = (s.arb.compressorHold && !g.compressorOff)
            ∧ (g.path = .lower → t.act.fanDelay = .armed ∧ t.window = .closing (s.now + 1800))
            ∧ (g.path = .upper → t.window = s.window)
            ∧ ∀ p, holdsKind (t.events.get p).set .defrostEnd = true)
        ∧ ∀ (s : State) (m : Nat), s.mgr.state = .holdoff → s.mgr.holdoffEnd = some m → m ≤ s.now →
            (s.ready = false ∨ s.act.forced ≠ none ∨ ¬ (s.acct.interval ≤ s.acct.accumulator ∨ 259200 ≤ s.acct.age) →
                exec .holdoffEnd s = .next (State.settle { s with mgr := { s.mgr with state := .idle, holdoffEnd := none } }))
              ∧ (s.ready = true → s.act.forced = none → (s.acct.interval ≤ s.acct.accumulator ∨ 259200 ≤ s.acct.age) →
                  ∃ t, exec .holdoffEnd s = .next t ∧ t.mgr.program = some s.tables.autoProgram
                    ∧ t.mgr.kind = some .automatic ∧ (t.mgr.state = .due ∨ t.mgr.state = .running)))

/-! ## Request ports -/

/-- Reception (R151, R152): a write transaction keeps its first 24 bytes, Port S frames by sync and length byte, a gap of more than
50 ms drops a partial frame, a length outside 2..23 is answered BAD_LENGTH, and a sent frame leaves the queue.

What ends a request frame, and the frame it takes (R151, R152).

The response replaces the record of its own port alone; on Port S its frame joins the transmit queue unless it holds four, and a
valid request moves the time of the last valid request (R120, R152, R157). -/
def Obligations.FramesArriveAndAreAnswered : Prop :=
  ((∀ (s : State) (p : I2cPort) (b : Byte),
        exec (.writeTransactionByte p b) s = .next (State.settle { s with ports := s.ports.setRx p ((s.ports.rx p).take b) }))
      ∧ (∀ (b : Byte) (n : Nat) (l : List Byte),
          I2cReceive.take .idle b = .writing 1 [b]
            ∧ (l.length < 24 → I2cReceive.take (.writing n l) b = .writing (n + 1) (l ++ [b]))
            ∧ (24 ≤ l.length → I2cReceive.take (.writing n l) b = .writing (n + 1) l))
      ∧ (∀ (s : State) (b : Byte),
          let taken (x : SReceive) : Host.Outcome State Fault Refusal :=
            .next (State.settle { s with ports := { s.ports with rxS := x, lastByteS := s.clock } })
          (s.ports.rxS = .hunt →
              exec (.portSByteReceived b) s = taken (if b = 0xA5 then .length else .hunt))
            ∧ (s.ports.rxS = .length → 2 ≤ b.toNat → b.toNat ≤ 23 →
                exec (.portSByteReceived b) s = taken (.body b.toNat []))
            ∧ (∀ n l, s.ports.rxS = .body n l → l.length + 1 < n →
                exec (.portSByteReceived b) s = taken (.body n (l ++ [b])))
            ∧ (s.ports.rxS = .length → b.toNat < 2 ∨ 23 < b.toNat →
                exec (.portSLengthReject b) s = .next (State.settle (State.respond
                  { s with ports := { s.ports with rxS := .hunt, lastByteS := s.clock } } .s
                  { status := .badLength, echo := 0, data := [] }))))
      ∧ (∀ s : State, s.ports.rxS ≠ .hunt → s.ports.lastByteS + 5 < s.clock →
          exec .portSGapTimeout s = .next (State.settle { s with ports := { s.ports with rxS := .hunt } }))
      ∧ (∀ s : State, s.ports.rxS = .hunt ∨ s.clock ≤ s.ports.lastByteS + 5 → exec .portSGapTimeout s = .next s)
      ∧ ∀ s : State,
          exec .portSFrameSent s = .next (State.settle { s with ports := { s.ports with txS := s.ports.txS.drop 1 } }))
    ∧ (∀ (r : Ports) (clock : Nat),
        (∀ (n : Nat) (l : List Byte), r.rxA = .writing n l →
            r.taken clock (.stop .a) = some { port := .a, frame := { count := n, bytes := l }, ports := { r with rxA := .idle } })
          ∧ (∀ (n : Nat) (l : List Byte), r.rxB = .writing n l →
              r.taken clock (.stop .b) = some { port := .b, frame := { count := n, bytes := l }, ports := { r with rxB := .idle } })
          ∧ (r.rxA = .idle → r.taken clock (.stop .a) = none) ∧ (r.rxB = .idle → r.taken clock (.stop .b) = none)
          ∧ (∀ (n : Nat) (l : List Byte) (b : Byte), r.rxS = .body n l → l.length + 1 = n →
              r.taken clock (.lastByteS b) = some
                { port := .s, frame := { count := n + 1, bytes := BitVec.ofNat 8 n :: l ++ [b] },
                  ports := { r with rxS := .hunt, lastByteS := clock } })
          ∧ (∀ (n : Nat) (l : List Byte) (b : Byte), r.rxS = .body n l → l.length + 1 < n → r.taken clock (.lastByteS b) = none)
          ∧ ∀ b, (r.rxS = .hunt ∨ r.rxS = .length) → r.taken clock (.lastByteS b) = none)
    ∧ (∀ (s : State) (p : Port) (x : Response),
        let t := s.respond p x
        t = { s with ports := t.ports, act := { s.act with lastValidS := t.act.lastValidS } }
          ∧ t.answer p = x ∧ (∀ r, r ≠ p → t.answer r = s.answer r)
          ∧ t.ports.rxA = s.ports.rxA ∧ t.ports.rxB = s.ports.rxB ∧ t.ports.rxS = s.ports.rxS
          ∧ t.ports.lastByteS = s.ports.lastByteS
          ∧ t.ports.txS = (if p = .s ∧ s.ports.txS.length < 4 then s.ports.txS ++ [x.bytes] else s.ports.txS)
          ∧ t.act.lastValidS =
              (if p = .s ∧ x.status ≠ .checkError ∧ x.status ≠ .badLength ∧ x.status ≠ .unknownCommand then s.now
               else s.act.lastValidS)
          ∧ x.bytes = [BitVec.ofNat 8 x.status.code, x.echo] ++ be16 x.data.length ++ x.data
              ++ [crc8 ([BitVec.ofNat 8 x.status.code, x.echo] ++ be16 x.data.length ++ x.data)])

/-- The first step of R154 that fails decides the status: size, check, command, length, start-up, level, panel map. The catalogue gives
each command its code, its greatest level, whether the panel map governs it, and its length byte (R154, R156, the catalogue and the
Formats section); the length of a table command follows its kind, and a frame too short to name one has none that fits (log entry 31).

A request that fails one of steps 1 to 7 is answered with that step's status and changes nothing else (R154); a request that names
no command is such a one.

An UNKNOWN_COMMAND frame of the right size and check is answered so (R154). -/
def Obligations.FailingStepsRefuse : Prop :=
  (∀ (s : State) (p : Port) (f : Frame),
      let size := 3 ≤ f.count ∧ f.count ≤ 24 ∧ (f.bytes.getD 0 0xFF).toNat + 1 = f.count
      let check := crc8 f.bytes.dropLast = f.bytes.getLastD 0
      (¬ size → s.refusal p f = some .badLength)
        ∧ (size → ¬ check → s.refusal p f = some .checkError)
        ∧ (size → check → f.command = none → s.refusal p f = some .unknownCommand)
        ∧ ∀ c, size → check → f.command = some c →
            (c.wrongLength f = true → s.refusal p f = some .badLength)
              ∧ (c.wrongLength f = false →
                  (s.ready = false → c ≠ .identify → s.refusal p f = some .starting)
                    ∧ (s.ready = true ∨ c = .identify →
                        (c.maxLevel < p.level → s.refusal p f = some .denied)
                          ∧ (p.level ≤ c.maxLevel →
                              (p ≠ .b ∨ c.mapped = false → s.refusal p f = none)
                                ∧ (p = .b → c.mapped = true → 4 ≤ f.arg 0 → s.refusal p f = some .badArgument)
                                ∧ (∀ z, p = .b → c.mapped = true → f.zone = some z →
                                    s.refusal p f = if s.panel.get z then none else some .denied)))))
    ∧ (
        let catalogue : List (Nat × Command × Nat × Bool × Option Nat) :=
          [(0x01, .identify, 2, false, some 2), (0x02, .getSystem, 2, false, some 2), (0x03, .readEvents, 2, false, some 2),
            (0x04, .ackEvents, 2, false, some 4), (0x05, .setEventMask, 2, false, some 4), (0x10, .getZone, 2, false, some 3),
            (0x11, .setSetpoint, 2, true, some 5), (0x12, .setMode, 2, true, some 4), (0x13, .startBoost, 2, true, some 5),
            (0x14, .cancelBoost, 2, true, some 3), (0x20, .limitPower, 1, false, some 6),
            (0x21, .deferDefrost, 1, false, some 4), (0x22, .runProgram, 1, false, some 3),
            (0x23, .abortProgram, 1, false, some 2), (0x24, .setPanelMap, 1, false, some 3), (0x25, .restart, 1, false, some 3),
            (0x26, .readTable, 1, false, none), (0x30, .writeTable, 0, false, none), (0x31, .saveTables, 0, false, some 2),
            (0x32, .serviceHold, 0, false, some 3), (0x33, .forceOutput, 0, false, some 5)]
        (∀ r ∈ catalogue, Command.ofCode r.1 = some r.2.1 ∧ r.2.1.maxLevel = r.2.2.1 ∧ r.2.1.mapped = r.2.2.2.1)
          ∧ (∀ r ∈ catalogue, ∀ (f : Frame) (n : Nat), r.2.2.2.2 = some n →
              (r.2.1.wrongLength f = true ↔ (f.bytes.getD 0 0xFF).toNat ≠ n))
          ∧ (∀ n, (∀ r ∈ catalogue, r.1 ≠ n) → Command.ofCode n = none)
          ∧ (∀ f : Frame,
              let length := (f.bytes.getD 0 0xFF).toNat
              let kind := (f.bytes.getD 2 0xFF).toNat / 32
              (f.command = match f.bytes[1]? with
                | some b => Command.ofCode b.toNat
                | none => none)
                ∧ (length < 3 → Command.readTable.wrongLength f = true ∧ Command.writeTable.wrongLength f = true)
                ∧ (3 ≤ length → 6 ≤ kind →
                    Command.readTable.wrongLength f = false ∧ Command.writeTable.wrongLength f = false)
                ∧ (3 ≤ length → kind ≤ 5 →
                    (Command.readTable.wrongLength f = true ↔ length ≠ 3)
                      ∧ (Command.writeTable.wrongLength f = true ↔ length ≠ 3 + [2, 16, 20, 9, 3, 1].getD kind 0)))
          ∧ (∀ f : Frame, f.arg 0 = (f.bytes.getD 2 0xFF).toNat ∧ f.zone = [Zone.fresh, .flex, .freezer, .ice][f.arg 0]?)
          ∧ Port.s.level = 0 ∧ Port.a.level = 1 ∧ Port.b.level = 2)
    ∧ (∀ (c : Instr) (s : State) (e : Ending) (mine : Frame → Bool) (p : Port) (f : Frame) (q : Ports) (st : Status),
        c.row = some (e, mine) → mine f = true → s.ports.taken s.clock e = some { port := p, frame := f, ports := q } →
        s.refusal p f = some st →
        exec c s = .next (State.settle (State.respond { s with ports := q } p { status := st, echo := f.echo, data := [] })))
    ∧ (∀ (s : State) (e : Ending) (p : Port) (f : Frame) (q : Ports),
        s.ports.taken s.clock e = some { port := p, frame := f, ports := q } → 3 ≤ f.count → f.count ≤ 24 →
        (f.bytes.getD 0 0xFF).toNat + 1 = f.count → crc8 f.bytes.dropLast = f.bytes.getLastD 0 → f.command = none →
        exec (.unknownCommand e) s
          = .next (State.settle (State.respond { s with ports := q } p { status := .unknownCommand, echo := f.echo, data := [] })))

/-- The reading requests change nothing but the response (R44, R158, R160). A view is that of the state before the response: GET_SYSTEM
on Port S shows the time since the last valid request before this one (log entry 30: the model's reading); the revision (log entry
15) and the views' widths (log entry 16) are the model's. What the views hold is ViewsAndLinesShowTheState.

IDENTIFY returns image version 0 until both loads have ended (R158, R170; log entry 40: the model's reading of the two rules). -/
def Obligations.ReadsReturnTheirViews : Prop :=
  ∀ (s : State) (e : Ending) (p : Port) (f : Frame) (q : Ports),
    let answered (code : Byte) (st : Status) (data : List Byte) : Host.Outcome State Fault Refusal :=
      .next (State.settle (State.respond { s with ports := q } p { status := st, echo := code, data := data }))
    (Admitted s e .identify p f q →
        exec (.identify e) s = answered 0x01 .ok
          (be16 0x0C41 ++ [Config.siliconRevision]
            ++ be16 (if s.store.imageLoaded = true ∧ s.store.settingsLoaded = true then s.store.imageVersion else 0)
            ++ [if s.ready then 1 else 0]))
      ∧ (∀ z, Admitted s e .getZone p f q → f.zone = some z → exec (.getZone e) s = answered 0x10 .ok (s.zoneView z))
      ∧ (Admitted s e .getZone p f q → 4 ≤ f.arg 0 → exec (.getZone e) s = answered 0x10 .badArgument [])
      ∧ (Admitted s e .getSystem p f q → exec (.getSystem e) s = answered 0x02 .ok s.systemView)
      ∧ (∀ k, Admitted s e .readTable p f q → TableKind.ofCode (f.arg 0 / 32) = some k → f.arg 0 % 32 < k.count →
          exec (.readTable e) s = answered 0x26 .ok (s.tables.entry k (f.arg 0 % 32)))
      ∧ (Admitted s e .readTable p f q →
          (TableKind.ofCode (f.arg 0 / 32) = none ∨ ∃ k, TableKind.ofCode (f.arg 0 / 32) = some k ∧ k.count ≤ f.arg 0 % 32) →
          exec (.readTable e) s = answered 0x26 .badArgument [])

/-- The fields of a view (R174): one byte, two bytes high byte first, seconds in four, an absent field all ones, an absent temperature
0x8000; and the codes, in the order the owning rules list the values. Which field takes one byte and which two, the codes no
rule lists in one place, and the order of the two retry timers are the model's choice (log entry 16).

The view of a zone (R44), a channel (R11), a door (R55), the arbiter (R79), the cycle controller and the drive link (R105).

The view of the actuator block (R124), of the defrost manager (R147) and of the image store (R167), and the order of GET_SYSTEM's
parts (R158), with the panel map of R156 as one byte.

Transactions on Port A and Port B (R151): only address 0x4C is answered, each byte written to it is acknowledged and received, and a
read returns the response record and then 0xFF. Log entry 25 has what stands outside the commands.

An attention line is asserted exactly while its port's event set holds a kind that its mask holds, in every state: after a raise, an
acknowledgement and a new mask too (R163, R164, R165, R166). -/
def Obligations.ViewsAndLinesShowTheState : Prop :=
  ((∀ n : Nat, v1 n = [BitVec.ofNat 8 n] ∧ v1o (some n) = [BitVec.ofNat 8 n] ∧ v2o (some n) = be16 n ∧ v4o (some n) = be32 n
        ∧ be16 n = [BitVec.ofNat 8 (n / 256), BitVec.ofNat 8 n]
        ∧ be32 n = be16 (n / 65536) ++ be16 n)
      ∧ v1o none = [0xFF] ∧ v2o none = [0xFF, 0xFF] ∧ v4o none = [0xFF, 0xFF, 0xFF, 0xFF] ∧ vTemp none = [0x80, 0x00]
      ∧ vFlag false = [0] ∧ vFlag true = [1]
      ∧ (∀ t : Int, vTemp (some t) = be16 (BitVec.ofInt 16 t).toNat)
      ∧ [Zone.fresh, .flex, .freezer, .ice].map Zone.code = [0, 1, 2, 3] ∧ [Path.upper, .lower].map Path.code = [0, 1]
      ∧ [Port.s, .a, .b].map Port.code = [0, 1, 2]
      ∧ [ChannelState.unseeded, .ok, .fault].map ChannelState.code = [0, 1, 2]
      ∧ [FaultKind.none, .short, .openLead].map FaultKind.code = [0, 1, 2]
      ∧ [AlarmState.none, .pendingWarm, .warm, .pendingCold, .cold].map AlarmState.code = [0, 1, 2, 3, 4]
      ∧ [ZoneMode.normal, .fallback, .disabled].map ZoneMode.code = [0, 1, 2]
      ∧ [Demand.idle, .calling .one, .calling .two, .calling .three].map Demand.code = [0, 1, 1, 1]
      ∧ [Demand.idle, .calling .one, .calling .two, .calling .three].map Demand.level = [0, 1, 2, 3]
      ∧ [PathState.available, .blocked, .faulted, .locked].map PathState.code = [0, 1, 2, 3]
      ∧ [CycleState.off, .starting, .running, .transfer, .stopping].map CycleState.code = [0, 1, 2, 3, 4]
      ∧ [StartPhase.valve, .run].map StartPhase.code = [0, 1] ∧ [LinkState.unknown, .up, .lost].map LinkState.code = [0, 1, 2]
      ∧ [DriveState.stopped, .running, .fault].map DriveState.code = [0, 1, 2]
      ∧ [DriveFaultCause.reported, .startFailure, .runaway, .stall].map DriveFaultCause.code = [0, 1, 2, 3]
      ∧ [CondenserFault.none, .faulted, .retry].map CondenserFault.code = [0, 1, 2]
      ∧ [FanDelay.disarmed, .armed, .active].map FanDelay.code = [0, 1, 2]
      ∧ [Motion.idle, .moving, .homing].map Motion.code = [0, 1, 2]
      ∧ [ManagerState.idle, .due, .running, .exiting, .holdoff].map ManagerState.code = [0, 1, 2, 3, 4]
      ∧ [RunKind.automatic, .manual].map RunKind.code = [0, 1]
      ∧ [EndCause.condition, .timeout, .time].map EndCause.code = [0, 1, 2]
      ∧ [ProgramOutcome.completed, .aborted, .cancelled].map ProgramOutcome.code = [0, 1, 2]
      ∧ [ImageState.builtIn, .accepted].map ImageState.code = [0, 1] ∧ [SettingsState.defaults, .loaded].map SettingsState.code = [0, 1]
      ∧ [StoreFailure.loadImage, .loadSettings, .saveSettings, .saveTables].map StoreFailure.code = [0, 1, 2, 3]
      ∧ (∀ d n, [Valve.standing .upper, .standing .lower, .moving .upper d n, .moving .lower d n].map Valve.code = [0, 1, 2, 3]))
    ∧ (∀ s : State,
        let entries (l : List Entry) : List Byte := v1 l.length ++ l.flatMap fun e =>
          v1 e.zone.code ++ v1 e.pathSet.code ++ v1 e.level.code ++ be32 (s.now - e.time)
        let path (r : PathRecord) : List Byte := v1 r.state.code ++ v1 r.count ++ v4o r.timer
        (∀ z : Zone,
            let r := s.zones.get z
            let c := s.channels.get z.channel
            s.zoneView z
                = v1 r.preset ++ beInt16 r.setpoint ++ v1 r.mode.code ++ vTemp (r.estimate.map fun e => (e + 8).fdiv 16)
                  ++ v1o r.band ++ v1 r.demand.code ++ v1 r.demand.level ++ vFlag r.heat ++ v1 r.alarm.code
                  ++ be32 r.alarmTimer ++ vFlag r.boost.isSome ++ v1o (r.boost.map fun b => b.port.code)
                  ++ v4o (r.boost.map fun b => b.expiry - s.now) ++ vFlag r.doorHold.isSome
                  ++ v4o (r.doorHold.map fun n => n / 100) ++ v1 c.state.code ++ v1 c.faultKind.code
              ∧ (s.zoneView z).length = 28)
          ∧ (∀ c : ChannelRecord, c.view = v1 c.state.code ++ v1 c.faultKind.code ++ v2o c.lastCode ++ vTemp c.temperature)
          ∧ (∀ d : DoorRecord, d.view
              = vFlag d.openAge.isSome ++ v4o (d.openAge.map fun n => n / 100) ++ vFlag d.longReported ++ vFlag d.lapsed)
          ∧ s.arbiterView
              = entries s.arb.queue ++ entries s.arb.served ++ path s.arb.paths.upper ++ path s.arb.paths.lower
                ++ v1o (s.arb.turnPath.map Path.code) ++ vFlag s.arb.holdover ++ vFlag s.arb.yieldDue
          ∧ s.cycleView
              = v1 s.cyc.state.code ++ v1o (s.cyc.path.map Path.code) ++ v1o (s.cyc.phase.map StartPhase.code)
                ++ be16 s.cyc.speed ++ v2o s.cyc.target ++ v4o s.cyc.turnTimer ++ v4o s.cyc.onTimer ++ vFlag s.arb.holdover
                ++ be32 (s.cyc.lastStop + 180 - s.now) ++ v2o (s.cap.power.map (·.rpm))
                ++ v4o (s.cap.power.map fun c => c.expiry - s.now) ++ vFlag s.cap.condenser ++ v1 s.link.state.code
                ++ v1o (s.link.lastStatus.map fun r => r.state.code) ++ v2o (s.link.lastStatus.map (·.units))
                ++ v1o (s.link.lastStatus.map (·.code))
                ++ v1 s.flt.times.length ++ s.flt.times.flatMap (fun t => be32 (s.now - t))
                ++ be32 (s.flt.waitEnd.getD 0 - s.now) ++ vFlag s.flt.lockout.isSome
                ++ v4o (s.flt.lockout.map fun t => s.now - t)
                ++ v1o (s.flt.last.map fun x => x.1.code) ++ v1o (s.flt.last.map (·.2)))
    ∧ (∀ s : State,
        let fan (f : FanRecord) : List Byte := v1 f.duty ++ be16 f.tach ++ v1 f.low
        let damper (d : DamperRecord) : List Byte := v2o d.position ++ be16 d.target ++ v1 d.motion.code
        let h := s.act.lowerHeater
        let x := s.act.flexHeater
        s.actuatorView
            = fan s.act.fans.upper ++ fan s.act.fans.lower ++ fan s.act.fans.condenser ++ v1 s.act.condenserFault.code
              ++ v4o s.act.retry ++ vFlag s.act.afterRun.isSome ++ v4o s.act.afterRun ++ v1 s.act.fanDelay.code
              ++ damper s.act.dampers.flexLower ++ damper s.act.dampers.flexUpper ++ damper s.act.dampers.ice
              ++ v1 s.act.valve.code
              ++ (vFlag h.requested ++ vFlag h.output ++ vFlag s.interlocked ++ vFlag h.limited ++ vFlag false ++ be32 h.onTime
                  ++ v4o none)
              ++ (vFlag x.requested ++ vFlag x.output ++ vFlag false ++ vFlag false ++ vFlag x.rest.isSome ++ be32 x.onTime
                  ++ v4o x.rest)
              ++ vFlag s.act.forced.isSome ++ be32 (s.now - s.act.lastValidS)
              ++ ((s.act.forced.map fun g => be16 g.speed ++ v1 g.valve.code ++ v1 g.fans.upper ++ v1 g.fans.lower
                    ++ v1 g.fans.condenser ++ vFlag g.dampers.flexLower ++ vFlag g.dampers.flexUpper ++ vFlag g.dampers.ice
                    ++ vFlag g.lowerHeater ++ vFlag g.flexHeater).getD [])
          ∧ s.managerView
            = v1 s.mgr.state.code ++ v1o s.mgr.program ++ v1o (s.mgr.kind.map RunKind.code)
              ++ (if s.mgr.state = .due then
                    be32 (s.now - s.mgr.dueMoment.getD s.now) ++ be32 (s.mgr.deferralEnd.getD 0 - s.now)
                    ++ be32 ((s.mgr.waitStart.map fun w => w + 1800 - s.now).getD 0) ++ vFlag s.mgr.releaseAsked
                  else if s.mgr.state = .running ∨ s.mgr.state = .exiting then v1o s.mgr.step ++ v4o s.mgr.stepTimer
                  else if s.mgr.state = .holdoff then be32 (s.mgr.holdoffEnd.getD 0 - s.now)
                  else [])
              ++ be16 s.acct.accumulator ++ be16 s.acct.interval ++ be32 s.acct.age
              ++ v4o (s.mgr.deferralEnd.map fun t => t - s.now) ++ v1 s.tables.doorWeight ++ v1 s.tables.autoProgram
              ++ v1o (s.mgr.lastMeasurement.map (·.1)) ++ v4o (s.mgr.lastMeasurement.map fun m => m.2.elapsed)
              ++ v1o (s.mgr.lastMeasurement.map fun m => m.2.cause.code)
              ++ v1o (s.mgr.lastOutcome.map (·.1)) ++ v1o (s.mgr.lastOutcome.map fun o => o.2.1.code)
              ++ v4o (s.mgr.lastOutcome.map fun o => s.now - o.2.2)
          ∧ (∀ r : StoreRecord, r.view
              = v1 r.imageState.code ++ be16 r.imageVersion ++ v1 r.settingsState.code
                ++ v1 ((r.job.map fun j => if j.kind = .settings then 1 else 2).getD 0)
                ++ v4o r.settingsRetry ++ v4o r.tablesRetry ++ v1o (r.lastFailure.map StoreFailure.code))
          ∧ s.systemView
            = s.arbiterView ++ s.cycleView ++ s.actuatorView ++ s.managerView
              ++ ([s.channels.ch0, s.channels.ch1, s.channels.ch2, s.channels.ch3, s.channels.ch4, s.channels.ch5,
                    s.channels.ch6].flatMap ChannelRecord.view)
              ++ ([s.doors.leftFresh, s.doors.rightFresh, s.doors.flexDrawer, s.doors.freezerDrawer].flatMap DoorRecord.view)
              ++ [BitVec.ofNat 8 ((if s.panel.fresh then 1 else 0) + (if s.panel.flex then 2 else 0)
                    + (if s.panel.freezer then 4 else 0) + (if s.panel.ice then 8 else 0))]
              ++ s.store.view)
    ∧ ((∀ (s : State) (x : I2cPort) (k : Nat),
          let r := (s.answer x.port).bytes
          (k < r.length → r[k]? = some (s.readByte x k)) ∧ (r.length ≤ k → s.readByte x k = 0xFF)
            ∧ r.length = (s.answer x.port).data.length + 5)
        ∧ (∀ (s : State) (x : I2cPort) (n k : Nat) (a : BitVec 7),
            (a ≠ 0x4C → s.readTransaction x a n = none)
              ∧ ∃ l, s.readTransaction x 0x4C n = some l ∧ l.length = n ∧ (k < n → l[k]? = some (s.readByte x k)))
        ∧ (∀ (x : I2cPort) (a : BitVec 7) (w : List Byte),
            acknowledges 0x4C w = List.replicate (w.length + 1) true ∧ writtenBytes x 0x4C w = w.map (Instr.writeTransactionByte x)
              ∧ (a ≠ 0x4C → acknowledges a w = List.replicate (w.length + 1) false ∧ writtenBytes x a w = []))
        ∧ (∀ w : List Byte, w ≠ [] → w.foldl I2cReceive.take .idle = .writing w.length (w.take 24))
        ∧ ∀ (s : State) (e : Ending) (x : I2cPort) (f : Frame) (q : Ports) (z : Zone) (k : Nat),
            Admitted s e .getZone x.port f q → f.zone = some z → k < 28 →
            ∃ t, exec (.getZone e) s = .next t ∧ (s.zoneView z)[k]? = some (t.readByte x (4 + k)))
    ∧ (∀ (s : State) (x : I2cPort),
        let r := s.events.get x.port
        (s.attn x = true ↔ ∃ k, holdsKind r.set k = true ∧ holdsKind r.mask k = true)
          ∧ (∀ k, (s.raise k).attn x = (s.attn x || holdsKind r.mask k))
          ∧ (∀ p, (s.raiseSettingsChanged p).attn x = (s.attn x || (decide (x.port ≠ p) && holdsKind r.mask .settingsChanged)))
          ∧ (∀ kinds, (s.acknowledge x.port kinds).attn x = true ↔
              ∃ k, holdsKind r.set k = true ∧ holdsKind kinds k = false ∧ holdsKind r.mask k = true)
          ∧ (∀ mask, (s.setMask x.port mask).attn x = true ↔ ∃ k, holdsKind r.set k = true ∧ holdsKind mask k = true)
          ∧ (∀ p w, p ≠ x.port → (s.acknowledge p w).attn x = s.attn x ∧ (s.setMask p w).attn x = s.attn x)
          ∧ State.reset.attn x = false)

/-- R164: READ_EVENTS returns the requesting port's set and mask and removes nothing; ACK_EVENTS removes the named kinds from that
port's set, whatever it names, and touches no other port's; a kind raised after it stands again; no port lacks the level, and before
start-up both are answered STARTING. -/
def Obligations.AcknowledgeRemovesOwnKinds : Prop :=
  (∀ (s : State) (e : Ending) (p : Port) (f : Frame) (q : Ports), Admitted s e .readEvents p f q →
      exec (.readEvents e) s = .next (State.settle (State.respond { s with ports := q } p
        { status := .ok, echo := 0x03, data := be16 (s.events.get p).set.toNat ++ be16 (s.events.get p).mask.toNat })))
    ∧ (∀ (s : State) (e : Ending) (p : Port) (f : Frame) (q : Ports), Admitted s e .ackEvents p f q →
        ∃ t, exec (.ackEvents e) s = .next t
          ∧ t = State.settle (State.respond { s with ports := q, events := t.events } p { status := .ok, echo := 0x04, data := [] })
          ∧ (∀ k, holdsKind (t.events.get p).set k
              = (holdsKind (s.events.get p).set k && !(BitVec.ofNat 16 (f.arg16 0)).getLsbD k.bit))
          ∧ (t.events.get p).mask = (s.events.get p).mask
          ∧ (∀ r, r ≠ p → t.events.get r = s.events.get r)
          ∧ ∀ k, holdsKind ((t.raise k).events.get p).set k = true)
    ∧ ∀ (s : State) (p : Port) (f : Frame), f.command = some .readEvents ∨ f.command = some .ackEvents →
        s.refusal p f ≠ some .denied
          ∧ (s.ready = false → s.refusal p f = some .badLength ∨ s.refusal p f = some .checkError ∨ s.refusal p f = some .starting)

/-- R165: SET_EVENT_MASK replaces the requesting port's enable mask, changes no event set and no other port's mask, and the attention
lines follow at once; a kind that a mask lacks goes on being collected; no port lacks the level. -/
def Obligations.MaskIsReplaced : Prop :=
  (∀ (s : State) (e : Ending) (p : Port) (f : Frame) (q : Ports), Admitted s e .setEventMask p f q →
      ∃ t, exec (.setEventMask e) s = .next t
        ∧ t = State.settle (State.respond { s with ports := q, events := t.events } p { status := .ok, echo := 0x05, data := [] })
        ∧ (t.events.get p).mask = BitVec.ofNat 16 (f.arg16 0)
        ∧ (∀ r, (t.events.get r).set = (s.events.get r).set)
        ∧ (∀ r, r ≠ p → (t.events.get r).mask = (s.events.get r).mask)
        ∧ (∀ x : I2cPort, t.attn x = decide ((t.events.get x.port).set &&& (t.events.get x.port).mask ≠ 0))
        ∧ ∀ r k, holdsKind ((t.raise k).events.get r).set k = true)
    ∧ ∀ (s : State) (p : Port) (f : Frame), f.command = some .setEventMask → s.refusal p f ≠ some .denied

/-- SET_SETPOINT clamps into the preset's range; a change marks the settings dirty and tells the two other ports (R41, R43, R171).

SET_PANEL_MAP replaces the map; a change marks the settings dirty and tells the two other ports (R156). -/
def Obligations.SetpointAndPanelMapAreStored : Prop :=
  (∀ (s : State) (e : Ending) (p : Port) (f : Frame) (q : Ports), Admitted s e .setSetpoint p f q →
      let asked := f.argInt 1
      (4 ≤ f.arg 0 →
          exec (.setSetpoint e) s
            = .next (State.settle (State.respond { s with ports := q } p { status := .badArgument, echo := 0x11, data := [] })))
        ∧ ∀ z, f.zone = some z → (s.tablePreset z).minSetpoint ≤ (s.tablePreset z).maxSetpoint →
            let v := max (s.tablePreset z).minSetpoint (min (s.tablePreset z).maxSetpoint asked)
            ∃ t, exec (.setSetpoint e) s = .next t
              ∧ t = State.settle (State.respond
                  { s with
                    ports := q, zones := s.zones.set z { s.zones.get z with setpoint := v }, events := t.events,
                    store := if (s.zones.get z).setpoint = v then s.store
                      else { s.store with dirty := true, quiet := some 30 } } p
                  { status := if v = asked then .ok else .okClamped, echo := 0x11, data := beInt16 v })
              ∧ (∀ r, (t.events.get r).mask = (s.events.get r).mask)
              ∧ ∀ r k, holdsKind (t.events.get r).set k
                  = (holdsKind (s.events.get r).set k
                      || (decide (k = .settingsChanged) && decide (r ≠ p) && decide ((s.zones.get z).setpoint ≠ v))))
    ∧ (∀ (s : State) (e : Ending) (p : Port) (f : Frame) (q : Ports), Admitted s e .setPanelMap p f q →
        let b : Byte := BitVec.ofNat 8 (f.arg 0)
        let map : PerZone Bool := { fresh := b.getLsbD 0, flex := b.getLsbD 1, freezer := b.getLsbD 2, ice := b.getLsbD 3 }
        ∃ t, exec (.setPanelMap e) s = .next t
          ∧ t = State.settle (State.respond
              { s with
                ports := q, panel := map, events := t.events,
                store := if map = s.panel then s.store else { s.store with dirty := true, quiet := some 30 } } p
              { status := .ok, echo := 0x24, data := [] })
          ∧ ∀ r k, holdsKind (t.events.get r).set k
              = (holdsKind (s.events.get r).set k
                  || (decide (k = .settingsChanged) && decide (r ≠ p) && decide (map ≠ s.panel))))

/-- SET_MODE flushes the zone at once, hands the arbiter its leave where it was CALLING, and is refused for a preset that lacks the
zone (R28, R42, R43). -/
def Obligations.ModeChangeFlushesTheZone : Prop :=
  ∀ (s : State) (e : Ending) (p : Port) (f : Frame) (q : Ports), Admitted s e .setMode p f q →
    (4 ≤ f.arg 0 →
        exec (.setMode e) s
          = .next (State.settle (State.respond { s with ports := q } p { status := .badArgument, echo := 0x12, data := [] })))
      ∧ ∀ z, f.zone = some z →
          let i := f.arg 1
          let d := (s.tables.preset i).defaultSetpoint
          (16 ≤ i ∨ (s.tables.preset i).mask.get z = false →
              exec (.setMode e) s = .next (State.settle (State.respond { s with ports := q } p
                { status := .badArgument, echo := 0x12, data := [] })))
            ∧ (i < 16 → (s.tables.preset i).mask.get z = true → i = (s.zones.get z).preset →
                exec (.setMode e) s = .next (State.settle (State.respond { s with ports := q } p
                  { status := .ok, echo := 0x12, data := beInt16 (s.zones.get z).setpoint })))
            ∧ (i < 16 → (s.tables.preset i).mask.get z = true → i ≠ (s.zones.get z).preset →
                let flushed : State := { s with
                  ports := q,
                  zones := s.zones.set z { s.zones.get z with
                    demand := .idle, heat := false, alarm := .none, alarmTimer := 0, boost := none, preset := i,
                    setpoint := d, band := none, kept := none } }
                ∃ t, exec (.setMode e) s = .next t
                  ∧ exec (.setMode e) s
                      = s.finish (State.respond
                          ((flushed.demandChanged z (s.zones.get z).demand .idle (s.presetOf z).pathSet).settingsChanged p) p
                          { status := .ok, echo := 0x12, data := beInt16 d })
                  ∧ t.answer p = { status := .ok, echo := 0x12, data := beInt16 d }
                  ∧ t.zones = flushed.zones
                  ∧ ((s.zones.get z).demand ≠ .idle → ∀ x ∈ t.arb.queue ++ t.arb.served, x.zone ≠ z)
                  ∧ ((s.zones.get z).demand = .idle → t.arb = s.arb ∧ t.cyc = s.cyc)
                  ∧ t.store = { s.store with dirty := true, quiet := some 30 }
                  ∧ (∀ r, r ≠ p → holdsKind (t.events.get r).set .settingsChanged = true)
                  ∧ holdsKind (t.events.get p).set .settingsChanged = holdsKind (s.events.get p).set .settingsChanged
                  ∧ holdsKind (t.events.get p).set .zoneAlarm = holdsKind (s.events.get p).set .zoneAlarm
                  ∧ holdsKind (t.events.get p).set .boostEnd = holdsKind (s.events.get p).set .boostEnd
                  ∧ t.channels = s.channels ∧ t.doors = s.doors ∧ t.tables = s.tables ∧ t.acct = s.acct)

/-- DEFER_DEFROST replaces the deferral end within its limit (R130), and leaves release asked as it stands where the manager returns to
the deferral wait (log entry 27: the model's reading); RUN_PROGRAM makes a manual run due (R146).

ABORT_PROGRAM sends a program in RUNNING to its exit chain, and is refused elsewhere (R143). -/
def Obligations.DeferralsManualRunsAndAborts : Prop :=
  (∀ (s : State) (e : Ending) (p : Port) (f : Frame) (q : Ports),
      (Admitted s e .deferDefrost p f q →
          let minutes := max 1 (min 240 (f.arg16 0))
          let base := if s.mgr.state = .due ∧ s.mgr.kind = some .automatic then s.mgr.dueMoment.getD s.now else s.now
          let ends := min (s.now + 60 * minutes) (base + 14400)
          exec (.deferDefrost e) s = .next (State.settle (State.respond
            { s with
              ports := q,
              mgr := { s.mgr with
                deferralEnd := some ends,
                waitStart :=
                  if s.mgr.state = .due ∧ s.mgr.kind = some .automatic ∧ s.now < ends then none else s.mgr.waitStart } } p
            { status := if minutes = f.arg16 0 ∧ ends = s.now + 60 * minutes then .ok else .okClamped, echo := 0x21,
              data := be32 (ends - s.now) })))
        ∧ (Admitted s e .runProgram p f q →
            let i := f.arg 0
            let answered (st : Status) : Host.Outcome State Fault Refusal :=
              .next (State.settle (State.respond { s with ports := q } p { status := st, echo := 0x22, data := [] }))
            (8 ≤ i ∨ (s.tables.program i).valid = false → exec (.runProgram e) s = answered .badArgument)
              ∧ (i < 8 → (s.tables.program i).valid = true → s.mgr.state ≠ .idle ∨ s.act.forced ≠ none →
                  exec (.runProgram e) s = answered .busy)
              ∧ (i < 8 → (s.tables.program i).valid = true → s.mgr.state = .idle → s.act.forced = none →
                  ∃ t, exec (.runProgram e) s = .next t
                    ∧ t.answer p = { status := .ok, echo := 0x22, data := [] }
                    ∧ t.mgr.program = some i ∧ t.mgr.kind = some .manual ∧ t.mgr.deferralEnd = s.mgr.deferralEnd
                    ∧ (s.beginCondition (s.tables.program i).path = false →
                        t.mgr.state = .due ∧ t.mgr.dueMoment = some s.now ∧ t.mgr.waitStart = some s.now
                          ∧ t.mgr.releaseAsked = false)
                    ∧ (s.beginCondition (s.tables.program i).path = true →
                        t.mgr.state = .running ∧ t.mgr.step = some (s.tables.program i).head ∧ t.mgr.stepTimer = some 0)
                    ∧ t.cyc = s.cyc ∧ t.acct = s.acct)))
    ∧ (∀ (s : State) (e : Ending) (p : Port) (f : Frame) (q : Ports), Admitted s e .abortProgram p f q →
        let answered (u : State) (st : Status) : Host.Outcome State Fault Refusal :=
          .next (State.settle (State.respond { u with ports := q } p { status := st, echo := 0x23, data := [] }))
        (∀ i, s.mgr.state = .running → s.mgr.program = some i →
            exec (.abortProgram e) s = answered
              { s with
                mgr := { s.mgr with
                  state := .exiting, step := some (s.tables.program i).exitHead, stepTimer := some 0 } } .ok)
          ∧ (s.mgr.state = .exiting → exec (.abortProgram e) s = answered s .busy)
          ∧ (s.mgr.state = .idle ∨ s.mgr.state = .due ∨ s.mgr.state = .holdoff →
              exec (.abortProgram e) s = answered s .notRunning))

/-- A cooling restart (R46, R81, R107, R125, R145, R149, R159): what it clears and what it keeps. A program that runs or exits ends
CANCELLED with what every end hands on (R145); an active fan delay ends with the LOWER turn that the restart stops (log entry 34: the
model's reading), and any other stands. The due test at its end brings the auto-defrost program to DUE, and where the cycle is OFF and
the valve not on its way to the path at once to RUNNING (R132, R149). No other event is raised: a hold and a boost end without theirs. -/
def Obligations.CoolingRestartClearsTheBlocks : Prop :=
  ∀ (s : State) (e : Ending) (p : Port) (f : Frame) (q : Ports), Admitted s e .restart p f q →
    (f.arg 0 ≠ 1 → f.arg 0 ≠ 2 →
        exec (.coolingRestart e) s
          = .next (State.settle (State.respond { s with ports := q } p { status := .badArgument, echo := 0x25, data := [] })))
      ∧ (f.arg 0 = 1 →
          ∃ t, exec (.coolingRestart e) s = .next t
            ∧ t.answer p = { status := .ok, echo := 0x25, data := [] }
            ∧ (∀ z, t.zones.get z = { s.zones.get z with
                demand := .idle, heat := false, boost := none, alarm := .none, alarmTimer := 0 })
            ∧ t.arb.queue = [] ∧ t.arb.served = [] ∧ t.arb.turnPath = none ∧ t.arb.holdover = false
            ∧ t.arb.yieldDue = false
            ∧ (∀ x, (t.arb.paths.get x).fault = .none ∧ (t.arb.paths.get x).count = 0 ∧ (t.arb.paths.get x).timer = none)
            ∧ (s.cyc.state = .off → t.cyc = s.cyc) ∧ (s.cyc.state = .stopping → t.cyc = s.cyc)
            ∧ (s.cyc.state = .running ∨ s.cyc.state = .transfer ∨ (s.cyc.state = .starting ∧ s.cyc.phase = some .run) →
                t.cyc.state = .stopping ∧ t.cyc.runFlag = false ∧ t.cyc.lastStop = s.cyc.lastStop)
            ∧ (s.cyc.state = .starting → s.cyc.phase = some .valve →
                t.cyc.state = .off ∧ t.cyc.lastStop = s.cyc.lastStop)
            ∧ t.flt.times = [] ∧ t.flt.lockout = none ∧ t.flt.waitEnd = s.flt.waitEnd ∧ t.flt.last = s.flt.last
            ∧ t.flt.runaway = s.flt.runaway
            ∧ t.cap = { s.cap with power := none } ∧ t.link = s.link
            ∧ t.act.forced = none ∧ t.act.afterRun = none ∧ t.act.lowerHeater.limited = false
            ∧ t.act.flexHeater.rest = none ∧ t.act.condenserFault = s.act.condenserFault ∧ t.act.retry = s.act.retry
            ∧ t.act.valve = s.act.valve
            ∧ t.acct = s.acct
            ∧ (
                let ended : Bool := s.runningProgram.isSome
                let endedLower : Bool := s.runningProgram.any fun g => decide (g.path = .lower)
                let g := s.tables.program s.tables.autoProgram
                let clear : Bool := match s.act.valve with
                  | .standing _ => true
                  | .moving x _ _ => decide (x ≠ g.path)
                let due : Bool := decide (s.acct.interval ≤ s.acct.accumulator) || decide (259200 ≤ s.acct.age)
                let begins : Bool := due && decide (t.cyc.state = .off) && clear
                let rest : Manager := { s.mgr with
                  state := .idle, program := none, kind := none, step := none, stepTimer := none, dueMoment := none,
                  waitStart := none, releaseAsked := false, holdoffEnd := none, deferralEnd := none,
                  lastOutcome := if ended then s.mgr.program.map (fun i => (i, .cancelled, s.now)) else s.mgr.lastOutcome }
                (due = false → t.mgr = rest)
                  ∧ (due = true → begins = false →
                      t.mgr = { rest with
                        state := .due, program := some s.tables.autoProgram, kind := some .automatic,
                        dueMoment := some s.now, waitStart := some s.now })
                  ∧ (begins = true →
                      t.mgr = { rest with
                        state := .running, program := some s.tables.autoProgram, kind := some .automatic,
                        runMeasurement := none, step := some g.head, stepTimer := some 0 })
                  ∧ (∀ x, (t.arb.paths.get x).blocked = (begins && decide (x = g.path)))
                  ∧ t.arb.compressorHold = (begins && g.compressorOff)
                  ∧ t.window = (if begins = true ∧ g.path = .lower then .running
                      else if endedLower then .closing (s.now + 1800) else s.window)
                  ∧ t.act.fanDelay = (if endedLower then .armed
                      else if s.cyc.state = .running ∧ s.cyc.path = some .lower ∧ s.act.fanDelay = .active then .disarmed
                      else s.act.fanDelay)
                  ∧ (begins = false → t.act.lowerHeater.output = false) ∧ t.act.flexHeater.output = false
                  ∧ ∀ x k, holdsKind (t.events.get x).set k
                      = (holdsKind (s.events.get x).set k || (decide (k = .defrostEnd) && ended)
                          || (decide (k = .defrostBegin) && begins)))
            ∧ t.channels = s.channels ∧ t.doors = s.doors ∧ t.panel = s.panel ∧ t.store = s.store ∧ t.tables = s.tables)

/-! ## Tables and saves -/

/-- The table writes of the conversion table, the presets and the ladders: what is refused, and what an accepted write changes (R6,
R19, R22, R43). -/
def Obligations.SensorAndZoneTableWrites : Prop :=
  ∀ (s : State) (e : Ending) (p : Port) (f : Frame) (q : Ports), Admitted s e .writeTable p f q →
    let i := f.arg 0 % 32
    let answered (u : State) (st : Status) : Host.Outcome State Fault Refusal :=
      .next (State.settle (State.respond { u with ports := q } p { status := st, echo := 0x30, data := [] }))
    (f.arg 0 / 32 = 0 →
        let v := int16At (areaAt f.bytes 3 2) 0
        let fits := i ≤ 16 ∧ -1000 ≤ v ∧ v ≤ 1000 ∧ (i = 0 ∨ v ≤ s.tables.conv.getD (i - 1) 0)
          ∧ (i = 16 ∨ s.tables.conv.getD (i + 1) 0 ≤ v)
        (fits → exec (.writeTableConversion e) s
            = answered { s with tables := { s.tables with conv := s.tables.conv.set i v } } .ok)
          ∧ (¬ fits → exec (.writeTableConversion e) s = answered s .badArgument))
      ∧ (f.arg 0 / 32 = 1 →
          (Preset.read (areaAt f.bytes 3 16) = none ∨ 16 ≤ i → exec (.writeTablePreset e) s = answered s .badArgument)
            ∧ ∀ r, Preset.read (areaAt f.bytes 3 16) = some r → i < 16 →
                ((∃ z, (s.zones.get z).preset = i ∧ r.mask.get z = false) →
                    exec (.writeTablePreset e) s = answered s .badArgument)
                  ∧ ((∀ z, (s.zones.get z).preset = i → r.mask.get z = true) →
                      let put (z : Zone) : Int := max r.minSetpoint (min r.maxSetpoint (s.zones.get z).setpoint)
                      let moved := ∃ z, (s.zones.get z).preset = i ∧ put z ≠ (s.zones.get z).setpoint
                      ∃ t, exec (.writeTablePreset e) s = .next t
                        ∧ (∀ z, (s.zones.get z).preset = i →
                            t.zones.get z = { s.zones.get z with
                              setpoint := put z, kept := some (s.presetOf z, s.ladderOf z) })
                        ∧ (∀ z, (s.zones.get z).preset ≠ i → t.zones.get z = s.zones.get z)
                        ∧ (moved → t.store = { s.store with dirty := true, quiet := some 30 }
                            ∧ ∀ x, x ≠ p → holdsKind (t.events.get x).set .settingsChanged = true)
                        ∧ (¬ moved → t.store = s.store ∧ t.events = s.events)
                        ∧ t = State.settle (State.respond
                            { s with
                              ports := q, zones := t.zones, store := t.store, events := t.events,
                              tables := { s.tables with presets := s.tables.presets.set i r } } p
                            { status := .ok, echo := 0x30, data := [] })))
      ∧ (f.arg 0 / 32 = 2 →
          (Ladder.read (areaAt f.bytes 3 20) = none ∨ 12 ≤ i → exec (.writeTableLadder e) s = answered s .badArgument)
            ∧ ∀ l, Ladder.read (areaAt f.bytes 3 20) = some l → i < 12 →
                ∃ t, exec (.writeTableLadder e) s = .next t
                  ∧ (∀ z, (s.tablePreset z).ladder = i →
                      t.zones.get z = { s.zones.get z with kept := some (s.presetOf z, s.ladderOf z) })
                  ∧ (∀ z, (s.tablePreset z).ladder ≠ i → t.zones.get z = s.zones.get z)
                  ∧ t = State.settle (State.respond
                      { s with
                        ports := q, zones := t.zones,
                        tables := { s.tables with ladders := s.tables.ladders.set i l } } p
                      { status := .ok, echo := 0x30, data := [] }))

/-- The table writes of the defrost manager and of the global parameters, in the order of the checks of R137: domain, busy,
auto-defrost program, chains (R134, R136, R160). A step is in use where a chain of the program that runs reaches it within 16 steps,
and the chains are valid where both chains of every valid program are.

A chain is valid exactly where a list of at most 16 steps leads from the head to a step with LAST, each step's successor the one it
names, none twice, and each naming only the actuators its path owns (R134, R136). -/
def Obligations.ProgramTableWrites : Prop :=
  (∀ (s : State) (e : Ending) (p : Port) (f : Frame) (q : Ports), Admitted s e .writeTable p f q →
      let i := f.arg 0 % 32
      let answered (u : State) (st : Status) : Host.Outcome State Fault Refusal :=
        .next (State.settle (State.respond { u with ports := q } p { status := st, echo := 0x30, data := [] }))
      (f.arg 0 / 32 = 3 →
          (Step.read (areaAt f.bytes 3 9) = none → exec (.writeTableStep e) s = answered s .badArgument)
            ∧ ∀ st, Step.read (areaAt f.bytes 3 9) = some st →
                let t : Tables := { s.tables with steps := s.tables.steps.set i st }
                let busy := ∃ g, s.runningProgram = some g ∧ g.usesStep s.tables.steps i = true
                (busy → exec (.writeTableStep e) s = answered s .busy)
                  ∧ (¬ busy → t.chainsValid = false → exec (.writeTableStep e) s = answered s .invalidChain)
                  ∧ (¬ busy → t.chainsValid = true → exec (.writeTableStep e) s = answered { s with tables := t } .ok))
        ∧ (f.arg 0 / 32 = 4 →
            (Program.read (areaAt f.bytes 3 3) = none ∨ 8 ≤ i → exec (.writeTableProgram e) s = answered s .badArgument)
              ∧ ∀ g, Program.read (areaAt f.bytes 3 3) = some g → i < 8 →
                  let busy := (s.mgr.state = .due ∨ s.mgr.state = .running ∨ s.mgr.state = .exiting) ∧ s.mgr.program = some i
                  let loses := i = s.tables.autoProgram ∧ (g.valid = false ∨ g.path = .upper)
                  let broken := g.valid = true ∧ ¬ (chainValid s.tables.steps g.path g.head = true
                    ∧ chainValid s.tables.steps g.path g.exitHead = true)
                  (busy → exec (.writeTableProgram e) s = answered s .busy)
                    ∧ (¬ busy → loses → exec (.writeTableProgram e) s = answered s .badArgument)
                    ∧ (¬ busy → ¬ loses → broken → exec (.writeTableProgram e) s = answered s .invalidChain)
                    ∧ (¬ busy → ¬ loses → ¬ broken →
                        exec (.writeTableProgram e) s
                          = answered { s with tables := { s.tables with programs := s.tables.programs.set i g } } .ok))
        ∧ (f.arg 0 / 32 = 5 →
            let v := (f.bytes.getD 3 0xFF).toNat
            (i = 0 → v ≤ 40 →
                exec (.writeTableGlobal e) s = answered { s with tables := { s.tables with ambientGain := v } } .ok)
              ∧ (i = 1 → v ≤ 15 →
                  exec (.writeTableGlobal e) s = answered { s with tables := { s.tables with doorWeight := v } } .ok)
              ∧ (i = 2 → v ≤ 7 → (s.tables.program v).valid = true → (s.tables.program v).path = .lower →
                  exec (.writeTableGlobal e) s = answered { s with tables := { s.tables with autoProgram := v } } .ok)
              ∧ (3 ≤ i ∨ (i = 0 ∧ 40 < v) ∨ (i = 1 ∧ 15 < v)
                  ∨ (i = 2 ∧ (7 < v ∨ (s.tables.program v).valid = false ∨ (s.tables.program v).path = .upper)) →
                  exec (.writeTableGlobal e) s = answered s .badArgument))
        ∧ (6 ≤ f.arg 0 / 32 → exec (.writeTableGlobal e) s = answered s .badArgument)
        ∧ (∀ t : Tables, t.chainsValid = true ↔ ∀ g ∈ t.programs, g.valid = true →
            chainValid t.steps g.path g.head = true ∧ chainValid t.steps g.path g.exitHead = true)
        ∧ (∀ (steps : List Step) (g : Program) (k : Nat), g.usesStep steps k = true ↔
            ∃ l : List Nat, (l[0]? = some g.head ∨ l[0]? = some g.exitHead) ∧ l.length ≤ 16 ∧ l.getLast? = some k
              ∧ steps[k]?.isSome = true
              ∧ ∀ n i j, l[n]? = some i → l[n + 1]? = some j →
                  ∃ st, steps[i]? = some st ∧ st.last = false ∧ st.next = j)
        ∧ (∀ (steps : List Step) (path : Path) (head : Nat) (st : Step), steps[head]? = some st → st.last = true →
            (chainValid steps path head = true ↔ if path = .lower then st.upperFan = false else st.heater = false ∧ st.lowerFan = false)))
    ∧ (∀ (steps : List Step) (path : Path) (head : Nat),
        chainValid steps path head = true ↔
          ∃ l : List Nat, l[0]? = some head ∧ l.length ≤ 16 ∧ l.Nodup
            ∧ ∀ k i, l[k]? = some i → ∃ st, steps[i]? = some st
                ∧ (path = .lower → st.upperFan = false) ∧ (path = .upper → st.heater = false ∧ st.lowerFan = false)
                ∧ (st.last = true ↔ k + 1 = l.length) ∧ (st.last = false → l[k + 1]? = some st.next))

/-- SAVE_TABLES, the quiet timer, the hourly mark and the retry timers begin a save, or leave it to wait (R161, R171, R172, R173).

Each page is sent by a write enable and a page program, and checked by a status read and a read-back (R167, R172). One that reads back
right leads to the next page or to the end of the save; one that does not, or whose busy bit stays set for 50 ms, abandons the save with
STORE and 600 s to the retry (R172, R173).

What waits for the end of a save begins there: a table save whose retry expired (R173), a settings save that is due and waits for
no retry timer (R171); of two that wait together one begins and the other waits on, in an order left free (log entry 21). -/
def Obligations.SavesBeginAndEnd : Prop :=
  ((∀ (s : State) (e : Ending) (p : Port) (f : Frame) (q : Ports), Admitted s e .saveTables p f q →
        (s.store.job ≠ none →
            exec (.saveTables e) s
              = .next (State.settle (State.respond { s with ports := q } p { status := .busy, echo := 0x31, data := [] })))
          ∧ (s.store.job = none →
              let v := if s.store.imageVersion < 65535 then s.store.imageVersion + 1 else 1
              exec (.saveTables e) s = .next (State.settle (State.respond
                { s with
                  ports := q,
                  store := { s.store with
                    tablesRetry := none, tablesDue := false,
                    job := some { kind := .tables, busy := 0, version := v, accounting := (0, 0),
                                  pages := bodyPages s.tables.body
                                    ++ [{ address := 0, bytes := fillPage (imageHeader v s.tables.body) }] },
                    sent := [spiWriteEnable, spiPageProgram { address := 0x20, bytes := s.tables.body.take 32 }] } } p
                { status := .ok, echo := 0x31, data := [] }))))
      ∧ (∀ (s : State) (c : Instr) (r : StoreRecord),
          (c = .quietTimerExpiry ∧ s.store.quiet = some 0 ∧ r = { s.store with quiet := none })
            ∨ (c = .hourlyMark ∧ s.store.hoursMarked < s.now / 3600
                ∧ s.store.stored ≠ some (s.acct.accumulator, s.acct.age) ∧ r = { s.store with hoursMarked := s.now / 3600 })
            ∨ (c = .saveRetryExpiry .settings ∧ s.store.settingsRetry = some 0 ∧ r = { s.store with settingsRetry := none }) →
          (s.store.job = none → r.settingsRetry = none →
              exec c s = .next (State.settle { s with
                store := { r with
                  dirty := false, quiet := none, settingsDue := false,
                  job := some { kind := .settings, busy := 0, version := 0,
                                accounting := (s.acct.accumulator, s.acct.age),
                                pages := [{ address := 0x1800, bytes := fillPage s.settings.encode }] },
                  sent := [spiWriteEnable, spiPageProgram { address := 0x1800, bytes := fillPage s.settings.encode }] } }))
            ∧ (s.store.job ≠ none ∨ r.settingsRetry ≠ none →
                exec c s = .next (State.settle { s with store := { r with settingsDue := true } })))
      ∧ (∀ s : State, s.store.hoursMarked < s.now / 3600 → s.store.stored = some (s.acct.accumulator, s.acct.age) →
          exec .hourlyMark s = .next (State.settle { s with store := { s.store with hoursMarked := s.now / 3600 } }))
      ∧ ∀ s : State, s.store.tablesRetry = some 0 →
          (s.store.job = none →
              ∃ t j, exec (.saveRetryExpiry .tables) s = .next t ∧ t.store.job = some j ∧ j.kind = .tables
                ∧ j.pages.length = 28 ∧ t.store.tablesRetry = none
                ∧ t.store.sent = [spiWriteEnable, spiPageProgram { address := 0x20, bytes := s.tables.body.take 32 }])
            ∧ (s.store.job ≠ none →
                exec (.saveRetryExpiry .tables) s
                  = .next (State.settle { s with store := { s.store with tablesRetry := none, tablesDue := true } })))
    ∧ (∀ (s : State) (j : SaveJob) (pg : Page) (rest : List Page) (readBack : List Byte), s.store.job = some j →
        j.pages = pg :: rest →
        let failed (ops : List (List Byte)) : Host.Outcome State Fault Refusal := s.finish (State.nextSave { s with
          events := s.events.map (·.add .store),
          store := if j.kind = .settings then
              { s.store with
                job := none, settingsRetry := some 600, dirty := true, lastFailure := some .saveSettings, sent := ops }
            else { s.store with job := none, tablesRetry := some 600, lastFailure := some .saveTables, sent := ops } })
        let check := [spiStatusRead, spiRead pg.address]
        (∀ next others, readBack = pg.bytes → rest = next :: others →
            exec (.pageWriteComplete readBack) s
              = .next (State.settle { s with store := { s.store with
                  job := some { j with pages := rest, busy := 0 },
                  sent := check ++ [spiWriteEnable, spiPageProgram next] } }))
          ∧ (readBack = pg.bytes → rest = [] →
              exec (.pageWriteComplete readBack) s = s.finish (State.nextSave { s with
                store := if j.kind = .settings then
                    { s.store with job := none, settingsRetry := none, stored := some j.accounting, sent := check }
                  else { s.store with
                    job := none, tablesRetry := none, imageState := .accepted, imageVersion := j.version, sent := check } }))
          ∧ (readBack ≠ pg.bytes → exec (.pageWriteComplete readBack) s = failed check)
          ∧ (5 ≤ j.busy → exec .pageBusyTimeout s = failed [spiStatusRead])
          ∧ spiWriteEnable = [0x06] ∧ spiStatusRead = [0x05]
          ∧ (∀ a, spiRead a = [0x03, BitVec.ofNat 8 (a / 256), BitVec.ofNat 8 a])
          ∧ spiPageProgram pg = [0x02, BitVec.ofNat 8 (pg.address / 256), BitVec.ofNat 8 pg.address] ++ pg.bytes)
    ∧ (∀ s : State,
        let settingsWaits := s.store.settingsDue = true ∧ s.store.settingsRetry = none
        let v := if s.store.imageVersion < 65535 then s.store.imageVersion + 1 else 1
        let tables (u : State) : State := { u with store := { u.store with
          tablesRetry := none, tablesDue := false,
          job := some { kind := .tables, busy := 0, version := v, accounting := (0, 0),
                        pages := bodyPages s.tables.body
                          ++ [{ address := 0, bytes := fillPage (imageHeader v s.tables.body) }] },
          sent := s.store.sent ++ [spiWriteEnable, spiPageProgram { address := 0x20, bytes := s.tables.body.take 32 }] } }
        let settings (u : State) : State := { u with store := { u.store with
          dirty := false, quiet := none, settingsDue := false,
          job := some { kind := .settings, busy := 0, version := 0, accounting := (s.acct.accumulator, s.acct.age),
                        pages := [{ address := 0x1800, bytes := fillPage s.settings.encode }] },
          sent := s.store.sent
            ++ [spiWriteEnable, spiPageProgram { address := 0x1800, bytes := fillPage s.settings.encode }] } }
        (s.store.tablesDue = false → ¬ settingsWaits → s.nextSave = s)
          ∧ (s.store.tablesDue = true → ¬ settingsWaits → s.nextSave = tables s)
          ∧ (s.store.tablesDue = false → settingsWaits → s.nextSave = settings s)
          ∧ (s.store.tablesDue = true → settingsWaits →
              s.nextSave = tables { s with free := s.free + 1 } ∨ s.nextSave = settings { s with free := s.free + 1 })
          ∧ ∀ u : State, u.cyc = s.cyc → s.finish u.nextSave = .next u.nextSave.settle)

/-! ## What no command touches, and what every step keeps -/

/-- Which commands can change which records: every other command leaves them as they stand (R2, R6, R15, R19, R22, R48, R94, R97, R127,
R137, R150, R156: each record has one owner, and its owner's events and requests change it). -/
def Obligations.EachCommandTouchesItsOwn : Prop :=
  ∀ (c : Instr) (s t : State), exec c s = .next t → c.resets = false →
    t.clock = s.clock ∧ t.pending = s.pending
      ∧ (match c with
          | .sampleCompletion _ _ => True
          | _ => t.channels = s.channels)
      ∧ (match c with
          | .doorEdge _ _ => True
          | .doorTransition _ => True
          | .doorLong _ => True
          | .lapse _ => True
          | .doorMinute _ => True
          | _ => t.doors = s.doors)
      ∧ (match c with
          | .imageLoadComplete _ _ => True
          | .writeTableConversion _ => True
          | .writeTablePreset _ => True
          | .writeTableLadder _ => True
          | .writeTableStep _ => True
          | .writeTableProgram _ => True
          | .writeTableGlobal _ => True
          | _ => t.tables = s.tables)
      ∧ (match c with
          | .settingsLoadComplete _ => True
          | .setPanelMap _ => True
          | _ => t.panel = s.panel)
      ∧ (match c with
          | .driveCommand => True
          | .driveStatus _ => True
          | .driveMiss => True
          | _ => t.link = s.link)
      ∧ (match c with
          | .ready => True
          | _ => t.ready = s.ready)
      ∧ (match c with
          | .powerCapExpiry => True
          | .limitPower _ => True
          | .coolingRestart _ => True
          | .tachReading _ _ => True
          | _ => t.cap = s.cap)
      ∧ (match c with
          | .portSGapTimeout => True
          | .portSLengthReject _ => True
          | .portSFrameSent => True
          | .portSByteReceived _ => True
          | .writeTransactionByte _ _ => True
          | _ => c.row = none → t.ports = s.ports)
      ∧ (match c with
          | .settingsLoadComplete _ => True
          | .doorMinute _ => True
          | .lowerRunMinute => True
          | .sampleCompletion _ _ => True
          | .stepDurationExpiry => True
          | .stepTimeoutExpiry => True
          | _ => t.acct = s.acct)
      ∧ (match c with
          | .settingsLoadComplete _ => True
          | .sampleCompletion _ _ => True
          | .doorTransition _ => True
          | .boostExpiry _ => True
          | .setSetpoint _ => True
          | .setMode _ => True
          | .startBoost _ => True
          | .cancelBoost _ => True
          | .coolingRestart _ => True
          | .writeTablePreset _ => True
          | .writeTableLadder _ => True
          | _ => t.zones = s.zones)

/-- The outputs agree with the state after every step from a state where they do, and then the lower defrost heater is never on
while the compressor is not OFF with the valve anywhere but at UPPER (R117). -/
def Obligations.OutputsStaySettled : Prop :=
  (∀ s t : State, s.Settled → step s = .next t → t.Settled) ∧ (∀ s : State, s.Settled → s.HeaterInterlocked)

/-- The commanded speed stays 0 with the run flag 0, and else within 1200..4500, the multiples of 10 and every cap (R92, R97). -/
def Obligations.SpeedStaysBounded : Prop :=
  ∀ s t : State, s.SpeedBounded → step s = .next t → t.SpeedBounded

/-- No run within 180 s after start-up or the last stop (R89). -/
def Obligations.OffTimeIsKept : Prop :=
  ∀ s t : State, s.OffTimeKept → step s = .next t → t.OffTimeKept

/-- Each calling zone has exactly one entry across the turn queue and the served set, at its level, and an idle zone none (R28,
R59). -/
def Obligations.OneEntryForEachCallingZone : Prop :=
  ∀ s t : State, s.OneEntryEach → step s = .next t → t.OneEntryEach

/-- The working tables stay in their domains with every valid program's chains valid, and every zone's setpoint stays in its
preset's range (R5, R17, R20, R41, R134, R136, R137). -/
def Obligations.TablesAndSetpointsStayInDomain : Prop :=
  ∀ s t : State, s.Configured → step s = .next t → t.Configured

/-- Counts, accounting, unseeded channels and door views stay as their records say (R2, R9, R16, R56, R82, R108, R126, R152). -/
def Obligations.RecordsStayInRange : Prop :=
  (∀ s t : State, s.CountsInRange → step s = .next t → t.CountsInRange)
    ∧ (∀ s t : State, s.acct.InRange → step s = .next t → t.acct.InRange)
    ∧ (∀ s t : State, s.UnseededEmpty → step s = .next t → t.UnseededEmpty)
    ∧ (∀ s t : State, s.DoorViewsAgree → step s = .next t → t.DoorViewsAgree)

/-- Every invariant holds at reset. The tables that stand before the loads (log entry 7) and the doors read LOW (log entry 6) are the
model's. -/
def Obligations.InvariantsHoldAtReset : Prop :=
  State.reset.Settled ∧ State.reset.SpeedBounded ∧ State.reset.OffTimeKept ∧ State.reset.OneEntryEach ∧ State.reset.Configured
    ∧ State.reset.CountsInRange ∧ State.reset.acct.InRange ∧ State.reset.UnseededEmpty ∧ State.reset.DoorViewsAgree

/-! ## Encodings -/

/-- A table entry reads back as it was written, for every preset, ladder, step and program in its domain (R175).

The settings record and the image read back as they were written (R168, R169, R175), and a frame with its CRC-8 behind it has
CRC-8 zero (R153). -/
def Obligations.WrittenEntriesReadBack : Prop :=
  ((∀ p : Preset, p.inDomain = true → Preset.read p.encode = some p ∧ p.encode.length = 16)
      ∧ (∀ l : Ladder, l.inDomain = true → Ladder.read l.encode = some l ∧ l.encode.length = 20)
      ∧ (∀ st : Step, st.inDomain = true → Step.read st.encode = some st ∧ st.encode.length = 9)
      ∧ (∀ g : Program, g.inDomain = true → Program.read g.encode = some g ∧ g.encode.length = 3))
    ∧ ((∀ x : Settings, (∀ z, (x.zones.get z).1 ≤ 255 ∧ -32768 ≤ (x.zones.get z).2 ∧ (x.zones.get z).2 ≤ 32767) →
          x.accounting.accumulator ≤ 65535 → x.accounting.interval ≤ 65535 → x.accounting.age ≤ 4294967295 →
          Settings.read x.encode = some x ∧ x.encode.length = 23)
        ∧ (∀ (v : Nat) (t : Tables), v ≤ 65535 → t.Good → t.zonesServed = true →
            t.body.length = 845 ∧ acceptImage (imageHeader v t.body) t.body = some (v, t))
        ∧ ∀ l : List Byte, crc8 (l ++ [crc8 l]) = 0)
end

