-- ==== Sys2Proof/Laws/State.lean ====
section
/-!
SUPPORT. What the plain updates of a state leave as it was, one lemma for each field of each update, and the reads and writes
of the per-thing records.
-/
namespace Sys2Proof.Machine

/-! ## One value for each thing -/

@[simp] theorem PerZone.get_set_same {α : Type} (m : PerZone α) (k : Zone) (v : α) : (m.set k v).get k = v := by cases k <;> rfl

@[simp] theorem PerZone.get_set_other {α : Type} (m : PerZone α) {j k : Zone} (h : j ≠ k) (v : α) :
    (m.set k v).get j = m.get j := by cases j <;> cases k <;> first | rfl | exact absurd rfl h

theorem PerZone.ext_get {α : Type} {m n : PerZone α} (h : ∀ k, m.get k = n.get k) : m = n := by
  cases m; cases n; have h0 := h .fresh; have h1 := h .flex; have h2 := h .freezer; have h3 := h .ice
  simp only [PerZone.get] at h0 h1 h2 h3
  subst h0 h1 h2 h3
  rfl

@[simp] theorem PerPath.get_set_same {α : Type} (m : PerPath α) (k : Path) (v : α) : (m.set k v).get k = v := by cases k <;> rfl

@[simp] theorem PerPath.get_set_other {α : Type} (m : PerPath α) {j k : Path} (h : j ≠ k) (v : α) :
    (m.set k v).get j = m.get j := by cases j <;> cases k <;> first | rfl | exact absurd rfl h

theorem PerPath.ext_get {α : Type} {m n : PerPath α} (h : ∀ k, m.get k = n.get k) : m = n := by
  cases m; cases n; have h0 := h .upper; have h1 := h .lower
  simp only [PerPath.get] at h0 h1
  subst h0 h1
  rfl

@[simp] theorem PerDoor.get_set_same {α : Type} (m : PerDoor α) (k : Door) (v : α) : (m.set k v).get k = v := by cases k <;> rfl

@[simp] theorem PerDoor.get_set_other {α : Type} (m : PerDoor α) {j k : Door} (h : j ≠ k) (v : α) :
    (m.set k v).get j = m.get j := by cases j <;> cases k <;> first | rfl | exact absurd rfl h

theorem PerDoor.ext_get {α : Type} {m n : PerDoor α} (h : ∀ k, m.get k = n.get k) : m = n := by
  cases m; cases n; have h0 := h .leftFresh; have h1 := h .rightFresh; have h2 := h .flexDrawer; have h3 := h .freezerDrawer
  simp only [PerDoor.get] at h0 h1 h2 h3
  subst h0 h1 h2 h3
  rfl

@[simp] theorem PerChannel.get_set_same {α : Type} (m : PerChannel α) (k : Channel) (v : α) : (m.set k v).get k = v := by cases k <;> rfl

@[simp] theorem PerChannel.get_set_other {α : Type} (m : PerChannel α) {j k : Channel} (h : j ≠ k) (v : α) :
    (m.set k v).get j = m.get j := by cases j <;> cases k <;> first | rfl | exact absurd rfl h

theorem PerChannel.ext_get {α : Type} {m n : PerChannel α} (h : ∀ k, m.get k = n.get k) : m = n := by
  cases m; cases n; have h0 := h .ch0; have h1 := h .ch1; have h2 := h .ch2; have h3 := h .ch3; have h4 := h .ch4; have h5 := h .ch5; have h6 := h .ch6
  simp only [PerChannel.get] at h0 h1 h2 h3 h4 h5 h6
  subst h0 h1 h2 h3 h4 h5 h6
  rfl

@[simp] theorem PerFan.get_set_same {α : Type} (m : PerFan α) (k : Fan) (v : α) : (m.set k v).get k = v := by cases k <;> rfl

@[simp] theorem PerFan.get_set_other {α : Type} (m : PerFan α) {j k : Fan} (h : j ≠ k) (v : α) :
    (m.set k v).get j = m.get j := by cases j <;> cases k <;> first | rfl | exact absurd rfl h

theorem PerFan.ext_get {α : Type} {m n : PerFan α} (h : ∀ k, m.get k = n.get k) : m = n := by
  cases m; cases n; have h0 := h .upper; have h1 := h .lower; have h2 := h .condenser
  simp only [PerFan.get] at h0 h1 h2
  subst h0 h1 h2
  rfl

@[simp] theorem PerDamper.get_set_same {α : Type} (m : PerDamper α) (k : Damper) (v : α) : (m.set k v).get k = v := by cases k <;> rfl

@[simp] theorem PerDamper.get_set_other {α : Type} (m : PerDamper α) {j k : Damper} (h : j ≠ k) (v : α) :
    (m.set k v).get j = m.get j := by cases j <;> cases k <;> first | rfl | exact absurd rfl h

theorem PerDamper.ext_get {α : Type} {m n : PerDamper α} (h : ∀ k, m.get k = n.get k) : m = n := by
  cases m; cases n; have h0 := h .flexLower; have h1 := h .flexUpper; have h2 := h .ice
  simp only [PerDamper.get] at h0 h1 h2
  subst h0 h1 h2
  rfl

@[simp] theorem PerPort.get_set_same {α : Type} (m : PerPort α) (k : Port) (v : α) : (m.set k v).get k = v := by cases k <;> rfl

@[simp] theorem PerPort.get_set_other {α : Type} (m : PerPort α) {j k : Port} (h : j ≠ k) (v : α) :
    (m.set k v).get j = m.get j := by cases j <;> cases k <;> first | rfl | exact absurd rfl h

theorem PerPort.ext_get {α : Type} {m n : PerPort α} (h : ∀ k, m.get k = n.get k) : m = n := by
  cases m; cases n; have h0 := h .s; have h1 := h .a; have h2 := h .b
  simp only [PerPort.get] at h0 h1 h2
  subst h0 h1 h2
  rfl

@[simp] theorem PerZone.get_map {α β : Type} (f : α → β) (m : PerZone α) (k : Zone) : (m.map f).get k = f (m.get k) := by cases k <;> rfl

@[simp] theorem PerPort.get_map {α β : Type} (f : α → β) (m : PerPort α) (k : Port) : (m.map f).get k = f (m.get k) := by cases k <;> rfl

@[simp] theorem PerPath.get_map {α β : Type} (f : α → β) (m : PerPath α) (k : Path) : (m.map f).get k = f (m.get k) := by cases k <;> rfl

@[simp] theorem PerDamper.get_map {α β : Type} (f : α → β) (m : PerDamper α) (k : Damper) : (m.map f).get k = f (m.get k) := by cases k <;> rfl

@[simp] theorem PerDoor.get_map {α β : Type} (f : α → β) (m : PerDoor α) (k : Door) : (m.map f).get k = f (m.get k) := by cases k <;> rfl

/-! ## settle -/

@[simp] theorem State.settle_clock (s : State) : (s.settle).clock = s.clock := rfl
@[simp] theorem State.settle_free (s : State) : (s.settle).free = s.free := rfl
@[simp] theorem State.settle_pending (s : State) : (s.settle).pending = s.pending := rfl
@[simp] theorem State.settle_ready (s : State) : (s.settle).ready = s.ready := rfl
@[simp] theorem State.settle_channels (s : State) : (s.settle).channels = s.channels := rfl
@[simp] theorem State.settle_zones (s : State) : (s.settle).zones = s.zones := rfl
@[simp] theorem State.settle_window (s : State) : (s.settle).window = s.window := rfl
@[simp] theorem State.settle_doors (s : State) : (s.settle).doors = s.doors := rfl
@[simp] theorem State.settle_arb (s : State) : (s.settle).arb = s.arb := rfl
@[simp] theorem State.settle_cyc (s : State) : (s.settle).cyc = s.cyc := rfl
@[simp] theorem State.settle_cap (s : State) : (s.settle).cap = s.cap := rfl
@[simp] theorem State.settle_link (s : State) : (s.settle).link = s.link := rfl
@[simp] theorem State.settle_flt (s : State) : (s.settle).flt = s.flt := rfl
@[simp] theorem State.settle_mgr (s : State) : (s.settle).mgr = s.mgr := rfl
@[simp] theorem State.settle_acct (s : State) : (s.settle).acct = s.acct := rfl
@[simp] theorem State.settle_ports (s : State) : (s.settle).ports = s.ports := rfl
@[simp] theorem State.settle_panel (s : State) : (s.settle).panel = s.panel := rfl
@[simp] theorem State.settle_events (s : State) : (s.settle).events = s.events := rfl
@[simp] theorem State.settle_store (s : State) : (s.settle).store = s.store := rfl
@[simp] theorem State.settle_tables (s : State) : (s.settle).tables = s.tables := rfl

/-! ## raise -/

@[simp] theorem State.raise_clock (s : State) (k : EventKind) : (s.raise k).clock = s.clock := rfl
@[simp] theorem State.raise_free (s : State) (k : EventKind) : (s.raise k).free = s.free := rfl
@[simp] theorem State.raise_pending (s : State) (k : EventKind) : (s.raise k).pending = s.pending := rfl
@[simp] theorem State.raise_ready (s : State) (k : EventKind) : (s.raise k).ready = s.ready := rfl
@[simp] theorem State.raise_channels (s : State) (k : EventKind) : (s.raise k).channels = s.channels := rfl
@[simp] theorem State.raise_zones (s : State) (k : EventKind) : (s.raise k).zones = s.zones := rfl
@[simp] theorem State.raise_window (s : State) (k : EventKind) : (s.raise k).window = s.window := rfl
@[simp] theorem State.raise_doors (s : State) (k : EventKind) : (s.raise k).doors = s.doors := rfl
@[simp] theorem State.raise_arb (s : State) (k : EventKind) : (s.raise k).arb = s.arb := rfl
@[simp] theorem State.raise_cyc (s : State) (k : EventKind) : (s.raise k).cyc = s.cyc := rfl
@[simp] theorem State.raise_cap (s : State) (k : EventKind) : (s.raise k).cap = s.cap := rfl
@[simp] theorem State.raise_link (s : State) (k : EventKind) : (s.raise k).link = s.link := rfl
@[simp] theorem State.raise_flt (s : State) (k : EventKind) : (s.raise k).flt = s.flt := rfl
@[simp] theorem State.raise_act (s : State) (k : EventKind) : (s.raise k).act = s.act := rfl
@[simp] theorem State.raise_mgr (s : State) (k : EventKind) : (s.raise k).mgr = s.mgr := rfl
@[simp] theorem State.raise_acct (s : State) (k : EventKind) : (s.raise k).acct = s.acct := rfl
@[simp] theorem State.raise_ports (s : State) (k : EventKind) : (s.raise k).ports = s.ports := rfl
@[simp] theorem State.raise_panel (s : State) (k : EventKind) : (s.raise k).panel = s.panel := rfl
@[simp] theorem State.raise_store (s : State) (k : EventKind) : (s.raise k).store = s.store := rfl
@[simp] theorem State.raise_tables (s : State) (k : EventKind) : (s.raise k).tables = s.tables := rfl

/-! ## setZone -/

@[simp] theorem State.setZone_clock (s : State) (z : Zone) (r : ZoneRecord) : (s.setZone z r).clock = s.clock := rfl
@[simp] theorem State.setZone_free (s : State) (z : Zone) (r : ZoneRecord) : (s.setZone z r).free = s.free := rfl
@[simp] theorem State.setZone_pending (s : State) (z : Zone) (r : ZoneRecord) : (s.setZone z r).pending = s.pending := rfl
@[simp] theorem State.setZone_ready (s : State) (z : Zone) (r : ZoneRecord) : (s.setZone z r).ready = s.ready := rfl
@[simp] theorem State.setZone_channels (s : State) (z : Zone) (r : ZoneRecord) : (s.setZone z r).channels = s.channels := rfl
@[simp] theorem State.setZone_window (s : State) (z : Zone) (r : ZoneRecord) : (s.setZone z r).window = s.window := rfl
@[simp] theorem State.setZone_doors (s : State) (z : Zone) (r : ZoneRecord) : (s.setZone z r).doors = s.doors := rfl
@[simp] theorem State.setZone_arb (s : State) (z : Zone) (r : ZoneRecord) : (s.setZone z r).arb = s.arb := rfl
@[simp] theorem State.setZone_cyc (s : State) (z : Zone) (r : ZoneRecord) : (s.setZone z r).cyc = s.cyc := rfl
@[simp] theorem State.setZone_cap (s : State) (z : Zone) (r : ZoneRecord) : (s.setZone z r).cap = s.cap := rfl
@[simp] theorem State.setZone_link (s : State) (z : Zone) (r : ZoneRecord) : (s.setZone z r).link = s.link := rfl
@[simp] theorem State.setZone_flt (s : State) (z : Zone) (r : ZoneRecord) : (s.setZone z r).flt = s.flt := rfl
@[simp] theorem State.setZone_act (s : State) (z : Zone) (r : ZoneRecord) : (s.setZone z r).act = s.act := rfl
@[simp] theorem State.setZone_mgr (s : State) (z : Zone) (r : ZoneRecord) : (s.setZone z r).mgr = s.mgr := rfl
@[simp] theorem State.setZone_acct (s : State) (z : Zone) (r : ZoneRecord) : (s.setZone z r).acct = s.acct := rfl
@[simp] theorem State.setZone_ports (s : State) (z : Zone) (r : ZoneRecord) : (s.setZone z r).ports = s.ports := rfl
@[simp] theorem State.setZone_panel (s : State) (z : Zone) (r : ZoneRecord) : (s.setZone z r).panel = s.panel := rfl
@[simp] theorem State.setZone_events (s : State) (z : Zone) (r : ZoneRecord) : (s.setZone z r).events = s.events := rfl
@[simp] theorem State.setZone_store (s : State) (z : Zone) (r : ZoneRecord) : (s.setZone z r).store = s.store := rfl
@[simp] theorem State.setZone_tables (s : State) (z : Zone) (r : ZoneRecord) : (s.setZone z r).tables = s.tables := rfl

/-! ## setDoor -/

@[simp] theorem State.setDoor_clock (s : State) (d : Door) (r : DoorRecord) : (s.setDoor d r).clock = s.clock := rfl
@[simp] theorem State.setDoor_free (s : State) (d : Door) (r : DoorRecord) : (s.setDoor d r).free = s.free := rfl
@[simp] theorem State.setDoor_pending (s : State) (d : Door) (r : DoorRecord) : (s.setDoor d r).pending = s.pending := rfl
@[simp] theorem State.setDoor_ready (s : State) (d : Door) (r : DoorRecord) : (s.setDoor d r).ready = s.ready := rfl
@[simp] theorem State.setDoor_channels (s : State) (d : Door) (r : DoorRecord) : (s.setDoor d r).channels = s.channels := rfl
@[simp] theorem State.setDoor_zones (s : State) (d : Door) (r : DoorRecord) : (s.setDoor d r).zones = s.zones := rfl
@[simp] theorem State.setDoor_window (s : State) (d : Door) (r : DoorRecord) : (s.setDoor d r).window = s.window := rfl
@[simp] theorem State.setDoor_arb (s : State) (d : Door) (r : DoorRecord) : (s.setDoor d r).arb = s.arb := rfl
@[simp] theorem State.setDoor_cyc (s : State) (d : Door) (r : DoorRecord) : (s.setDoor d r).cyc = s.cyc := rfl
@[simp] theorem State.setDoor_cap (s : State) (d : Door) (r : DoorRecord) : (s.setDoor d r).cap = s.cap := rfl
@[simp] theorem State.setDoor_link (s : State) (d : Door) (r : DoorRecord) : (s.setDoor d r).link = s.link := rfl
@[simp] theorem State.setDoor_flt (s : State) (d : Door) (r : DoorRecord) : (s.setDoor d r).flt = s.flt := rfl
@[simp] theorem State.setDoor_act (s : State) (d : Door) (r : DoorRecord) : (s.setDoor d r).act = s.act := rfl
@[simp] theorem State.setDoor_mgr (s : State) (d : Door) (r : DoorRecord) : (s.setDoor d r).mgr = s.mgr := rfl
@[simp] theorem State.setDoor_acct (s : State) (d : Door) (r : DoorRecord) : (s.setDoor d r).acct = s.acct := rfl
@[simp] theorem State.setDoor_ports (s : State) (d : Door) (r : DoorRecord) : (s.setDoor d r).ports = s.ports := rfl
@[simp] theorem State.setDoor_panel (s : State) (d : Door) (r : DoorRecord) : (s.setDoor d r).panel = s.panel := rfl
@[simp] theorem State.setDoor_events (s : State) (d : Door) (r : DoorRecord) : (s.setDoor d r).events = s.events := rfl
@[simp] theorem State.setDoor_store (s : State) (d : Door) (r : DoorRecord) : (s.setDoor d r).store = s.store := rfl
@[simp] theorem State.setDoor_tables (s : State) (d : Door) (r : DoorRecord) : (s.setDoor d r).tables = s.tables := rfl

/-! ## setTables -/

@[simp] theorem State.setTables_clock (s : State) (t : Tables) : (s.setTables t).clock = s.clock := rfl
@[simp] theorem State.setTables_free (s : State) (t : Tables) : (s.setTables t).free = s.free := rfl
@[simp] theorem State.setTables_pending (s : State) (t : Tables) : (s.setTables t).pending = s.pending := rfl
@[simp] theorem State.setTables_ready (s : State) (t : Tables) : (s.setTables t).ready = s.ready := rfl
@[simp] theorem State.setTables_channels (s : State) (t : Tables) : (s.setTables t).channels = s.channels := rfl
@[simp] theorem State.setTables_zones (s : State) (t : Tables) : (s.setTables t).zones = s.zones := rfl
@[simp] theorem State.setTables_window (s : State) (t : Tables) : (s.setTables t).window = s.window := rfl
@[simp] theorem State.setTables_doors (s : State) (t : Tables) : (s.setTables t).doors = s.doors := rfl
@[simp] theorem State.setTables_arb (s : State) (t : Tables) : (s.setTables t).arb = s.arb := rfl
@[simp] theorem State.setTables_cyc (s : State) (t : Tables) : (s.setTables t).cyc = s.cyc := rfl
@[simp] theorem State.setTables_cap (s : State) (t : Tables) : (s.setTables t).cap = s.cap := rfl
@[simp] theorem State.setTables_link (s : State) (t : Tables) : (s.setTables t).link = s.link := rfl
@[simp] theorem State.setTables_flt (s : State) (t : Tables) : (s.setTables t).flt = s.flt := rfl
@[simp] theorem State.setTables_act (s : State) (t : Tables) : (s.setTables t).act = s.act := rfl
@[simp] theorem State.setTables_mgr (s : State) (t : Tables) : (s.setTables t).mgr = s.mgr := rfl
@[simp] theorem State.setTables_acct (s : State) (t : Tables) : (s.setTables t).acct = s.acct := rfl
@[simp] theorem State.setTables_ports (s : State) (t : Tables) : (s.setTables t).ports = s.ports := rfl
@[simp] theorem State.setTables_panel (s : State) (t : Tables) : (s.setTables t).panel = s.panel := rfl
@[simp] theorem State.setTables_events (s : State) (t : Tables) : (s.setTables t).events = s.events := rfl
@[simp] theorem State.setTables_store (s : State) (t : Tables) : (s.setTables t).store = s.store := rfl

/-! ## sends -/

@[simp] theorem State.sends_clock (s : State) (l : List (List Byte)) : (s.sends l).clock = s.clock := rfl
@[simp] theorem State.sends_free (s : State) (l : List (List Byte)) : (s.sends l).free = s.free := rfl
@[simp] theorem State.sends_pending (s : State) (l : List (List Byte)) : (s.sends l).pending = s.pending := rfl
@[simp] theorem State.sends_ready (s : State) (l : List (List Byte)) : (s.sends l).ready = s.ready := rfl
@[simp] theorem State.sends_channels (s : State) (l : List (List Byte)) : (s.sends l).channels = s.channels := rfl
@[simp] theorem State.sends_zones (s : State) (l : List (List Byte)) : (s.sends l).zones = s.zones := rfl
@[simp] theorem State.sends_window (s : State) (l : List (List Byte)) : (s.sends l).window = s.window := rfl
@[simp] theorem State.sends_doors (s : State) (l : List (List Byte)) : (s.sends l).doors = s.doors := rfl
@[simp] theorem State.sends_arb (s : State) (l : List (List Byte)) : (s.sends l).arb = s.arb := rfl
@[simp] theorem State.sends_cyc (s : State) (l : List (List Byte)) : (s.sends l).cyc = s.cyc := rfl
@[simp] theorem State.sends_cap (s : State) (l : List (List Byte)) : (s.sends l).cap = s.cap := rfl
@[simp] theorem State.sends_link (s : State) (l : List (List Byte)) : (s.sends l).link = s.link := rfl
@[simp] theorem State.sends_flt (s : State) (l : List (List Byte)) : (s.sends l).flt = s.flt := rfl
@[simp] theorem State.sends_act (s : State) (l : List (List Byte)) : (s.sends l).act = s.act := rfl
@[simp] theorem State.sends_mgr (s : State) (l : List (List Byte)) : (s.sends l).mgr = s.mgr := rfl
@[simp] theorem State.sends_acct (s : State) (l : List (List Byte)) : (s.sends l).acct = s.acct := rfl
@[simp] theorem State.sends_ports (s : State) (l : List (List Byte)) : (s.sends l).ports = s.ports := rfl
@[simp] theorem State.sends_panel (s : State) (l : List (List Byte)) : (s.sends l).panel = s.panel := rfl
@[simp] theorem State.sends_events (s : State) (l : List (List Byte)) : (s.sends l).events = s.events := rfl
@[simp] theorem State.sends_tables (s : State) (l : List (List Byte)) : (s.sends l).tables = s.tables := rfl
@[simp] theorem State.sends_store (s : State) (l : List (List Byte)) : (s.sends l).store = { s.store with sent := l } := rfl

/-! ## markDirty -/

@[simp] theorem State.markDirty_clock (s : State) : (s.markDirty).clock = s.clock := rfl
@[simp] theorem State.markDirty_free (s : State) : (s.markDirty).free = s.free := rfl
@[simp] theorem State.markDirty_pending (s : State) : (s.markDirty).pending = s.pending := rfl
@[simp] theorem State.markDirty_ready (s : State) : (s.markDirty).ready = s.ready := rfl
@[simp] theorem State.markDirty_channels (s : State) : (s.markDirty).channels = s.channels := rfl
@[simp] theorem State.markDirty_zones (s : State) : (s.markDirty).zones = s.zones := rfl
@[simp] theorem State.markDirty_window (s : State) : (s.markDirty).window = s.window := rfl
@[simp] theorem State.markDirty_doors (s : State) : (s.markDirty).doors = s.doors := rfl
@[simp] theorem State.markDirty_arb (s : State) : (s.markDirty).arb = s.arb := rfl
@[simp] theorem State.markDirty_cyc (s : State) : (s.markDirty).cyc = s.cyc := rfl
@[simp] theorem State.markDirty_cap (s : State) : (s.markDirty).cap = s.cap := rfl
@[simp] theorem State.markDirty_link (s : State) : (s.markDirty).link = s.link := rfl
@[simp] theorem State.markDirty_flt (s : State) : (s.markDirty).flt = s.flt := rfl
@[simp] theorem State.markDirty_act (s : State) : (s.markDirty).act = s.act := rfl
@[simp] theorem State.markDirty_mgr (s : State) : (s.markDirty).mgr = s.mgr := rfl
@[simp] theorem State.markDirty_acct (s : State) : (s.markDirty).acct = s.acct := rfl
@[simp] theorem State.markDirty_ports (s : State) : (s.markDirty).ports = s.ports := rfl
@[simp] theorem State.markDirty_panel (s : State) : (s.markDirty).panel = s.panel := rfl
@[simp] theorem State.markDirty_events (s : State) : (s.markDirty).events = s.events := rfl
@[simp] theorem State.markDirty_tables (s : State) : (s.markDirty).tables = s.tables := rfl

/-! ## raiseSettingsChanged -/

@[simp] theorem State.raiseSettingsChanged_clock (s : State) (p : Port) : (s.raiseSettingsChanged p).clock = s.clock := rfl
@[simp] theorem State.raiseSettingsChanged_free (s : State) (p : Port) : (s.raiseSettingsChanged p).free = s.free := rfl
@[simp] theorem State.raiseSettingsChanged_pending (s : State) (p : Port) : (s.raiseSettingsChanged p).pending = s.pending := rfl
@[simp] theorem State.raiseSettingsChanged_ready (s : State) (p : Port) : (s.raiseSettingsChanged p).ready = s.ready := rfl
@[simp] theorem State.raiseSettingsChanged_channels (s : State) (p : Port) : (s.raiseSettingsChanged p).channels = s.channels := rfl
@[simp] theorem State.raiseSettingsChanged_zones (s : State) (p : Port) : (s.raiseSettingsChanged p).zones = s.zones := rfl
@[simp] theorem State.raiseSettingsChanged_window (s : State) (p : Port) : (s.raiseSettingsChanged p).window = s.window := rfl
@[simp] theorem State.raiseSettingsChanged_doors (s : State) (p : Port) : (s.raiseSettingsChanged p).doors = s.doors := rfl
@[simp] theorem State.raiseSettingsChanged_arb (s : State) (p : Port) : (s.raiseSettingsChanged p).arb = s.arb := rfl
@[simp] theorem State.raiseSettingsChanged_cyc (s : State) (p : Port) : (s.raiseSettingsChanged p).cyc = s.cyc := rfl
@[simp] theorem State.raiseSettingsChanged_cap (s : State) (p : Port) : (s.raiseSettingsChanged p).cap = s.cap := rfl
@[simp] theorem State.raiseSettingsChanged_link (s : State) (p : Port) : (s.raiseSettingsChanged p).link = s.link := rfl
@[simp] theorem State.raiseSettingsChanged_flt (s : State) (p : Port) : (s.raiseSettingsChanged p).flt = s.flt := rfl
@[simp] theorem State.raiseSettingsChanged_act (s : State) (p : Port) : (s.raiseSettingsChanged p).act = s.act := rfl
@[simp] theorem State.raiseSettingsChanged_mgr (s : State) (p : Port) : (s.raiseSettingsChanged p).mgr = s.mgr := rfl
@[simp] theorem State.raiseSettingsChanged_acct (s : State) (p : Port) : (s.raiseSettingsChanged p).acct = s.acct := rfl
@[simp] theorem State.raiseSettingsChanged_ports (s : State) (p : Port) : (s.raiseSettingsChanged p).ports = s.ports := rfl
@[simp] theorem State.raiseSettingsChanged_panel (s : State) (p : Port) : (s.raiseSettingsChanged p).panel = s.panel := rfl
@[simp] theorem State.raiseSettingsChanged_store (s : State) (p : Port) : (s.raiseSettingsChanged p).store = s.store := rfl
@[simp] theorem State.raiseSettingsChanged_tables (s : State) (p : Port) : (s.raiseSettingsChanged p).tables = s.tables := rfl

/-! ## requestValve -/

@[simp] theorem State.requestValve_clock (s : State) (p : Path) : (s.requestValve p).clock = s.clock := rfl
@[simp] theorem State.requestValve_free (s : State) (p : Path) : (s.requestValve p).free = s.free := rfl
@[simp] theorem State.requestValve_pending (s : State) (p : Path) : (s.requestValve p).pending = s.pending := rfl
@[simp] theorem State.requestValve_ready (s : State) (p : Path) : (s.requestValve p).ready = s.ready := rfl
@[simp] theorem State.requestValve_channels (s : State) (p : Path) : (s.requestValve p).channels = s.channels := rfl
@[simp] theorem State.requestValve_zones (s : State) (p : Path) : (s.requestValve p).zones = s.zones := rfl
@[simp] theorem State.requestValve_window (s : State) (p : Path) : (s.requestValve p).window = s.window := rfl
@[simp] theorem State.requestValve_doors (s : State) (p : Path) : (s.requestValve p).doors = s.doors := rfl
@[simp] theorem State.requestValve_arb (s : State) (p : Path) : (s.requestValve p).arb = s.arb := rfl
@[simp] theorem State.requestValve_cyc (s : State) (p : Path) : (s.requestValve p).cyc = s.cyc := rfl
@[simp] theorem State.requestValve_cap (s : State) (p : Path) : (s.requestValve p).cap = s.cap := rfl
@[simp] theorem State.requestValve_link (s : State) (p : Path) : (s.requestValve p).link = s.link := rfl
@[simp] theorem State.requestValve_flt (s : State) (p : Path) : (s.requestValve p).flt = s.flt := rfl
@[simp] theorem State.requestValve_mgr (s : State) (p : Path) : (s.requestValve p).mgr = s.mgr := rfl
@[simp] theorem State.requestValve_acct (s : State) (p : Path) : (s.requestValve p).acct = s.acct := rfl
@[simp] theorem State.requestValve_ports (s : State) (p : Path) : (s.requestValve p).ports = s.ports := rfl
@[simp] theorem State.requestValve_panel (s : State) (p : Path) : (s.requestValve p).panel = s.panel := rfl
@[simp] theorem State.requestValve_events (s : State) (p : Path) : (s.requestValve p).events = s.events := rfl
@[simp] theorem State.requestValve_store (s : State) (p : Path) : (s.requestValve p).store = s.store := rfl
@[simp] theorem State.requestValve_tables (s : State) (p : Path) : (s.requestValve p).tables = s.tables := rfl

/-! ## setDamper -/

@[simp] theorem State.setDamper_clock (s : State) (d : Damper) (r : DamperRecord) : (s.setDamper d r).clock = s.clock := rfl
@[simp] theorem State.setDamper_free (s : State) (d : Damper) (r : DamperRecord) : (s.setDamper d r).free = s.free := rfl
@[simp] theorem State.setDamper_pending (s : State) (d : Damper) (r : DamperRecord) : (s.setDamper d r).pending = s.pending := rfl
@[simp] theorem State.setDamper_ready (s : State) (d : Damper) (r : DamperRecord) : (s.setDamper d r).ready = s.ready := rfl
@[simp] theorem State.setDamper_channels (s : State) (d : Damper) (r : DamperRecord) : (s.setDamper d r).channels = s.channels := rfl
@[simp] theorem State.setDamper_zones (s : State) (d : Damper) (r : DamperRecord) : (s.setDamper d r).zones = s.zones := rfl
@[simp] theorem State.setDamper_window (s : State) (d : Damper) (r : DamperRecord) : (s.setDamper d r).window = s.window := rfl
@[simp] theorem State.setDamper_doors (s : State) (d : Damper) (r : DamperRecord) : (s.setDamper d r).doors = s.doors := rfl
@[simp] theorem State.setDamper_arb (s : State) (d : Damper) (r : DamperRecord) : (s.setDamper d r).arb = s.arb := rfl
@[simp] theorem State.setDamper_cyc (s : State) (d : Damper) (r : DamperRecord) : (s.setDamper d r).cyc = s.cyc := rfl
@[simp] theorem State.setDamper_cap (s : State) (d : Damper) (r : DamperRecord) : (s.setDamper d r).cap = s.cap := rfl
@[simp] theorem State.setDamper_link (s : State) (d : Damper) (r : DamperRecord) : (s.setDamper d r).link = s.link := rfl
@[simp] theorem State.setDamper_flt (s : State) (d : Damper) (r : DamperRecord) : (s.setDamper d r).flt = s.flt := rfl
@[simp] theorem State.setDamper_mgr (s : State) (d : Damper) (r : DamperRecord) : (s.setDamper d r).mgr = s.mgr := rfl
@[simp] theorem State.setDamper_acct (s : State) (d : Damper) (r : DamperRecord) : (s.setDamper d r).acct = s.acct := rfl
@[simp] theorem State.setDamper_ports (s : State) (d : Damper) (r : DamperRecord) : (s.setDamper d r).ports = s.ports := rfl
@[simp] theorem State.setDamper_panel (s : State) (d : Damper) (r : DamperRecord) : (s.setDamper d r).panel = s.panel := rfl
@[simp] theorem State.setDamper_events (s : State) (d : Damper) (r : DamperRecord) : (s.setDamper d r).events = s.events := rfl
@[simp] theorem State.setDamper_store (s : State) (d : Damper) (r : DamperRecord) : (s.setDamper d r).store = s.store := rfl
@[simp] theorem State.setDamper_tables (s : State) (d : Damper) (r : DamperRecord) : (s.setDamper d r).tables = s.tables := rfl

/-! ## setForced -/

@[simp] theorem State.setForced_clock (s : State) (g : Forced) : (s.setForced g).clock = s.clock := rfl
@[simp] theorem State.setForced_free (s : State) (g : Forced) : (s.setForced g).free = s.free := rfl
@[simp] theorem State.setForced_pending (s : State) (g : Forced) : (s.setForced g).pending = s.pending := rfl
@[simp] theorem State.setForced_ready (s : State) (g : Forced) : (s.setForced g).ready = s.ready := rfl
@[simp] theorem State.setForced_channels (s : State) (g : Forced) : (s.setForced g).channels = s.channels := rfl
@[simp] theorem State.setForced_zones (s : State) (g : Forced) : (s.setForced g).zones = s.zones := rfl
@[simp] theorem State.setForced_window (s : State) (g : Forced) : (s.setForced g).window = s.window := rfl
@[simp] theorem State.setForced_doors (s : State) (g : Forced) : (s.setForced g).doors = s.doors := rfl
@[simp] theorem State.setForced_arb (s : State) (g : Forced) : (s.setForced g).arb = s.arb := rfl
@[simp] theorem State.setForced_cyc (s : State) (g : Forced) : (s.setForced g).cyc = s.cyc := rfl
@[simp] theorem State.setForced_cap (s : State) (g : Forced) : (s.setForced g).cap = s.cap := rfl
@[simp] theorem State.setForced_link (s : State) (g : Forced) : (s.setForced g).link = s.link := rfl
@[simp] theorem State.setForced_flt (s : State) (g : Forced) : (s.setForced g).flt = s.flt := rfl
@[simp] theorem State.setForced_mgr (s : State) (g : Forced) : (s.setForced g).mgr = s.mgr := rfl
@[simp] theorem State.setForced_acct (s : State) (g : Forced) : (s.setForced g).acct = s.acct := rfl
@[simp] theorem State.setForced_ports (s : State) (g : Forced) : (s.setForced g).ports = s.ports := rfl
@[simp] theorem State.setForced_panel (s : State) (g : Forced) : (s.setForced g).panel = s.panel := rfl
@[simp] theorem State.setForced_events (s : State) (g : Forced) : (s.setForced g).events = s.events := rfl
@[simp] theorem State.setForced_store (s : State) (g : Forced) : (s.setForced g).store = s.store := rfl
@[simp] theorem State.setForced_tables (s : State) (g : Forced) : (s.setForced g).tables = s.tables := rfl

/-! ## setPowerCap -/

@[simp] theorem State.setPowerCap_clock (s : State) (c : Option PowerCap) : (s.setPowerCap c).clock = s.clock := rfl
@[simp] theorem State.setPowerCap_free (s : State) (c : Option PowerCap) : (s.setPowerCap c).free = s.free := rfl
@[simp] theorem State.setPowerCap_pending (s : State) (c : Option PowerCap) : (s.setPowerCap c).pending = s.pending := rfl
@[simp] theorem State.setPowerCap_ready (s : State) (c : Option PowerCap) : (s.setPowerCap c).ready = s.ready := rfl
@[simp] theorem State.setPowerCap_channels (s : State) (c : Option PowerCap) : (s.setPowerCap c).channels = s.channels := rfl
@[simp] theorem State.setPowerCap_zones (s : State) (c : Option PowerCap) : (s.setPowerCap c).zones = s.zones := rfl
@[simp] theorem State.setPowerCap_window (s : State) (c : Option PowerCap) : (s.setPowerCap c).window = s.window := rfl
@[simp] theorem State.setPowerCap_doors (s : State) (c : Option PowerCap) : (s.setPowerCap c).doors = s.doors := rfl
@[simp] theorem State.setPowerCap_arb (s : State) (c : Option PowerCap) : (s.setPowerCap c).arb = s.arb := rfl
@[simp] theorem State.setPowerCap_cyc (s : State) (c : Option PowerCap) : (s.setPowerCap c).cyc = s.cyc := rfl
@[simp] theorem State.setPowerCap_link (s : State) (c : Option PowerCap) : (s.setPowerCap c).link = s.link := rfl
@[simp] theorem State.setPowerCap_flt (s : State) (c : Option PowerCap) : (s.setPowerCap c).flt = s.flt := rfl
@[simp] theorem State.setPowerCap_act (s : State) (c : Option PowerCap) : (s.setPowerCap c).act = s.act := rfl
@[simp] theorem State.setPowerCap_mgr (s : State) (c : Option PowerCap) : (s.setPowerCap c).mgr = s.mgr := rfl
@[simp] theorem State.setPowerCap_acct (s : State) (c : Option PowerCap) : (s.setPowerCap c).acct = s.acct := rfl
@[simp] theorem State.setPowerCap_ports (s : State) (c : Option PowerCap) : (s.setPowerCap c).ports = s.ports := rfl
@[simp] theorem State.setPowerCap_panel (s : State) (c : Option PowerCap) : (s.setPowerCap c).panel = s.panel := rfl
@[simp] theorem State.setPowerCap_events (s : State) (c : Option PowerCap) : (s.setPowerCap c).events = s.events := rfl
@[simp] theorem State.setPowerCap_store (s : State) (c : Option PowerCap) : (s.setPowerCap c).store = s.store := rfl
@[simp] theorem State.setPowerCap_tables (s : State) (c : Option PowerCap) : (s.setPowerCap c).tables = s.tables := rfl

/-! ## clearStall -/

@[simp] theorem State.clearStall_clock (s : State) : (s.clearStall).clock = s.clock := rfl
@[simp] theorem State.clearStall_free (s : State) : (s.clearStall).free = s.free := rfl
@[simp] theorem State.clearStall_pending (s : State) : (s.clearStall).pending = s.pending := rfl
@[simp] theorem State.clearStall_ready (s : State) : (s.clearStall).ready = s.ready := rfl
@[simp] theorem State.clearStall_channels (s : State) : (s.clearStall).channels = s.channels := rfl
@[simp] theorem State.clearStall_zones (s : State) : (s.clearStall).zones = s.zones := rfl
@[simp] theorem State.clearStall_window (s : State) : (s.clearStall).window = s.window := rfl
@[simp] theorem State.clearStall_doors (s : State) : (s.clearStall).doors = s.doors := rfl
@[simp] theorem State.clearStall_arb (s : State) : (s.clearStall).arb = s.arb := rfl
@[simp] theorem State.clearStall_cyc (s : State) : (s.clearStall).cyc = s.cyc := rfl
@[simp] theorem State.clearStall_cap (s : State) : (s.clearStall).cap = s.cap := rfl
@[simp] theorem State.clearStall_link (s : State) : (s.clearStall).link = s.link := rfl
@[simp] theorem State.clearStall_act (s : State) : (s.clearStall).act = s.act := rfl
@[simp] theorem State.clearStall_mgr (s : State) : (s.clearStall).mgr = s.mgr := rfl
@[simp] theorem State.clearStall_acct (s : State) : (s.clearStall).acct = s.acct := rfl
@[simp] theorem State.clearStall_ports (s : State) : (s.clearStall).ports = s.ports := rfl
@[simp] theorem State.clearStall_panel (s : State) : (s.clearStall).panel = s.panel := rfl
@[simp] theorem State.clearStall_events (s : State) : (s.clearStall).events = s.events := rfl
@[simp] theorem State.clearStall_store (s : State) : (s.clearStall).store = s.store := rfl
@[simp] theorem State.clearStall_tables (s : State) : (s.clearStall).tables = s.tables := rfl

/-! ## beginStep -/

@[simp] theorem State.beginStep_clock (s : State) (i : Nat) : (s.beginStep i).clock = s.clock := rfl
@[simp] theorem State.beginStep_free (s : State) (i : Nat) : (s.beginStep i).free = s.free := rfl
@[simp] theorem State.beginStep_pending (s : State) (i : Nat) : (s.beginStep i).pending = s.pending := rfl
@[simp] theorem State.beginStep_ready (s : State) (i : Nat) : (s.beginStep i).ready = s.ready := rfl
@[simp] theorem State.beginStep_channels (s : State) (i : Nat) : (s.beginStep i).channels = s.channels := rfl
@[simp] theorem State.beginStep_zones (s : State) (i : Nat) : (s.beginStep i).zones = s.zones := rfl
@[simp] theorem State.beginStep_window (s : State) (i : Nat) : (s.beginStep i).window = s.window := rfl
@[simp] theorem State.beginStep_doors (s : State) (i : Nat) : (s.beginStep i).doors = s.doors := rfl
@[simp] theorem State.beginStep_arb (s : State) (i : Nat) : (s.beginStep i).arb = s.arb := rfl
@[simp] theorem State.beginStep_cyc (s : State) (i : Nat) : (s.beginStep i).cyc = s.cyc := rfl
@[simp] theorem State.beginStep_cap (s : State) (i : Nat) : (s.beginStep i).cap = s.cap := rfl
@[simp] theorem State.beginStep_link (s : State) (i : Nat) : (s.beginStep i).link = s.link := rfl
@[simp] theorem State.beginStep_flt (s : State) (i : Nat) : (s.beginStep i).flt = s.flt := rfl
@[simp] theorem State.beginStep_act (s : State) (i : Nat) : (s.beginStep i).act = s.act := rfl
@[simp] theorem State.beginStep_acct (s : State) (i : Nat) : (s.beginStep i).acct = s.acct := rfl
@[simp] theorem State.beginStep_ports (s : State) (i : Nat) : (s.beginStep i).ports = s.ports := rfl
@[simp] theorem State.beginStep_panel (s : State) (i : Nat) : (s.beginStep i).panel = s.panel := rfl
@[simp] theorem State.beginStep_events (s : State) (i : Nat) : (s.beginStep i).events = s.events := rfl
@[simp] theorem State.beginStep_store (s : State) (i : Nat) : (s.beginStep i).store = s.store := rfl
@[simp] theorem State.beginStep_tables (s : State) (i : Nat) : (s.beginStep i).tables = s.tables := rfl

/-! ## endAfterRun -/

@[simp] theorem State.endAfterRun_clock (s : State) : (s.endAfterRun).clock = s.clock := rfl
@[simp] theorem State.endAfterRun_free (s : State) : (s.endAfterRun).free = s.free := rfl
@[simp] theorem State.endAfterRun_pending (s : State) : (s.endAfterRun).pending = s.pending := rfl
@[simp] theorem State.endAfterRun_ready (s : State) : (s.endAfterRun).ready = s.ready := rfl
@[simp] theorem State.endAfterRun_channels (s : State) : (s.endAfterRun).channels = s.channels := rfl
@[simp] theorem State.endAfterRun_zones (s : State) : (s.endAfterRun).zones = s.zones := rfl
@[simp] theorem State.endAfterRun_window (s : State) : (s.endAfterRun).window = s.window := rfl
@[simp] theorem State.endAfterRun_doors (s : State) : (s.endAfterRun).doors = s.doors := rfl
@[simp] theorem State.endAfterRun_arb (s : State) : (s.endAfterRun).arb = s.arb := rfl
@[simp] theorem State.endAfterRun_cyc (s : State) : (s.endAfterRun).cyc = s.cyc := rfl
@[simp] theorem State.endAfterRun_cap (s : State) : (s.endAfterRun).cap = s.cap := rfl
@[simp] theorem State.endAfterRun_link (s : State) : (s.endAfterRun).link = s.link := rfl
@[simp] theorem State.endAfterRun_flt (s : State) : (s.endAfterRun).flt = s.flt := rfl
@[simp] theorem State.endAfterRun_mgr (s : State) : (s.endAfterRun).mgr = s.mgr := rfl
@[simp] theorem State.endAfterRun_acct (s : State) : (s.endAfterRun).acct = s.acct := rfl
@[simp] theorem State.endAfterRun_ports (s : State) : (s.endAfterRun).ports = s.ports := rfl
@[simp] theorem State.endAfterRun_panel (s : State) : (s.endAfterRun).panel = s.panel := rfl
@[simp] theorem State.endAfterRun_events (s : State) : (s.endAfterRun).events = s.events := rfl
@[simp] theorem State.endAfterRun_store (s : State) : (s.endAfterRun).store = s.store := rfl
@[simp] theorem State.endAfterRun_tables (s : State) : (s.endAfterRun).tables = s.tables := rfl

/-! ## endFanDelay -/

@[simp] theorem State.endFanDelay_clock (s : State) : (s.endFanDelay).clock = s.clock := rfl
@[simp] theorem State.endFanDelay_free (s : State) : (s.endFanDelay).free = s.free := rfl
@[simp] theorem State.endFanDelay_pending (s : State) : (s.endFanDelay).pending = s.pending := rfl
@[simp] theorem State.endFanDelay_ready (s : State) : (s.endFanDelay).ready = s.ready := rfl
@[simp] theorem State.endFanDelay_channels (s : State) : (s.endFanDelay).channels = s.channels := rfl
@[simp] theorem State.endFanDelay_zones (s : State) : (s.endFanDelay).zones = s.zones := rfl
@[simp] theorem State.endFanDelay_window (s : State) : (s.endFanDelay).window = s.window := rfl
@[simp] theorem State.endFanDelay_doors (s : State) : (s.endFanDelay).doors = s.doors := rfl
@[simp] theorem State.endFanDelay_arb (s : State) : (s.endFanDelay).arb = s.arb := rfl
@[simp] theorem State.endFanDelay_cyc (s : State) : (s.endFanDelay).cyc = s.cyc := rfl
@[simp] theorem State.endFanDelay_cap (s : State) : (s.endFanDelay).cap = s.cap := rfl
@[simp] theorem State.endFanDelay_link (s : State) : (s.endFanDelay).link = s.link := rfl
@[simp] theorem State.endFanDelay_flt (s : State) : (s.endFanDelay).flt = s.flt := rfl
@[simp] theorem State.endFanDelay_mgr (s : State) : (s.endFanDelay).mgr = s.mgr := rfl
@[simp] theorem State.endFanDelay_acct (s : State) : (s.endFanDelay).acct = s.acct := rfl
@[simp] theorem State.endFanDelay_ports (s : State) : (s.endFanDelay).ports = s.ports := rfl
@[simp] theorem State.endFanDelay_panel (s : State) : (s.endFanDelay).panel = s.panel := rfl
@[simp] theorem State.endFanDelay_events (s : State) : (s.endFanDelay).events = s.events := rfl
@[simp] theorem State.endFanDelay_store (s : State) : (s.endFanDelay).store = s.store := rfl
@[simp] theorem State.endFanDelay_tables (s : State) : (s.endFanDelay).tables = s.tables := rfl

/-! ## raiseAll -/

theorem State.raiseAll_eq (s : State) (ks : List EventKind) : s.raiseAll ks = { s with events := (s.raiseAll ks).events } := by
  unfold State.raiseAll
  induction ks generalizing s with
  | nil => rfl
  | cons k l ih => rw [List.foldl_cons, ih]; rfl

@[simp] theorem State.raiseAll_clock (s : State) (ks : List EventKind) : (s.raiseAll ks).clock = s.clock := by rw [State.raiseAll_eq]
@[simp] theorem State.raiseAll_free (s : State) (ks : List EventKind) : (s.raiseAll ks).free = s.free := by rw [State.raiseAll_eq]
@[simp] theorem State.raiseAll_pending (s : State) (ks : List EventKind) : (s.raiseAll ks).pending = s.pending := by rw [State.raiseAll_eq]
@[simp] theorem State.raiseAll_ready (s : State) (ks : List EventKind) : (s.raiseAll ks).ready = s.ready := by rw [State.raiseAll_eq]
@[simp] theorem State.raiseAll_channels (s : State) (ks : List EventKind) : (s.raiseAll ks).channels = s.channels := by rw [State.raiseAll_eq]
@[simp] theorem State.raiseAll_zones (s : State) (ks : List EventKind) : (s.raiseAll ks).zones = s.zones := by rw [State.raiseAll_eq]
@[simp] theorem State.raiseAll_window (s : State) (ks : List EventKind) : (s.raiseAll ks).window = s.window := by rw [State.raiseAll_eq]
@[simp] theorem State.raiseAll_doors (s : State) (ks : List EventKind) : (s.raiseAll ks).doors = s.doors := by rw [State.raiseAll_eq]
@[simp] theorem State.raiseAll_arb (s : State) (ks : List EventKind) : (s.raiseAll ks).arb = s.arb := by rw [State.raiseAll_eq]
@[simp] theorem State.raiseAll_cyc (s : State) (ks : List EventKind) : (s.raiseAll ks).cyc = s.cyc := by rw [State.raiseAll_eq]
@[simp] theorem State.raiseAll_cap (s : State) (ks : List EventKind) : (s.raiseAll ks).cap = s.cap := by rw [State.raiseAll_eq]
@[simp] theorem State.raiseAll_link (s : State) (ks : List EventKind) : (s.raiseAll ks).link = s.link := by rw [State.raiseAll_eq]
@[simp] theorem State.raiseAll_flt (s : State) (ks : List EventKind) : (s.raiseAll ks).flt = s.flt := by rw [State.raiseAll_eq]
@[simp] theorem State.raiseAll_act (s : State) (ks : List EventKind) : (s.raiseAll ks).act = s.act := by rw [State.raiseAll_eq]
@[simp] theorem State.raiseAll_mgr (s : State) (ks : List EventKind) : (s.raiseAll ks).mgr = s.mgr := by rw [State.raiseAll_eq]
@[simp] theorem State.raiseAll_acct (s : State) (ks : List EventKind) : (s.raiseAll ks).acct = s.acct := by rw [State.raiseAll_eq]
@[simp] theorem State.raiseAll_ports (s : State) (ks : List EventKind) : (s.raiseAll ks).ports = s.ports := by rw [State.raiseAll_eq]
@[simp] theorem State.raiseAll_panel (s : State) (ks : List EventKind) : (s.raiseAll ks).panel = s.panel := by rw [State.raiseAll_eq]
@[simp] theorem State.raiseAll_store (s : State) (ks : List EventKind) : (s.raiseAll ks).store = s.store := by rw [State.raiseAll_eq]
@[simp] theorem State.raiseAll_tables (s : State) (ks : List EventKind) : (s.raiseAll ks).tables = s.tables := by rw [State.raiseAll_eq]

end Sys2Proof.Machine
end

