-- ==== Sys2Proof/Laws/Turn.lean ====
section
/-!
SUPPORT. What the operations of the cycle controller and of the arbiter can change: the arbiter, the cycle record, the drive fault
record, and of the actuator block the valve, the run-on, the after-run and the fan delay. One lemma for each operation.
-/
namespace Sys2Proof.Machine

/-- Two states differ at most in what a turn moves. -/
def TurnOnly (s t : State) : Prop :=
  ∃ a c f v ro ar fd,
    t = { s with
      arb := a, cyc := c, flt := f,
      act := { s.act with valve := v, runOn := ro, afterRun := ar, fanDelay := fd } }

theorem TurnOnly.refl (s : State) : TurnOnly s s :=
  ⟨s.arb, s.cyc, s.flt, s.act.valve, s.act.runOn, s.act.afterRun, s.act.fanDelay, rfl⟩

theorem TurnOnly.trans {s t u : State} (h : TurnOnly s t) (k : TurnOnly t u) : TurnOnly s u := by
  obtain ⟨a, c, f, v, ro, ar, fd, rfl⟩ := h
  obtain ⟨a', c', f', v', ro', ar', fd', rfl⟩ := k
  exact ⟨a', c', f', v', ro', ar', fd', rfl⟩

/-- A change of the arbiter, the cycle record and the drive fault record alone. -/
theorem TurnOnly.records (s : State) (a : Arbiter) (c : CycleRecord) (f : DriveFaultRecord) :
    TurnOnly s { s with arb := a, cyc := c, flt := f } := ⟨a, c, f, _, _, _, _, rfl⟩

theorem TurnOnly.arb (s : State) (a : Arbiter) : TurnOnly s { s with arb := a } := TurnOnly.records s a s.cyc s.flt

theorem TurnOnly.clock {s t : State} (h : TurnOnly s t) : t.clock = s.clock := by
  obtain ⟨_, _, _, _, _, _, _, rfl⟩ := h; rfl

theorem TurnOnly.now {s t : State} (h : TurnOnly s t) : t.now = s.now := by
  obtain ⟨_, _, _, _, _, _, _, rfl⟩ := h; rfl

theorem TurnOnly.free {s t : State} (h : TurnOnly s t) : t.free = s.free := by
  obtain ⟨_, _, _, _, _, _, _, rfl⟩ := h; rfl

theorem TurnOnly.pending {s t : State} (h : TurnOnly s t) : t.pending = s.pending := by
  obtain ⟨_, _, _, _, _, _, _, rfl⟩ := h; rfl

theorem TurnOnly.ready {s t : State} (h : TurnOnly s t) : t.ready = s.ready := by
  obtain ⟨_, _, _, _, _, _, _, rfl⟩ := h; rfl

theorem TurnOnly.channels {s t : State} (h : TurnOnly s t) : t.channels = s.channels := by
  obtain ⟨_, _, _, _, _, _, _, rfl⟩ := h; rfl

theorem TurnOnly.zones {s t : State} (h : TurnOnly s t) : t.zones = s.zones := by
  obtain ⟨_, _, _, _, _, _, _, rfl⟩ := h; rfl

theorem TurnOnly.window {s t : State} (h : TurnOnly s t) : t.window = s.window := by
  obtain ⟨_, _, _, _, _, _, _, rfl⟩ := h; rfl

theorem TurnOnly.doors {s t : State} (h : TurnOnly s t) : t.doors = s.doors := by
  obtain ⟨_, _, _, _, _, _, _, rfl⟩ := h; rfl

theorem TurnOnly.cap {s t : State} (h : TurnOnly s t) : t.cap = s.cap := by
  obtain ⟨_, _, _, _, _, _, _, rfl⟩ := h; rfl

theorem TurnOnly.link {s t : State} (h : TurnOnly s t) : t.link = s.link := by
  obtain ⟨_, _, _, _, _, _, _, rfl⟩ := h; rfl

theorem TurnOnly.forced {s t : State} (h : TurnOnly s t) : t.act.forced = s.act.forced := by
  obtain ⟨_, _, _, _, _, _, _, rfl⟩ := h; rfl

theorem TurnOnly.mgr {s t : State} (h : TurnOnly s t) : t.mgr = s.mgr := by
  obtain ⟨_, _, _, _, _, _, _, rfl⟩ := h; rfl

theorem TurnOnly.acct {s t : State} (h : TurnOnly s t) : t.acct = s.acct := by
  obtain ⟨_, _, _, _, _, _, _, rfl⟩ := h; rfl

theorem TurnOnly.ports {s t : State} (h : TurnOnly s t) : t.ports = s.ports := by
  obtain ⟨_, _, _, _, _, _, _, rfl⟩ := h; rfl

theorem TurnOnly.panel {s t : State} (h : TurnOnly s t) : t.panel = s.panel := by
  obtain ⟨_, _, _, _, _, _, _, rfl⟩ := h; rfl

theorem TurnOnly.events {s t : State} (h : TurnOnly s t) : t.events = s.events := by
  obtain ⟨_, _, _, _, _, _, _, rfl⟩ := h; rfl

theorem TurnOnly.store {s t : State} (h : TurnOnly s t) : t.store = s.store := by
  obtain ⟨_, _, _, _, _, _, _, rfl⟩ := h; rfl

theorem TurnOnly.tables {s t : State} (h : TurnOnly s t) : t.tables = s.tables := by
  obtain ⟨_, _, _, _, _, _, _, rfl⟩ := h; rfl

/-! ## The cycle controller's operations -/

theorem State.leaveRunning_turn (s : State) : TurnOnly s s.leaveRunning := by
  unfold State.leaveRunning; split
  · exact ⟨_, _, _, _, _, _, _, rfl⟩
  · exact .refl s

theorem State.clearStall_turn (s : State) : TurnOnly s s.clearStall := .records s s.arb s.cyc _

theorem State.markStopped_turn (s : State) : TurnOnly s s.markStopped := .records s s.arb _ s.flt

theorem State.markStopCommanded_turn (s : State) : TurnOnly s s.markStopCommanded := .records s s.arb _ s.flt

theorem State.requestValve_turn (s : State) (p : Path) : TurnOnly s (s.requestValve p) := ⟨_, _, _, _, _, _, _, rfl⟩

theorem State.enterRunPhase_turn (s : State) (v : Nat) : TurnOnly s (s.enterRunPhase v) := .records s s.arb _ _

theorem State.enterStarting_turn (s : State) (p : Option Path) (ph : StartPhase) : TurnOnly s (s.enterStarting p ph) :=
  ⟨_, _, _, _, _, _, _, rfl⟩

theorem State.stopOrder_turn (s : State) : TurnOnly s s.stopOrder := by
  unfold State.stopOrder; split
  · exact .refl s
  · exact (s.leaveRunning_turn.trans (State.clearStall_turn _)).trans (.records _ _ _ _)

theorem State.enterOff_turn (s : State) : TurnOnly s s.enterOff :=
  (s.leaveRunning_turn.trans (State.clearStall_turn _)).trans ⟨_, _, _, _, _, _, _, rfl⟩

theorem State.startOrder_turn (s : State) (p : Path) : TurnOnly s (s.startOrder p) := by
  unfold State.startOrder
  refine (s.enterStarting_turn (some p) .valve).trans ?_
  dsimp only; split
  · exact State.enterRunPhase_turn _ _
  · exact State.requestValve_turn _ _

theorem State.transferOrder_turn (s : State) (q : Path) : TurnOnly s (s.transferOrder q) :=
  (s.leaveRunning_turn.trans (.records _ _ _ _)).trans (State.requestValve_turn _ q)

theorem Actuators.onRunning_eq (x : Actuators) (p : Option Path) :
    ∃ ar fd, x.onRunning p = { x with afterRun := ar, fanDelay := fd } := by
  unfold Actuators.onRunning; split <;> exact ⟨_, _, rfl⟩

theorem State.enterRunningFromStart_turn (s : State) : TurnOnly s s.enterRunningFromStart := by
  obtain ⟨ar, fd, h⟩ := s.act.onRunning_eq s.cyc.path
  unfold State.enterRunningFromStart
  dsimp only
  rw [h]
  exact ⟨_, _, _, _, _, _, _, rfl⟩

theorem State.enterRunningFromTransfer_turn (s : State) : TurnOnly s s.enterRunningFromTransfer := by
  obtain ⟨ar, fd, h⟩ := s.act.onRunning_eq s.cyc.path
  unfold State.enterRunningFromTransfer
  rw [h]
  exact ⟨_, _, _, _, _, _, _, rfl⟩

theorem State.updateSpeed_turn (s : State) : TurnOnly s s.updateSpeed := .records s s.arb _ s.flt

theorem State.applyCaps_turn (s : State) : TurnOnly s s.applyCaps := by
  unfold State.applyCaps; repeat' split
  all_goals first | exact .refl s | exact .records s s.arb _ s.flt

theorem State.capLifted_turn (s : State) : TurnOnly s s.capLifted := by
  unfold State.capLifted; repeat' split
  all_goals first | exact .refl s | exact .records s s.arb _ s.flt

/-! ## The arbiter's operations -/

theorem State.handStop_turn (s : State) : TurnOnly s s.handStop := (TurnOnly.arb s _).trans (State.stopOrder_turn _)

theorem State.handTransfer_turn (s : State) (q : Path) : TurnOnly s (s.handTransfer q) :=
  (TurnOnly.arb s _).trans (State.transferOrder_turn _ q)

theorem State.startCheck_turn (s : State) : TurnOnly s s.startCheck := by
  unfold State.startCheck; split
  · dsimp only; split
    · exact .refl s
    · exact (TurnOnly.arb s _).trans (State.startOrder_turn _ _)
  · exact .refl s

theorem State.candidateCheck_turn (s : State) : TurnOnly s s.candidateCheck := by
  unfold State.candidateCheck; split
  · split
    · exact .refl s
    · dsimp only; split
      · exact State.handTransfer_turn _ _
      · split
        · exact (TurnOnly.arb s _).trans (State.handTransfer_turn _ _)
        · exact .refl s
  · exact .refl s

theorem State.arbiterCheck_turn (s : State) : TurnOnly s s.arbiterCheck := by
  unfold State.arbiterCheck; split
  · exact s.startCheck_turn
  · exact s.candidateCheck_turn

theorem State.servedEmptied_turn (s : State) : TurnOnly s s.servedEmptied := by
  unfold State.servedEmptied; split
  · exact State.handTransfer_turn _ _
  · split
    · exact s.handStop_turn
    · exact TurnOnly.arb s _

theorem State.reportRunning_turn (s : State) : TurnOnly s s.reportRunning := by
  unfold State.reportRunning; split
  · exact s.servedEmptied_turn
  · exact .refl s

theorem State.reportOff_turn (s : State) : TurnOnly s s.reportOff := (TurnOnly.arb s _).trans (State.startCheck_turn _)

theorem State.join_turn (s : State) (z : Zone) (ps : PathSet) (l : CallLevel) : TurnOnly s (s.join z ps l) := by
  unfold State.join
  dsimp only; split
  all_goals split
  all_goals first
    | exact TurnOnly.arb s _
    | exact (TurnOnly.arb s _).trans (State.arbiterCheck_turn _)

theorem State.leave_turn (s : State) (z : Zone) : TurnOnly s (s.leave z) := by
  unfold State.leave
  dsimp only; split
  · exact (TurnOnly.arb s _).trans (State.servedEmptied_turn _)
  · exact TurnOnly.arb s _

theorem State.levelUpdate_turn (s : State) (z : Zone) (l : CallLevel) : TurnOnly s (s.levelUpdate z l) := TurnOnly.arb s _

theorem State.demandChanged_turn (s : State) (z : Zone) (b a : Demand) (ps : PathSet) : TurnOnly s (s.demandChanged z b a ps) := by
  unfold State.demandChanged; split
  · exact .refl s
  · exact s.join_turn _ _ _
  · exact s.leave_turn _
  · split
    · exact .refl s
    · exact s.levelUpdate_turn _ _

theorem State.demandEvaluated_turn (s : State) (z : Zone) (b a : Demand) (ps : PathSet) :
    TurnOnly s (s.demandEvaluated z b a ps) := by
  unfold State.demandEvaluated; split
  · split
    · split
      · exact s.demandChanged_turn _ _ _ _
      · exact (s.leave_turn _).trans (State.join_turn _ _ _ _)
    · exact s.demandChanged_turn _ _ _ _
  · exact s.demandChanged_turn _ _ _ _

theorem State.giveUp_turn (s : State) : TurnOnly s s.giveUp := by
  unfold State.giveUp
  dsimp only; split
  · split
    · exact (TurnOnly.arb s _).trans (State.handTransfer_turn _ _)
    · exact (TurnOnly.arb s _).trans (State.handStop_turn _)
  · exact (TurnOnly.arb s _).trans (State.handStop_turn _)

theorem State.release_turn (s : State) (p : Path) : TurnOnly s (s.release p) := by
  unfold State.release; split
  · exact s.giveUp_turn
  · exact .refl s

theorem State.pathFault_turn (s : State) (p : Path) : TurnOnly s (s.pathFault p) := by
  unfold State.pathFault
  dsimp only; split
  · exact (TurnOnly.arb s _).trans (State.giveUp_turn _)
  · exact TurnOnly.arb s _

theorem State.goodRunning_turn (s : State) (p : Path) : TurnOnly s (s.goodRunning p) := TurnOnly.arb s _

theorem State.faultTimerOut_turn (s : State) (p : Path) : TurnOnly s (s.faultTimerOut p) :=
  (TurnOnly.arb s _).trans (State.arbiterCheck_turn _)

theorem State.block_turn (s : State) (p : Path) : TurnOnly s (s.block p) := TurnOnly.arb s _

theorem State.unblock_turn (s : State) (p : Path) : TurnOnly s (s.unblock p) :=
  (TurnOnly.arb s _).trans (State.arbiterCheck_turn _)

theorem State.endCompressorHold_turn (s : State) : TurnOnly s s.endCompressorHold :=
  (TurnOnly.arb s _).trans (State.startCheck_turn _)

theorem State.reportFailure_turn (s : State) : TurnOnly s s.reportFailure := TurnOnly.arb s _

theorem State.compressorLost_turn (s : State) : TurnOnly s s.compressorLost := by
  unfold State.compressorLost
  refine s.markStopped_turn.trans ?_
  split
  · exact .refl _
  · exact (State.enterOff_turn _).trans (State.reportOff_turn _)
  all_goals
    exact ((State.enterOff_turn _).trans (State.markStopCommanded_turn _)).trans (State.reportFailure_turn _)

theorem State.arbiterHoldEntry_turn (s : State) : TurnOnly s s.arbiterHoldEntry := by
  unfold State.arbiterHoldEntry; split
  · exact (TurnOnly.arb s _).trans (State.handStop_turn _)
  · exact .refl s

theorem State.stopped_turn (s : State) : TurnOnly s s.stopped :=
  (s.markStopped_turn.trans (State.enterOff_turn _)).trans (State.reportOff_turn _)

theorem State.completeTransfer_turn (s : State) : TurnOnly s s.completeTransfer :=
  s.enterRunningFromTransfer_turn.trans (State.reportRunning_turn _)

theorem State.turnReport_turn (s : State) : TurnOnly s s.turnReport :=
  (TurnOnly.records s _ _ _).trans (State.candidateCheck_turn _)

theorem State.onTimeReport_turn (s : State) : TurnOnly s s.onTimeReport := by
  unfold State.onTimeReport
  dsimp only; split
  · exact (TurnOnly.records s s.arb _ s.flt).trans (State.handStop_turn _)
  · exact .records s s.arb _ s.flt

theorem State.valveReport_turn (s : State) (p : Path) : TurnOnly s (s.valveReport p) := by
  unfold State.valveReport; split
  · exact s.enterRunPhase_turn _
  · split
    · exact s.completeTransfer_turn
    · exact .refl s

theorem State.cycleReply_turn (s : State) (r : DriveReply) : TurnOnly s (s.cycleReply r) := by
  unfold State.cycleReply; split
  · exact s.enterRunningFromStart_turn.trans (State.reportRunning_turn _)
  · split
    · exact s.stopped_turn
    · exact .refl s

end Sys2Proof.Machine
end

