-- ==== Sys2Proof/Laws/Manager.lean ====
section
/-!
SUPPORT. What the operations of the defrost manager can change, with what they hand to the arbiter and the actuator block, and what a
hand-over of the cycle state therefore leaves as it was. One lemma for each operation.
-/
namespace Sys2Proof.Machine

/-- Two states differ at most in what the defrost manager moves: its record, the accounting, the window, the events, the dirty
mark, the lower heater's limit, and what a turn moves. -/
def ManagerOnly (s t : State) : Prop :=
  ∃ w a c f v ro ar fd h m x e d q,
    t = { s with
      window := w, arb := a, cyc := c, flt := f,
      act := { s.act with valve := v, runOn := ro, afterRun := ar, fanDelay := fd, lowerHeater := h },
      mgr := m, acct := x, events := e, store := { s.store with dirty := d, quiet := q } }

theorem TurnOnly.manager {s t : State} (h : TurnOnly s t) : ManagerOnly s t := by
  obtain ⟨a, c, f, v, ro, ar, fd, rfl⟩ := h
  exact ⟨_, _, _, _, _, _, _, _, _, _, _, _, _, _, rfl⟩

theorem ManagerOnly.refl (s : State) : ManagerOnly s s := (TurnOnly.refl s).manager

theorem ManagerOnly.trans {s t u : State} (h : ManagerOnly s t) (k : ManagerOnly t u) : ManagerOnly s u := by
  obtain ⟨_, _, _, _, _, _, _, _, _, _, _, _, _, _, rfl⟩ := h
  obtain ⟨_, _, _, _, _, _, _, _, _, _, _, _, _, _, rfl⟩ := k
  exact ⟨_, _, _, _, _, _, _, _, _, _, _, _, _, _, rfl⟩

theorem ManagerOnly.mgr (s : State) (m : Manager) : ManagerOnly s { s with mgr := m } :=
  ⟨_, _, _, _, _, _, _, _, _, _, _, _, _, _, rfl⟩

theorem ManagerOnly.raise (s : State) (k : EventKind) : ManagerOnly s (s.raise k) :=
  ⟨_, _, _, _, _, _, _, _, _, _, _, _, _, _, rfl⟩

theorem ManagerOnly.now {s t : State} (h : ManagerOnly s t) : t.now = s.now := by
  obtain ⟨_, _, _, _, _, _, _, _, _, _, _, _, _, _, rfl⟩ := h; rfl

theorem ManagerOnly.forced {s t : State} (h : ManagerOnly s t) : t.act.forced = s.act.forced := by
  obtain ⟨_, _, _, _, _, _, _, _, _, _, _, _, _, _, rfl⟩ := h; rfl

theorem ManagerOnly.clock {s t : State} (h : ManagerOnly s t) : t.clock = s.clock := by
  obtain ⟨_, _, _, _, _, _, _, _, _, _, _, _, _, _, rfl⟩ := h; rfl

theorem ManagerOnly.free {s t : State} (h : ManagerOnly s t) : t.free = s.free := by
  obtain ⟨_, _, _, _, _, _, _, _, _, _, _, _, _, _, rfl⟩ := h; rfl

theorem ManagerOnly.pending {s t : State} (h : ManagerOnly s t) : t.pending = s.pending := by
  obtain ⟨_, _, _, _, _, _, _, _, _, _, _, _, _, _, rfl⟩ := h; rfl

theorem ManagerOnly.ready {s t : State} (h : ManagerOnly s t) : t.ready = s.ready := by
  obtain ⟨_, _, _, _, _, _, _, _, _, _, _, _, _, _, rfl⟩ := h; rfl

theorem ManagerOnly.channels {s t : State} (h : ManagerOnly s t) : t.channels = s.channels := by
  obtain ⟨_, _, _, _, _, _, _, _, _, _, _, _, _, _, rfl⟩ := h; rfl

theorem ManagerOnly.zones {s t : State} (h : ManagerOnly s t) : t.zones = s.zones := by
  obtain ⟨_, _, _, _, _, _, _, _, _, _, _, _, _, _, rfl⟩ := h; rfl

theorem ManagerOnly.doors {s t : State} (h : ManagerOnly s t) : t.doors = s.doors := by
  obtain ⟨_, _, _, _, _, _, _, _, _, _, _, _, _, _, rfl⟩ := h; rfl

theorem ManagerOnly.cap {s t : State} (h : ManagerOnly s t) : t.cap = s.cap := by
  obtain ⟨_, _, _, _, _, _, _, _, _, _, _, _, _, _, rfl⟩ := h; rfl

theorem ManagerOnly.link {s t : State} (h : ManagerOnly s t) : t.link = s.link := by
  obtain ⟨_, _, _, _, _, _, _, _, _, _, _, _, _, _, rfl⟩ := h; rfl

theorem ManagerOnly.ports {s t : State} (h : ManagerOnly s t) : t.ports = s.ports := by
  obtain ⟨_, _, _, _, _, _, _, _, _, _, _, _, _, _, rfl⟩ := h; rfl

theorem ManagerOnly.panel {s t : State} (h : ManagerOnly s t) : t.panel = s.panel := by
  obtain ⟨_, _, _, _, _, _, _, _, _, _, _, _, _, _, rfl⟩ := h; rfl

theorem ManagerOnly.tables {s t : State} (h : ManagerOnly s t) : t.tables = s.tables := by
  obtain ⟨_, _, _, _, _, _, _, _, _, _, _, _, _, _, rfl⟩ := h; rfl

/-! ## The manager's operations -/

theorem State.beginStep_manager (s : State) (i : Nat) : ManagerOnly s (s.beginStep i) := .mgr s _

theorem State.beginProgram_manager (s : State) (g : Program) : ManagerOnly s (s.beginProgram g) := by
  unfold State.beginProgram
  cases g.compressorOff <;> cases g.path <;> exact ⟨_, _, _, _, _, _, _, _, _, _, _, _, _, _, rfl⟩

theorem State.beginTest_manager (s : State) : ManagerOnly s s.beginTest := by
  unfold State.beginTest; split
  · split
    · exact s.beginProgram_manager _
    · exact .refl s
  · exact .refl s

theorem State.askRelease_manager (s : State) (p : Path) : ManagerOnly s (s.askRelease p) :=
  ManagerOnly.trans (.mgr s _) (State.release_turn _ _).manager

theorem State.managerReact_manager (s : State) : ManagerOnly s s.managerReact := by
  unfold State.managerReact; split
  · split
    · exact (s.askRelease_manager _).trans (State.beginTest_manager _)
    · exact s.beginTest_manager
  · exact .refl s

theorem State.handOver_manager (s t : State) : ManagerOnly t (State.handOver s t) := by
  unfold State.handOver; split
  · exact t.managerReact_manager
  · exact .refl t

theorem State.beginWait_manager (s : State) (n : Nat) : ManagerOnly s (s.beginWait n) :=
  ManagerOnly.trans (.mgr s _) (State.managerReact_manager _)

theorem State.enterDue_manager (s : State) : ManagerOnly s s.enterDue := by
  unfold State.enterDue
  dsimp only; split
  · exact .mgr s _
  · exact ManagerOnly.trans (.mgr s _) (State.beginWait_manager _ _)

theorem State.dueTest_manager (s : State) : ManagerOnly s s.dueTest := by
  unfold State.dueTest; split
  · exact s.enterDue_manager
  · exact .refl s

/-- Until READY the due test does nothing: the first is made when it rises (R148, R170). -/
theorem State.dueTest_before_ready {s : State} (h : s.ready = false) : s.dueTest = s := by
  unfold State.dueTest; simp [h]

theorem State.credit_manager (s : State) (n : Nat) : ManagerOnly s (s.credit n) :=
  ManagerOnly.trans ⟨_, _, _, _, _, _, _, _, _, _, _, _, _, _, rfl⟩ (State.dueTest_manager _)

theorem State.programEnded_manager (s : State) (g : Program) : ManagerOnly s (s.programEnded g) := by
  unfold State.programEnded
  dsimp only
  cases g.path <;> dsimp only <;> split
  all_goals first
    | exact ManagerOnly.trans ⟨_, _, _, _, _, _, _, _, _, _, _, _, _, _, rfl⟩
        ((State.unblock_turn _ _).trans (State.endCompressorHold_turn _)).manager
    | exact ManagerOnly.trans ⟨_, _, _, _, _, _, _, _, _, _, _, _, _, _, rfl⟩ (State.unblock_turn _ _).manager

theorem State.recordOutcome_manager (s : State) (o : ProgramOutcome) : ManagerOnly s (s.recordOutcome o) := .mgr s _

theorem State.accountCompletion_manager (s : State) : ManagerOnly s s.accountCompletion :=
  ⟨_, _, _, _, _, _, _, _, _, _, _, _, _, _, rfl⟩

theorem State.complete_manager (s : State) (g : Program) : ManagerOnly s (s.complete g) := by
  unfold State.complete
  dsimp only
  refine (s.recordOutcome_manager .completed).trans ?_
  cases g.path <;> dsimp only
  · exact (((State.programEnded_manager _ g).trans (.raise _ _)).trans (.mgr _ _)).trans (State.dueTest_manager _)
  · exact (State.accountCompletion_manager _).trans
      ((((State.programEnded_manager _ g).trans (.raise _ _)).trans (.mgr _ _)).trans (State.dueTest_manager _))

theorem State.exitEnded_manager (s : State) (g : Program) : ManagerOnly s (s.exitEnded g) :=
  (((s.recordOutcome_manager .aborted).trans (State.programEnded_manager _ g)).trans (.raise _ _)).trans (.mgr _ _)

theorem State.abort_manager (s : State) (g : Program) : ManagerOnly s (s.abort g) :=
  ManagerOnly.trans (.mgr s _) (State.beginStep_manager _ _)

theorem State.cancelManager_manager (s : State) : ManagerOnly s s.cancelManager := by
  unfold State.cancelManager
  dsimp only; split
  · exact (((s.recordOutcome_manager .cancelled).trans (State.programEnded_manager _ _)).trans (.raise _ _)).trans (.mgr _ _)
  · exact .mgr s _

theorem State.measureStep_manager (s : State) (c : EndCause) : ManagerOnly s (s.measureStep c) := .mgr s _

theorem State.noteStepEnd_manager (s : State) (st : Step) (c : EndCause) : ManagerOnly s (s.noteStepEnd st c) := by
  have h1 : ∀ (b : Prop) [Decidable b] (x y : State), ManagerOnly s x → ManagerOnly s y → ManagerOnly s (if b then x else y) := by
    intro b _ x y hx hy; split
    · exact hx
    · exact hy
  unfold State.noteStepEnd
  have ha := h1 (c = .timeout) (s.raise .stepTimeout) s (.raise s _) (.refl s)
  have hb := h1 (st.notify = true) _ _ (ha.trans (.raise _ .programStep)) ha
  exact h1 (st.measure = true) _ _ (hb.trans (State.measureStep_manager _ c)) hb

theorem State.endStep_manager (s : State) (g : Program) (st : Step) (c : EndCause) : ManagerOnly s (s.endStep g st c) := by
  unfold State.endStep
  dsimp only
  refine (s.noteStepEnd_manager st c).trans ?_
  repeat' split
  · exact State.abort_manager _ g
  · exact State.complete_manager _ g
  · exact State.exitEnded_manager _ g
  · exact State.beginStep_manager _ _

theorem State.stepReport_manager (s : State) (r : Report) : ManagerOnly s (s.stepReport r) := by
  unfold State.stepReport; split
  · split
    · exact s.endStep_manager _ _ _
    · exact .refl s
  · exact .refl s

theorem State.heaterLimitToManager_manager (s : State) : ManagerOnly s s.heaterLimitToManager := by
  unfold State.heaterLimitToManager; split
  · exact s.abort_manager _
  · exact .refl s

theorem State.stepEnds_manager (s : State) (c : EndCause) : ManagerOnly s (s.stepEnds c) := by
  unfold State.stepEnds; split
  · exact s.endStep_manager _ _ _
  · exact .refl s

theorem State.pathWaitOver_manager (s : State) : ManagerOnly s s.pathWaitOver := by
  unfold State.pathWaitOver; split
  · exact (s.askRelease_manager _).trans (State.beginTest_manager _)
  · exact .refl s

theorem State.endDeferral_manager (s : State) : ManagerOnly s s.endDeferral := s.beginWait_manager _

theorem State.endHoldoff_manager (s : State) : ManagerOnly s s.endHoldoff :=
  ManagerOnly.trans (.mgr s _) (State.dueTest_manager _)

/-! ## Drive faults and losses -/

theorem State.driveLoss_manager (s : State) : ManagerOnly s s.driveLoss := s.compressorLost_turn.manager.trans (.raise _ _)

theorem State.driveFault_manager (s : State) (c : DriveFaultCause) (n : Nat) : ManagerOnly s (s.driveFault c n) := by
  have h := s.compressorLost_turn.manager.trans (.raise _ .driveFault)
  unfold State.driveFault
  dsimp only; split
  · exact (h.trans (TurnOnly.records _ _ _ _).manager).trans (.raise _ _)
  · exact h.trans (TurnOnly.records _ _ _ _).manager

theorem State.faultEvent_manager (s : State) (c : DriveFaultCause) (n : Nat) : ManagerOnly s (s.faultEvent c n) := by
  unfold State.faultEvent
  dsimp only; split
  · exact (s.driveFault_manager c n).trans (State.managerReact_manager _)
  · exact s.driveFault_manager c n

/-! ## The end of a command -/

@[simp] theorem State.handOver_clock (s t : State) : (State.handOver s t).clock = t.clock := (State.handOver_manager s t).clock

@[simp] theorem State.handOver_free (s t : State) : (State.handOver s t).free = t.free := (State.handOver_manager s t).free

@[simp] theorem State.handOver_pending (s t : State) : (State.handOver s t).pending = t.pending := (State.handOver_manager s t).pending

@[simp] theorem State.handOver_ready (s t : State) : (State.handOver s t).ready = t.ready := (State.handOver_manager s t).ready

@[simp] theorem State.handOver_channels (s t : State) : (State.handOver s t).channels = t.channels := (State.handOver_manager s t).channels

@[simp] theorem State.handOver_zones (s t : State) : (State.handOver s t).zones = t.zones := (State.handOver_manager s t).zones

@[simp] theorem State.handOver_doors (s t : State) : (State.handOver s t).doors = t.doors := (State.handOver_manager s t).doors

@[simp] theorem State.handOver_cap (s t : State) : (State.handOver s t).cap = t.cap := (State.handOver_manager s t).cap

@[simp] theorem State.handOver_link (s t : State) : (State.handOver s t).link = t.link := (State.handOver_manager s t).link

@[simp] theorem State.handOver_ports (s t : State) : (State.handOver s t).ports = t.ports := (State.handOver_manager s t).ports

@[simp] theorem State.handOver_panel (s t : State) : (State.handOver s t).panel = t.panel := (State.handOver_manager s t).panel

@[simp] theorem State.handOver_tables (s t : State) : (State.handOver s t).tables = t.tables := (State.handOver_manager s t).tables

@[simp] theorem State.handOver_forced (s t : State) : (State.handOver s t).act.forced = t.act.forced :=
  (State.handOver_manager s t).forced

/-- Where the cycle state and path stand, the manager has nothing to take. -/
theorem State.handOver_same {s t : State} (h : t.cyc.state = s.cyc.state) (k : t.cyc.path = s.cyc.path) :
    State.handOver s t = t := by
  unfold State.handOver cycleHanded
  simp [h, k]

/-- In states of the manager other than the path wait, a hand-over changes nothing. -/
theorem State.managerReact_idle {s : State} (h : s.mgr.state ≠ .due) : s.managerReact = s := by
  unfold State.managerReact
  split <;> simp_all

theorem State.handOver_idle {s t : State} (h : t.mgr.state ≠ .due) : State.handOver s t = t := by
  unfold State.handOver
  rw [State.managerReact_idle h]
  split <;> rfl

end Sys2Proof.Machine
end

