-- ==== Sys2Proof/Laws/Outputs.lean ====
section
/-!
SUPPORT. How commands end: recomputed outputs stay as they are when they are recomputed again, an event that is due has its
effect, an admitted request is answered by its rule, and every command answers a next state.
-/
namespace Sys2Proof.Machine

/-! ## Recomputing the outputs -/

theorem FanRecord.drive_same {f : FanRecord} {d : Nat} (h : f.duty = d) : f.drive d = f := by
  unfold FanRecord.drive; rw [if_pos h.symm]

theorem FanRecord.drive_duty (f : FanRecord) (d : Nat) : (f.drive d).duty = d := by
  unfold FanRecord.drive
  split
  · exact Eq.symm ‹_›
  · split
    · exact Eq.symm ‹_›
    · rfl

theorem FanRecord.drive_drive (f : FanRecord) (d : Nat) : (f.drive d).drive d = f.drive d := FanRecord.drive_same (f.drive_duty d)

theorem DamperRecord.aim_same {r : DamperRecord} {t : Nat} (h : r.target = t) : r.aim t = r := by
  unfold DamperRecord.aim; rw [if_pos h.symm]

theorem DamperRecord.aim_target (r : DamperRecord) (t : Nat) : (r.aim t).target = t := by
  unfold DamperRecord.aim
  split
  · exact Eq.symm ‹_›
  · split
    · rfl
    · split <;> rfl

theorem DamperRecord.aim_aim (r : DamperRecord) (t : Nat) : (r.aim t).aim t = r.aim t := DamperRecord.aim_same (r.aim_target t)

theorem DefrostHeater.follow_follow (h : DefrostHeater) (r i : Bool) : (h.follow r i).follow r i = h.follow r i := by
  simp only [DefrostHeater.follow]
  split <;> simp_all

theorem FlexHeater.follow_follow (h : FlexHeater) (r : Bool) : (h.follow r).follow r = h.follow r := by
  simp only [FlexHeater.follow]
  split <;> simp_all

/-- Recomputing the outputs a second time changes nothing: what each follows is no output. -/
theorem State.settle_settle (s : State) : s.settle.settle = s.settle := by
  have h : s.settle.settledActuators = s.settledActuators := by
    show ({ s.settledActuators with
      fans := { upper := (s.act.fans.upper.drive s.upperDuty).drive s.upperDuty,
                lower := (s.act.fans.lower.drive s.lowerDuty).drive s.lowerDuty,
                condenser := (s.act.fans.condenser.drive s.condenserDuty).drive s.condenserDuty },
      dampers := { flexLower := (s.act.dampers.flexLower.aim (damperTarget (s.damperOpen .flexLower))).aim
                     (damperTarget (s.damperOpen .flexLower)),
                   flexUpper := (s.act.dampers.flexUpper.aim (damperTarget (s.damperOpen .flexUpper))).aim
                     (damperTarget (s.damperOpen .flexUpper)),
                   ice := (s.act.dampers.ice.aim (damperTarget (s.damperOpen .ice))).aim (damperTarget (s.damperOpen .ice)) },
      lowerHeater := (s.act.lowerHeater.follow s.lowerHeaterRequest s.interlocked).follow s.lowerHeaterRequest s.interlocked,
      flexHeater := (s.act.flexHeater.follow s.flexHeaterRequest).follow s.flexHeaterRequest } : Actuators) = _
    rw [FanRecord.drive_drive, FanRecord.drive_drive, FanRecord.drive_drive, DamperRecord.aim_aim, DamperRecord.aim_aim,
      DamperRecord.aim_aim, DefrostHeater.follow_follow, FlexHeater.follow_follow]
    rfl
  show ({ s.settle with act := s.settle.settledActuators } : State) = s.settle
  rw [h]
  rfl

theorem State.settle_settled (s : State) : s.settle.Settled := s.settle_settle

/-- What stands in the queue and in the model's free counter has no output. -/
theorem State.Settled.queue {s : State} (h : s.Settled) (l : List Instr) (n : Nat) :
    State.Settled { s with pending := l, free := n } := by
  have h' : s.settledActuators = s.act := congrArg State.act h
  show ({ s with pending := l, free := n, act := s.settledActuators } : State) = { s with pending := l, free := n }
  rw [h']

/-- In a settled state the outputs agree with what they follow. -/
theorem State.Settled.act {s : State} (h : s.Settled) : s.settledActuators = s.act := congrArg State.act h

/-! ## How a command ends -/

theorem State.finish_eq (s t : State) : s.finish t = .next (State.handOver s t).settle := rfl

theorem State.event_due {s : State} {i : Instr} (h : s.due i = true) (f : State → State) : s.event i f = s.finish (f s) := by
  unfold State.event; rw [if_pos h]

theorem State.event_not {s : State} {i : Instr} (h : s.due i = false) (f : State → State) : s.event i f = .next s := by
  unfold State.event; rw [h]; rfl

/-- A command that leaves the cycle state and path alone hands nothing over. -/
theorem State.finish_same {s t : State} (h : t.cyc.state = s.cyc.state) (k : t.cyc.path = s.cyc.path) :
    s.finish t = .next t.settle := by
  rw [State.finish_eq, State.handOver_same h k]

/-- With no defrost due, a hand-over of the cycle state changes nothing. -/
theorem State.finish_idle {s t : State} (h : t.mgr.state ≠ .due) : s.finish t = .next t.settle := by
  rw [State.finish_eq, State.handOver_idle h]

theorem State.event_same {s : State} {i : Instr} (h : s.due i = true) (f : State → State)
    (hs : (f s).cyc.state = s.cyc.state) (hp : (f s).cyc.path = s.cyc.path) : s.event i f = .next (f s).settle := by
  rw [State.event_due h, State.finish_same hs hp]

theorem State.event_idle {s : State} {i : Instr} (h : s.due i = true) (f : State → State) (hm : (f s).mgr.state ≠ .due) :
    s.event i f = .next (f s).settle := by
  rw [State.event_due h, State.finish_idle hm]

/-- A request that is admitted is answered by its rule. -/
theorem State.request_admitted {s : State} {e : Ending} {c : Command} {p : Port} {f : Frame} {q : Ports}
    (h : Admitted s e c p f q) {mine : Frame → Bool} (hm : mine f = true) (rule : State → Port → Frame → Answer) :
    s.request e mine rule =
      ((rule { s with ports := q } p f).state).respond p
        { status := (rule { s with ports := q } p f).status, echo := f.echo, data := (rule { s with ports := q } p f).data } := by
  obtain ⟨hq, hr, -⟩ := h
  have hr' : State.refusal { s with ports := q } p f = none := hr
  unfold State.request
  rw [hq]
  simp only [hm, if_true]
  show (match State.refusal { s with ports := q } p f with
    | some st => _
    | none => _) = _
  rw [hr']
  rfl

theorem Admitted.names {s : State} {e : Ending} {c : Command} {p : Port} {f : Frame} {q : Ports} (h : Admitted s e c p f q) :
    f.names c = true := by
  unfold Frame.names; simp [h.2.2]

/-- How a command ends: the state alone, a state made from it and finished, or a reset with the outputs recomputed. -/
theorem exec_shape (c : Instr) (s : State) :
    exec c s = .next s ∨ (∃ u, exec c s = s.finish u) ∨ ∃ u : State, exec c s = .next u.settle := by
  have hf : ∀ u : State, s.finish u = .next s ∨ (∃ v, s.finish u = s.finish v) ∨ ∃ v : State, s.finish u = .next v.settle :=
    fun u => .inr (.inl ⟨u, rfl⟩)
  have he : ∀ i f, s.event i f = .next s ∨ (∃ v, s.event i f = s.finish v) ∨ ∃ v : State, s.event i f = .next v.settle := by
    intro i f; unfold State.event; split
    · exact hf _
    · exact .inl rfl
  cases c <;> simp only [exec, execDeviceReset, execImageLoadComplete, execSettingsLoadComplete, execReady, execSampleCompletion, execDoorEdge,
    execDoorTransition, execDoorLong, execLapse, execDoorMinute, execBoostExpiry, execDefrostWindowClose,
    execFaultTimerExpiry, execTurnMaximum, execOnTimerMinimum, execLowerRunMinute, execValveMoveComplete,
    execStartWindowExpiry, execStartHoldEnd, execSpeedUpdate, execTransferTimerExpiry, execStopTimerExpiry,
    execMinimumOffTimeOver, execFaultWaitEnd, execPowerCapExpiry, execDriveCommand, execDriveStatus, execDriveMiss,
    execTachReading, execCondenserRetryExpiry, execCondenserRunOnExpiry, execAfterRunExpiry, execFanDelayExpiry,
    execDamperMoveComplete, execDamperHomingComplete, execHeaterLimit, execFlexHeaterLimit, execFlexHeaterRestEnd,
    execHoldTimeout, execDefrostAgeLimit, execDeferralEnd, execPathWaitExpiry, execStepDurationExpiry,
    execStepTimeoutExpiry, execHoldoffEnd, execPortSGapTimeout, execPortSLengthReject, execPortSFrameSent,
    execUnknownCommand, execIdentify, execGetZone, execGetSystem, execReadEvents, execAckEvents, execSetEventMask,
    execSetSetpoint, execSetMode, execStartBoost, execCancelBoost, execLimitPower, execDeferDefrost, execRunProgram,
    execAbortProgram, execSetPanelMap, execCoolingRestart, execFullRestart, execReadTable, execWriteTableConversion,
    execWriteTablePreset, execWriteTableLadder, execWriteTableStep, execWriteTableProgram, execWriteTableGlobal,
    execSaveTables, execServiceHoldOn, execServiceHoldOff, execForceOutput, execQuietTimerExpiry, execHourlyMark,
    execPageWriteComplete, execPageBusyTimeout, execSaveRetryExpiry, execPortSByteReceived, execWriteTransactionByte]
  case deviceReset => exact .inr (.inr ⟨_, rfl⟩)
  case fullRestart => exact .inr (.inr ⟨_, rfl⟩)
  case imageLoadComplete => split; exacts [.inl rfl, hf _]
  case settingsLoadComplete => split; exacts [hf _, .inl rfl]
  case sampleCompletion => split; exacts [hf _, .inl rfl]
  case doorEdge => split; exacts [.inl rfl, hf _]
  case driveStatus => split; exacts [hf _, .inl rfl]
  case tachReading => split; exacts [hf _, .inl rfl]
  case portSLengthReject => split; exacts [hf _, .inl rfl]
  case portSByteReceived => split; exacts [hf _, .inl rfl]
  case pageWriteComplete => split; exacts [hf _, .inl rfl]
  all_goals first | exact he _ _ | exact hf _

/-- Every command answers a next state: the part has no stop. -/
theorem exec_next (c : Instr) (s : State) : ∃ t, exec c s = .next t := by
  obtain h | ⟨u, h⟩ | ⟨u, h⟩ := exec_shape c s <;> rw [h] <;> exact ⟨_, rfl⟩

/-- A command leaves the state alone, or recomputes the outputs last. -/
theorem exec_settles {c : Instr} {s t : State} (h : exec c s = .next t) : t = s ∨ ∃ u : State, t = u.settle := by
  obtain k | ⟨u, k⟩ | ⟨u, k⟩ := exec_shape c s <;> rw [k] at h <;> cases h
  · exact .inl rfl
  · exact .inr ⟨_, rfl⟩
  · exact .inr ⟨_, rfl⟩

end Sys2Proof.Machine
end

