-- ==== Sys2Proof/Laws/Store.lean ====
section
/-!
SUPPORT. What the operations of the image store can change: its record, the events, and the model's counter of free choices. One lemma
for each operation.
-/
namespace Sys2Proof.Machine

/-- Two states differ at most in the image store's record, the events and the free counter. -/
def StoreOnly (s t : State) : Prop := ∃ r e n, t = { s with store := r, events := e, free := n }

theorem StoreOnly.refl (s : State) : StoreOnly s s := ⟨_, _, _, rfl⟩

theorem StoreOnly.trans {s t u : State} (h : StoreOnly s t) (k : StoreOnly t u) : StoreOnly s u := by
  obtain ⟨_, _, _, rfl⟩ := h
  obtain ⟨_, _, _, rfl⟩ := k
  exact ⟨_, _, _, rfl⟩

theorem StoreOnly.record (s : State) (r : StoreRecord) : StoreOnly s { s with store := r } := ⟨_, _, _, rfl⟩

theorem StoreOnly.cyc {s t : State} (h : StoreOnly s t) : t.cyc = s.cyc := by
  obtain ⟨_, _, _, rfl⟩ := h; rfl

theorem StoreOnly.tables {s t : State} (h : StoreOnly s t) : t.tables = s.tables := by
  obtain ⟨_, _, _, rfl⟩ := h; rfl

/-- An event of the store hands no cycle state over. -/
theorem StoreOnly.handOver {s t : State} (h : StoreOnly s t) : State.handOver s t = t :=
  State.handOver_same (congrArg CycleRecord.state h.cyc) (congrArg CycleRecord.path h.cyc)

theorem State.sends_only (s : State) (ops : List (List Byte)) : StoreOnly s (s.sends ops) := .record s _

theorem State.beginSettingsSave_only (s : State) (before : List (List Byte)) : StoreOnly s (s.beginSettingsSave before) := .record s _

theorem State.beginTablesSave_only (s : State) (before : List (List Byte)) : StoreOnly s (s.beginTablesSave before) := .record s _

theorem State.settingsSaveDue_only (s : State) : StoreOnly s s.settingsSaveDue := by
  unfold State.settingsSaveDue; split
  · exact s.beginSettingsSave_only []
  · exact .record s _

theorem State.nextSave_only (s : State) : StoreOnly s s.nextSave := by
  unfold State.nextSave
  dsimp only
  repeat' split
  all_goals first
    | exact .refl s
    | exact s.beginTablesSave_only _
    | exact s.beginSettingsSave_only _
    | exact ⟨_, _, _, rfl⟩

theorem State.finishSave_only (s : State) (j : SaveJob) : StoreOnly s (s.finishSave j) :=
  StoreOnly.trans (.record s _) (State.nextSave_only _)

theorem State.failSave_only (s : State) (j : SaveJob) : StoreOnly s (s.failSave j) :=
  StoreOnly.trans ⟨_, _, _, rfl⟩ (State.nextSave_only _)

theorem State.nextPage_only (s : State) (j : SaveJob) (pg : Page) (rest : List Page) : StoreOnly s (s.nextPage j pg rest) :=
  .record s _

theorem State.pageWritten_only (s : State) (j : SaveJob) (readBack : List Byte) : StoreOnly s (s.pageWritten j readBack) := by
  unfold State.pageWritten
  split
  · exact s.finishSave_only j
  · dsimp only
    repeat' split
    · exact (s.sends_only _).trans (State.finishSave_only _ j)
    · exact (s.sends_only _).trans (State.nextPage_only _ j _ _)
    · exact (s.sends_only _).trans (State.failSave_only _ j)

theorem State.pageTimedOut_only (s : State) : StoreOnly s s.pageTimedOut := by
  unfold State.pageTimedOut; split
  · exact (s.sends_only _).trans (State.failSave_only _ _)
  · exact .refl s

theorem State.retrySave_only (s : State) (k : SaveKind) : StoreOnly s (s.retrySave k) := by
  unfold State.retrySave
  split
  · exact StoreOnly.trans (.record s _) (State.settingsSaveDue_only _)
  · dsimp only; split
    · exact StoreOnly.trans (.record s _) (State.beginTablesSave_only _ [])
    · exact .record s _

end Sys2Proof.Machine
end

