-- ==== Sys2Proof/Tests/Slice0.lean ====
section
/-!
SUPPORT. The package's own tests: the checks of WellFormed, figures worked from the spec's rules, and for every statement with
hypotheses a state and operands that meet them, clause by clause.
-/
namespace Sys2Proof.Tests

set_option Elab.async false

open Sys2Proof Sys2Proof.Machine

/-! ## Helpers -/

/-- A predicate on the state a command answers. -/
def after (c : Instr) (s : State) (ok : State → Bool) : Bool :=
  match exec c s with
  | .next t => ok t
  | _ => false

/-- The frame of a list that begins with its length byte. -/
def frameOf (l : List Byte) : Frame := { count := l.length + 1, bytes := l ++ [crc8 l] }

/-- The frame's bytes but the last on Port S, or all of them on Port A and Port B. -/
def ask (p : Port) (l : List Byte) (s : State) : State :=
  match p with
  | .s => { s with ports := { s.ports with rxS := .body l.length l.tail } }
  | .a => { s with ports := { s.ports with rxA := .writing (l.length + 1) (l ++ [crc8 l]) } }
  | .b => { s with ports := { s.ports with rxB := .writing (l.length + 1) (l ++ [crc8 l]) } }

/-- What ends that frame. -/
def endOf (p : Port) (l : List Byte) : Ending :=
  match p with
  | .s => .lastByteS (crc8 l)
  | .a => .stop .a
  | .b => .stop .b

/-- The ports once the frame is taken. -/
def portsAfter (p : Port) (l : List Byte) (s : State) : Ports :=
  match (ask p l s).ports.taken s.clock (endOf p l) with
  | some t => t.ports
  | none => s.ports

/-- The frame is admitted as a command. -/
abbrev Asked (p : Port) (c : Command) (l : List Byte) (s : State) : Prop :=
  (ask p l s).ports.taken s.clock (endOf p l) = some { port := p, frame := frameOf l, ports := portsAfter p l s }
    ∧ (ask p l s).refusal p (frameOf l) = none ∧ (frameOf l).command = some c

/-- Asked is the premise of the statements on requests. -/
theorem asked_admitted {p : Port} {c : Command} {l : List Byte} {s : State} (h : Asked p c l s) (hc : (ask p l s).clock = s.clock) :
    Admitted (ask p l s) (endOf p l) c p (frameOf l) (portsAfter p l s) := by
  unfold Admitted
  rw [hc]
  exact h

/-- A predicate on the state a request leaves. -/
def said (c : Ending → Instr) (p : Port) (l : List Byte) (s : State) (ok : State → Bool) : Bool :=
  after (c (endOf p l)) (ask p l s) ok

/-- The status that stands on a port. -/
def stands (p : Port) (st : Status) (t : State) : Bool := decide ((t.answer p).status = st)

/-- A part at 1000 s with its loads ended, the link UP and every output settled. -/
def base : State :=
  State.settle { State.reset with
    clock := 100000, ready := true, link := { LinkRecord.initial with state := .up },
    act := { Actuators.initial with valve := .standing .upper },
    store := { StoreRecord.initial with imageLoaded := true, settingsLoaded := true } }

/-- An entry of a zone at level 1. -/
def entry (z : Zone) (ps : PathSet) : Entry := { zone := z, pathSet := ps, level := .one, time := 900 }

/-- RUNNING on a path with a zone served, as a turn leaves it. -/
def running (p : Path) (z : Zone) (turn : Nat) : State :=
  State.settle { base with
    zones := base.zones.set z { base.zones.get z with demand := .calling .one },
    arb := { Arbiter.initial with served := [entry z (if p = .upper then .upper else .lower)], turnPath := some p },
    act := { base.act with valve := .standing p },
    cyc := { CycleRecord.initial with
      state := .running, path := some p, runFlag := true, speed := 2000, turnTimer := some turn, onTimer := some turn,
      sinceUpdate := 5 } }

/-- RUNNING with another zone waiting for the other path. -/
def waiting (p : Path) (z other : Zone) (turn : Nat) : State :=
  let s := running p z turn
  State.settle { s with
    zones := s.zones.set other { s.zones.get other with demand := .calling .one },
    arb := { s.arb with queue := [entry other (if p = .upper then .lower else .upper)] } }

/-- A TRANSFER under way to a path. -/
def transferring (p : Path) (z : Zone) (valve : Valve) : State :=
  let s := running p z 0
  State.settle { s with
    cyc := { s.cyc with state := .transfer, turnTimer := none, transferTimer := some 20 },
    act := { s.act with valve := valve } }

/-- STARTING on a path, in one of its phases. -/
def starting (p : Path) (z : Zone) (phase : StartPhase) (valve : Valve) : State :=
  let s := running p z 0
  State.settle { s with
    cyc := { CycleRecord.initial with
      state := .starting, path := some p, phase := some phase, runFlag := decide (phase = .run),
      speed := if phase = .run then 2000 else 0, startWindow := if phase = .run then some 30 else none },
    act := { s.act with valve := valve } }

/-- STOPPING with its timer at 10 s. -/
def stopping : State :=
  State.settle { base with cyc := { CycleRecord.initial with state := .stopping, stopTimer := some 10 } }

/-- The built-in LOWER program in a step, with the compressor OFF. -/
def defrosting (st : ManagerState) (step timer : Nat) : State :=
  State.settle { base with
    mgr := { Manager.initial with
      state := st, program := some 0, kind := some .automatic, step := some step, stepTimer := some timer },
    arb := { Arbiter.initial with paths := { Arbiter.initial.paths with lower := { PathRecord.initial with blocked := true } } },
    window := .running }

/-- Service hold with the forced values at rest. -/
def held : State := State.settle { base with act := { base.act with forced := some Forced.rest } }

/-- The event set of Port A holds a kind. -/
def raised (k : EventKind) (t : State) : Bool := holdsKind t.events.a.set k

/-- A DRIVE_STATUS frame. -/
def status (st units code : Nat) : List Byte :=
  let inner := [byte st] ++ be16 units ++ [byte code]
  [0xD2#8] ++ inner ++ [crc8 inner]

/-- An answer window is open on a state. -/
def listening (s : State) : State := { s with link := { s.link with window := some 0 } }

/-! ## WellFormed: each check has a term it refuses -/

theorem test_wellFormed_header : (Instr.imageLoadComplete [] (List.replicate 845 0)).wellFormed = false := by decide +kernel
theorem test_wellFormed_body :
    (Instr.imageLoadComplete (List.replicate 9 0) (List.replicate 844 0)).wellFormed = false := by decide +kernel
theorem test_wellFormed_record : (Instr.settingsLoadComplete (List.replicate 22 0)).wellFormed = false := by decide +kernel
theorem test_wellFormed_minute : (Instr.doorMinute .leftFresh).wellFormed = false := by decide +kernel
theorem test_wellFormed_page_empty : (Instr.pageWriteComplete []).wellFormed = false := by decide +kernel
theorem test_wellFormed_page_long : (Instr.pageWriteComplete (List.replicate 33 0)).wellFormed = false := by decide +kernel
theorem test_wellFormed_length : (Instr.portSLengthReject 5).wellFormed = false := by decide +kernel
theorem test_wellFormed_accepts :
    (Instr.imageLoadComplete (List.replicate 9 0) (List.replicate 845 0)).wellFormed = true
      ∧ (Instr.settingsLoadComplete (List.replicate 23 0)).wellFormed = true
      ∧ (Instr.doorMinute .flexDrawer).wellFormed = true
      ∧ (Instr.pageWriteComplete (List.replicate 32 0)).wellFormed = true
      ∧ (Instr.portSLengthReject 24).wellFormed = true ∧ (Instr.portSLengthReject 1).wellFormed = true := by decide +kernel

/-! ## Figures worked in the spec -/

theorem test_conversion_examples :
    [16, 300, 1024, 1900, 2048, 3000, 3700, 4079].map (convert builtInConv) = [691, 537, 250, 31, 0, -234, -462, -500] := by
  decide +kernel
theorem test_conversion_clamps : convert (builtInConv.set 0 900) 16 = 700 := by decide +kernel
theorem test_crc8_example : crc8 [0x03, 0x10, 0x02] = 0xE4 := by decide +kernel
theorem test_crc16_check_value : crc16 [0x31, 0x32, 0x33, 0x34, 0x35, 0x36, 0x37, 0x38, 0x39] = 0x29B1 := by decide +kernel
theorem test_filter_example :
    [filterStep 640 496 3, filterStep 622 496 3, filterStep 607 496 3, filterStep 594 496 3] = [622, 607, 594, 582] := by
  decide +kernel
theorem test_band_example :
    (builtInTables.ladder 0).bandOf 37 39 = 2 ∧ (builtInTables.ladder 1).bandOf (-180) (-95) = 5
      ∧ (builtInTables.ladder 1).bandOf (-180) (-120) = 4 := by decide +kernel
theorem test_fallback_example :
    [50000, 51800, 53600].map (fun now => dutyDemand 50000 now 30) = [.calling .one, .idle, .calling .one] := by decide +kernel
theorem test_ambient_example : ambientTerm 15 (some 320) = 105 := by decide +kernel
theorem test_slew_example : [slew 2600 3000, slew 2800 3000, slew 3000 3000] = [2800, 3000, 3000] := by decide +kernel
theorem test_fault_list_example :
    ([1000, 1500, 2600, 4700, 5031].foldl DriveFaultRecord.enter DriveFaultRecord.initial)
      = { DriveFaultRecord.initial with times := [1500, 2600, 4700], lockout := some 5031 } := by decide +kernel
theorem test_ladder_write_example :
    (builtInTables.ladder 5).encode = [0x8E, 0x10, 0xFF, 0xE2, 0xFF, 0xF6, 0x00, 0x0A, 0x00, 0x28, 0, 0, 0, 0, 0x00, 0x21, 0x03, 0x00,
      0x02, 0x00] := by decide +kernel
set_option maxRecDepth 100000 in
theorem test_built_in_image_round_trip :
    acceptImage (imageHeader 7 builtInTables.body) builtInTables.body = some (7, builtInTables) := by decide +kernel

/-! ## The step, the outputs -/

theorem test_front_command :
    step { base with pending := [.doorEdge .flexDrawer .high, .ready] } = exec (.doorEdge .flexDrawer .high) { base with pending := [.ready] } :=
  rfl
theorem test_empty_queue_at_a_second :
    let s := { defrosting .running 0 5 with clock := 100099 }
    s.pending = [] ∧ (s.clock + 1) % 100 = 0 ∧ s.act.lowerHeater.output = true ∧ s.tick.act.lowerHeater.output = true
      ∧ s.tick.act.lowerHeater.onTime = s.act.lowerHeater.onTime + 1 ∧ s.tick.act.flexHeater.output = false
      ∧ s.tick.mgr.stepTimer = some 6 := by decide +kernel
theorem test_empty_queue_between_seconds :
    let s := { base with clock := 100098, act := { base.act with valve := .moving .lower 200 199 } }
    s.pending = [] ∧ (s.clock + 1) % 100 ≠ 0 ∧ s.tick.act.valve = .moving .lower 200 200 ∧ s.tick.acct = s.acct := by decide +kernel
theorem test_flex_heater_and_alarm_timers :
    let s : State := State.settle { base with
      clock := 100099,
      zones := { base.zones with
        flex := { base.zones.flex with heat := true, alarm := .pendingWarm, alarmTimer := 1799 },
        fresh := { base.zones.fresh with alarm := .pendingCold, alarmTimer := 1799 },
        ice := { base.zones.ice with alarm := .pendingWarm, alarmTimer := 9, doorHold := some 0 } } }
    s.act.flexHeater.output = true ∧ s.tick.act.flexHeater.output = true ∧ s.tick.act.flexHeater.onTime = s.act.flexHeater.onTime + 1
      ∧ s.window = .closed ∧ (s.zones.flex).alarmPaused = false ∧ s.zones.flex.alarmTimer < (s.ladderOf .flex).delay
      ∧ s.tick.zones.flex.alarmTimer = 1800 ∧ s.tick.zones.fresh.alarmTimer = 1800
      ∧ s.zones.ice.alarmPaused = true ∧ s.tick.zones.ice.alarmTimer = 9 := by decide +kernel
theorem test_outputs_of_an_upper_turn :
    let s := running .upper .fresh 10
    s.act.forced = none ∧ s.cyc.state = .running ∧ s.cyc.path = some .upper ∧ s.mgr.inProgram = false
      ∧ s.arb.paths.upper.fault = .none ∧ s.doors.leftFresh.stopping = false ∧ s.doors.rightFresh.stopping = false
      ∧ s.settle.act.fans.upper.duty = 70 ∧ s.settle.act.fans.condenser.duty = 100 := by decide +kernel
theorem test_outputs_of_a_lower_turn :
    let s := running .lower .freezer 10
    s.cyc.path = some .lower ∧ s.arb.paths.lower.fault = .none ∧ s.doors.freezerDrawer.stopping = false
      ∧ s.act.fanDelay ≠ .active ∧ s.act.fans.lower.duty = 80 ∧ s.act.fans.upper.duty = 0 ∧ s.interlocked = true := by decide +kernel
theorem test_outputs_of_the_after_run_and_transfer :
    let s : State := { base with act := { base.act with afterRun := some 0 } }
    let t := transferring .lower .freezer (.moving .lower 200 10)
    s.cyc.state ≠ .transfer ∧ s.settle.act.fans.upper.duty = 70 ∧ t.cyc.state = .transfer ∧ t.act.fans.lower.duty = 0
      ∧ t.act.fans.upper.duty = 0 := by decide +kernel
theorem test_outputs_under_hold :
    let g := { Forced.rest with fans := { upper := 30, lower := 0, condenser := 40 }, dampers := { flexLower := true, flexUpper := false, ice := false } }
    let s : State := { held with act := { held.act with forced := some g } }
    s.settle.act.fans.upper.duty = 30 ∧ s.settle.act.fans.condenser.duty = 40 ∧ s.settle.act.dampers.flexLower.target = 400 := by
  decide +kernel
theorem test_outputs_of_a_program :
    let s := defrosting .running 0 0
    s.act.forced = none ∧ s.runningProgram = some (s.tables.program 0) ∧ s.runningStep = some (s.tables.step 0)
      ∧ s.cyc.state ≠ .transfer ∧ (s.tables.program 0).path = .lower ∧ s.arb.paths.lower.fault = .none
      ∧ s.act.lowerHeater.requested = true := by decide +kernel
theorem test_outputs_of_an_upper_program :
    let s : State := { base with mgr := { Manager.initial with state := .running, program := some 1, step := some 4, stepTimer := some 0 } }
    s.runningProgram = some (s.tables.program 1) ∧ (s.tables.program 1).path = .upper ∧ s.settle.act.fans.upper.duty = 70 := by
  decide +kernel

/-! ## Reset and start-up -/

theorem test_reset_queue : State.reset.pending = [] ∧ (State.reset.tick).clock = 1 := by decide +kernel
theorem test_full_restart_admitted : Asked .a .restart [3, 0x25, 2] base ∧ (frameOf [3, 0x25, 2]).arg 0 = 2
    ∧ said .fullRestart .a [3, 0x25, 2] base (fun t => !t.ready) = true := by decide +kernel
theorem test_device_reset_reads_doors :
    after (.deviceReset ⟨.high, .low, .low, .low⟩) base
      (fun t => t.doors.leftFresh.isOpen && t.zones.fresh.doorOpen && t.zones.ice.doorOpen && !t.zones.flex.doorOpen) = true := by
  decide +kernel
set_option maxRecDepth 100000 in
theorem test_image_load_accepts :
    State.reset.store.imageLoaded = false
      ∧ after (.imageLoadComplete (imageHeader 7 builtInTables.body) builtInTables.body) State.reset
        (fun t => t.store.imageVersion == 7) = true := by decide +kernel
theorem test_image_load_rejects :
    acceptImage (List.replicate 9 0xFF) [] = none
      ∧ after (.imageLoadComplete (List.replicate 9 0xFF) []) State.reset
        (fun t => decide (t.store.lastFailure = some .loadImage) && raised .store t) = true := by decide +kernel
theorem test_settings_load_takes_a_record :
    let s : State := { State.reset with store := { StoreRecord.initial with imageLoaded := true } }
    let x : Settings := { base.settings with zones := { base.settings.zones with fresh := (0, 99) , flex := (6, 0) } }
    Settings.read x.encode = some x ∧ s.store.imageLoaded = true ∧ s.store.settingsLoaded = false
      ∧ (s.tables.preset 0).mask.fresh = true ∧ (s.tables.preset 6).mask.flex = false
      ∧ after (.settingsLoadComplete x.encode) s
        (fun t => decide (t.zones.fresh.setpoint = 70) && decide (t.zones.flex.preset = 4)) = true := by decide +kernel
theorem test_settings_load_without_a_record :
    Settings.read (List.replicate 23 0xFF) = none
      ∧ after (.settingsLoadComplete (List.replicate 23 0xFF))
        { State.reset with store := { StoreRecord.initial with imageLoaded := true } } (raised .store) = true := by decide +kernel
/-- A part whose loads have ended and whose air channels have all completed a sample. -/
def sampled (age : Nat) : State :=
  let c : ChannelRecord := { ChannelRecord.initial with lastCode := some 1024 }
  { base with ready := false, channels := ⟨c, c, c, c, .initial, .initial, .initial⟩, acct := { Accounting.initial with age := age } }
theorem test_ready_rises :
    (sampled 0).ready = false ∧ (∀ z ∈ [Zone.fresh, .flex, .freezer, .ice], ((sampled 0).channels.get z.channel).lastCode.isSome = true)
      ∧ after .ready (sampled 0) (fun t => t.ready && decide (t.mgr.state = .idle)) = true
      ∧ after .ready (sampled 259200) (fun t => t.ready && decide (t.mgr.state = .running)) = true := by decide +kernel

/-! ## Sensors and zones -/

/-- A channel record in a state with a debounce count. -/
def channel (st : ChannelState) (n : Nat) : ChannelRecord :=
  { state := st, lastCode := some 1024, temperature := if st = .unseeded then none else some 250,
    faultKind := if st = .fault then .short else .none, debounce := n }
/-- The base part with one channel as given. -/
def sensing (ch : Channel) (st : ChannelState) (n : Nat) : State := { base with channels := base.channels.set ch (channel st n) }

theorem test_good_samples_at_the_bounds :
    (base.store.imageLoaded = true ∧ base.store.settingsLoaded = true)
      ∧ after (.sampleCompletion .ch0 16) (sensing .ch0 .ok 2)
        (fun t => decide (t.channels.ch0 = { channel .ok 0 with lastCode := some 16, temperature := some 691 })) = true
      ∧ after (.sampleCompletion .ch6 4079) (sensing .ch6 .unseeded 0)
        (fun t => decide (t.channels.ch6.temperature = some (-500))) = true := by decide +kernel
theorem test_out_of_range_debounces :
    after (.sampleCompletion .ch1 15) (sensing .ch1 .ok 1) (fun t => decide (t.channels.ch1.debounce = 2)) = true
      ∧ after (.sampleCompletion .ch1 15) (sensing .ch1 .ok 2) (fun t => decide (t.channels.ch1.faultKind = .short) && raised .sensor t) = true
      ∧ after (.sampleCompletion .ch1 4080) (sensing .ch1 .unseeded 2)
        (fun t => decide (t.channels.ch1.faultKind = .openLead) && decide (t.zones.flex.mode = .fallback)) = true := by decide +kernel
theorem test_unseeded_empty : (sensing .ch1 .unseeded 2).UnseededEmpty ∧ (sensing .ch1 .ok 1).UnseededEmpty := by
  constructor <;> intro c <;> cases c <;> decide +kernel
theorem test_fault_recovers :
    after (.sampleCompletion .ch2 1024) (sensing .ch2 .fault 1) (fun t => decide (t.channels.ch2.debounce = 2)) = true
      ∧ after (.sampleCompletion .ch2 1024) (sensing .ch2 .fault 2) (fun t => decide (t.channels.ch2.state = .ok) && raised .sensor t) = true
      ∧ after (.sampleCompletion .ch2 4095) (sensing .ch2 .fault 2)
        (fun t => decide (t.channels.ch2.debounce = 0) && decide (t.channels.ch2.faultKind = .openLead)) = true := by decide +kernel
theorem test_conversion_table_is_good : builtInTables.convValid = true ∧ builtInTables.conv.length = 17 := by decide +kernel

/-- An evaluation of FRESH with a report. -/
def evaluation (st : ChannelState) (t : Option (Int × Mark)) (entered : Bool) (suspended : Bool) : Evaluation :=
  { zone := .fresh, preset := builtInTables.preset 0, ladder := builtInTables.ladder 0, now := 1000, suspended := suspended,
    report := { state := st, temperature := t, channel := .ch0, changedFrom := if entered then some .ok else none } }
/-- FRESH seeded at an estimate. -/
def seeded (e : Int) : ZoneRecord := { ZoneRecord.initial .fresh with estimate := some e, seeded := true }

theorem test_estimate_moves :
    ((evaluation .ok (some (31, .current)) false false).run (ZoneRecord.initial .fresh)).1.estimate = some 496
      ∧ ((evaluation .ok (some (31, .current)) false false).run (seeded 640)).1.estimate = some 622
      ∧ ((evaluation .ok (some (31, .current)) false false).run { seeded 640 with doorHold := some 11999 }).1.estimate = some 640
      ∧ ((evaluation .ok (some (31, .held)) false false).run (seeded 640)).1.estimate = some 640
      ∧ ({ seeded 640 with doorHold := some 11999 }).doorHeld (builtInTables.preset 0) = true
      ∧ ({ seeded 640 with doorHold := some 12000 }).doorHeld (builtInTables.preset 0) = false := by decide +kernel
theorem test_normal_evaluation :
    let b : Boost := { expiry := 9000, port := .a }
    let x := evaluation .ok (some (37, .held)) false false
    x.preset.disabled = false ∧ x.report.state ≠ .fault
      ∧ (x.run (seeded (16 * 52))).1.demand = .calling .two ∧ (x.run (seeded (16 * 42))).1.demand = .calling .one
      ∧ (x.run { seeded (16 * 37) with demand := .calling .two }).1.demand = .calling .two
      ∧ (x.run (seeded (16 * 31))).1.demand = .idle
      ∧ (x.run { seeded (16 * 18) with boost := some b }).1.demand = .calling .three
      ∧ (x.run { seeded (16 * 17) with boost := some b }).1.boost = none
      ∧ EventKind.boostEnd ∈ (x.run { seeded (16 * 17) with boost := some b }).2
      ∧ (x.run { ZoneRecord.initial .fresh with boost := some b }).1.demand = .calling .three := by decide +kernel
theorem test_flex_heat :
    let x : Evaluation := { evaluation .ok (some (0, .held)) false false with
      zone := .flex, preset := builtInTables.preset 4, ladder := builtInTables.ladder 3 }
    let z : ZoneRecord := { ZoneRecord.initial .flex with seeded := true }
    (x.run { z with estimate := some (16 * (-6)) }).1.heat = true ∧ (x.run { z with estimate := some (16 * 3), heat := true }).1.heat = true
      ∧ (x.run { z with estimate := some (16 * 3) }).1.heat = false ∧ (x.run { z with estimate := some (16 * 10), heat := true }).1.heat = false := by
  decide +kernel
theorem test_alarm_follows_the_band :
    let x := evaluation .ok (some (37, .held)) false false
    let w := evaluation .ok (some (37, .held)) false true
    let warm := seeded (16 * 80)
    let cold := seeded (16 * 10)
    (x.run warm).1.alarm = .pendingWarm ∧ (x.run { warm with alarm := .pendingWarm, alarmTimer := 1799 }).1.alarm = .pendingWarm
      ∧ (x.run { warm with alarm := .pendingWarm, alarmTimer := 1800 }) = ({ (x.run warm).1 with alarm := .warm, alarmTimer := 0 }, [.zoneAlarm])
      ∧ (x.run { warm with alarm := .warm }).1.alarm = .warm ∧ (x.run cold).1.alarm = .pendingCold
      ∧ (x.run { cold with alarm := .pendingCold, alarmTimer := 1799 }).1.alarm = .pendingCold
      ∧ (x.run { cold with alarm := .pendingCold, alarmTimer := 1800 }).1.alarm = .cold
      ∧ (x.run { cold with alarm := .cold }).1.alarm = .cold ∧ (x.run { seeded (16 * 37) with alarm := .warm }).2 = [.zoneAlarm]
      ∧ (w.run warm).1.alarm = .none ∧ (w.run { warm with alarm := .pendingWarm, alarmTimer := 1800 }).1.alarm = .pendingWarm
      ∧ (x.run warm).1.band = some 5 ∧ (x.run cold).1.band = some 0 := by decide +kernel
theorem test_fallback_and_disabled :
    let x := evaluation .fault (some (37, .stale)) true false
    let off : Evaluation := { x with preset := builtInTables.preset 8 }
    let z := { seeded 640 with mode := .fallback, fallbackStart := some 0 }
    x.preset.disabled = false ∧ x.report.state = .fault ∧ (x.run (seeded 640)).1.demand = .calling .one
      ∧ (x.run (seeded 640)).1.seeded = false
      ∧ (({ x with now := 1199 }).run z).1.demand = .calling .one ∧ (({ x with now := 1200 }).run z).1.demand = .idle
      ∧ (x.run { seeded 640 with boost := some { expiry := 9, port := .s } }).1.demand = .calling .three
      ∧ off.preset.disabled = true ∧ (off.run { z with alarm := .warm }) = ((off.run z).1, [.zoneAlarm]) := by decide +kernel
theorem test_sample_evaluates_its_zone :
    after (.sampleCompletion .ch0 900) (sensing .ch0 .ok 0)
      (fun t => decide (t.zones.fresh.demand = .calling .two) && decide (t.zones.flex = base.zones.flex)
        && decide (t.cyc.state = .starting)) = true := by decide +kernel

/-! ## Boosts -/

/-- FRESH with a boost that Port A asked for. -/
def boosted (expiry : Nat) (mode : ZoneMode) (band : Option Nat) : State :=
  { base with
    zones := { base.zones with
      fresh := { base.zones.fresh with
        boost := some { expiry := expiry, port := .a }, demand := .calling .three, mode := mode, band := band,
        fallbackStart := if mode = .fallback then some 0 else none } },
    arb := { Arbiter.initial with queue := [{ entry .fresh .upper with level := .three }] },
    link := LinkRecord.initial }
theorem test_boost_expiry :
    after (.boostExpiry .fresh) (boosted 1000 .normal (some 2)) (fun t => decide (t.zones.fresh.demand = .calling .one) && raised .boostEnd t) = true
      ∧ after (.boostExpiry .fresh) (boosted 1000 .normal none) (fun t => decide (t.zones.fresh.demand = .idle) && t.arb.queue.isEmpty) = true
      ∧ after (.boostExpiry .fresh) (boosted 1000 .fallback none) (fun t => decide (t.zones.fresh.demand = .calling .one)) = true := by
  decide +kernel
theorem test_boost_starts :
    let s := boosted 1000 .normal (some 2)
    Asked .b .startBoost [5, 0x13, 0, 0, 240] base ∧ Asked .a .startBoost [5, 0x13, 0, 0, 241] s
      ∧ (frameOf [5, 0x13, 0, 0, 240]).zone = some .fresh ∧ base.zones.fresh.mode ≠ .disabled ∧ 1 ≤ (base.presetOf .fresh).boostMax
      ∧ said .startBoost .b [5, 0x13, 0, 0, 240] base (fun t => stands .b .ok t && decide (t.zones.fresh.boost = some { expiry := 15400, port := .b })) = true
      ∧ said .startBoost .a [5, 0x13, 0, 0, 241] s (stands .a .okClamped) = true
      ∧ said .startBoost .b [5, 0x13, 0, 0, 1] { base with zones := { base.zones with fresh := { base.zones.fresh with mode := .disabled } } }
          (stands .b .badArgument) = true := by decide +kernel
theorem test_boost_cancels :
    let s := boosted 5000 .normal (some 1)
    Asked .b .cancelBoost [3, 0x14, 0] s ∧ Asked .a .cancelBoost [3, 0x14, 0] s ∧ Asked .s .cancelBoost [3, 0x14, 0] s
      ∧ said .cancelBoost .b [3, 0x14, 0] s (stands .b .denied) = true
      ∧ said .cancelBoost .a [3, 0x14, 0] s (fun t => stands .a .ok t && decide (t.zones.fresh.demand = .idle)) = true
      ∧ said .cancelBoost .s [3, 0x14, 0] s (stands .s .ok) = true
      ∧ said .cancelBoost .a [3, 0x14, 0] base (stands .a .notRunning) = true := by decide +kernel

/-! ## Doors -/

/-- The base part with one door as given. -/
def door (d : Door) (r : DoorRecord) : State := (State.viewAllDoors { base with doors := base.doors.set d r })
/-- A door open for a time in units of 10 ms. -/
def openFor (n : Nat) : DoorRecord := { DoorRecord.initial with raw := .high, openAge := some n }
theorem test_door_edge :
    base.doors.leftFresh.raw ≠ .high
      ∧ after (.doorEdge .leftFresh .high) base (fun t => decide (t.doors.leftFresh.run = some 0)) = true
      ∧ after (.doorEdge .leftFresh .low) (door .leftFresh (openFor 7)) (fun t => decide (t.doors.leftFresh.run = some 0)) = true
      ∧ after (.doorEdge .leftFresh .low) (door .leftFresh { DoorRecord.initial with raw := .high, run := some 4 })
          (fun t => decide (t.doors.leftFresh.run = none)) = true := by decide +kernel
theorem test_door_turns :
    let s := door .leftFresh { DoorRecord.initial with raw := .high, run := some 5 }
    let o := door .leftFresh { openFor 900 with raw := .low, run := some 5 }
    (∀ z ∈ [Zone.fresh, .flex, .freezer, .ice], (s.zones.get z).doorHold.isSome = z.doors.any fun d => (s.doors.get d).isOpen)
      ∧ after (.doorTransition .leftFresh) s (fun t => t.doors.leftFresh.isOpen && t.zones.ice.doorOpen) = true
      ∧ after (.doorTransition .leftFresh) o (fun t => !t.doors.leftFresh.isOpen && !t.zones.fresh.doorOpen) = true
      ∧ after (.doorTransition .leftFresh) (door .leftFresh { DoorRecord.initial with run := some 4 }) (fun t => t.doors.leftFresh.isOpen) = false := by
  decide +kernel
theorem test_door_reports_and_lapses :
    after (.doorLong .freezerDrawer) (door .freezerDrawer (openFor 12000)) (raised .doorLong) = true
      ∧ after (.doorLong .freezerDrawer) (door .freezerDrawer (openFor 11999)) (raised .doorLong) = false
      ∧ after (.lapse .freezerDrawer) (door .freezerDrawer (openFor 60000)) (fun t => t.doors.freezerDrawer.lapsed) = true
      ∧ after (.lapse .freezerDrawer) (door .freezerDrawer (openFor 59999)) (fun t => t.doors.freezerDrawer.lapsed) = false
      ∧ after (.lapse .flexDrawer) base (fun t => t.doors.flexDrawer.lapsed) = false := by decide +kernel
theorem test_minutes_are_credited :
    after (.doorMinute .flexDrawer) (door .flexDrawer (openFor 6000)) (fun t => decide (t.acct.accumulator = 6)) = true
      ∧ after (.doorMinute .flexDrawer) { door .flexDrawer (openFor 6000) with acct := { Accounting.initial with accumulator := 474 } }
          (fun t => decide (t.mgr.state = .running)) = true
      ∧ after .lowerRunMinute (running .lower .freezer 60) (fun t => decide (t.acct.accumulator = 1) && decide (t.cyc.runMinutes = 1)) = true
      ∧ after .lowerRunMinute { running .lower .freezer 60 with acct := { Accounting.initial with accumulator := 479 } }
          (fun t => decide (t.mgr.state = .due)) = true := by decide +kernel

/-! ## The arbiter and the cycle controller -/

theorem test_candidates_are_chosen :
    let a : Arbiter := { Arbiter.initial with queue := [entry .fresh .upper, entry .flex .either, entry .ice .lower], turnPath := some .upper }
    a.oldestCandidate = some (entry .flex .either) ∧ a.isCandidate (entry .flex .either) = true
      ∧ a.choosePath (.standing .upper) (entry .flex .either) = .lower
      ∧ a.noTurn.oldestCandidate = some (entry .fresh .upper)
      ∧ a.noTurn.choosePath (.moving .lower 200 0) (entry .flex .either) = .lower
      ∧ (a.select .lower 7).served = [{ entry .flex .either with time := 7 }, { entry .ice .lower with time := 7 }] := by decide +kernel
theorem test_given_up_turns :
    let w := waiting .upper .fresh .freezer 10
    w.arb.turnPath = some .upper ∧ w.cyc.state = .running
      ∧ ({ w.arb with queue := w.arb.served ++ w.arb.queue, served := [] } : Arbiter).oldestCandidate.isSome = true
      ∧ (w.release .upper).cyc.state = .transfer ∧ (w.release .lower) = w
      ∧ ((running .upper .fresh 10).release .upper).cyc.state = .stopping
      ∧ ((starting .upper .fresh .run (.standing .upper)).release .upper).cyc.state = .stopping := by decide +kernel
/-- OFF with a zone waiting, at the end of a bar to a start. -/
def barred (off : Bool) (valve : Valve) : State :=
  State.settle { base with
    zones := { base.zones with freezer := { base.zones.freezer with demand := .calling .one } },
    arb := { Arbiter.initial with queue := [entry .freezer .lower] }, act := { base.act with valve := valve },
    cyc := { CycleRecord.initial with lastStop := if off then 820 else 0 },
    flt := { DriveFaultRecord.initial with waitEnd := if off then none else some 1000 } }
theorem test_bar_ends :
    let s := barred true (.standing .upper)
    s.now = s.cyc.lastStop + 180 ∧ s.clock % 100 = 0 ∧ s.cyc.state = .off ∧ s.link.state = .up ∧ s.flt.waitEnd.getD 0 ≤ s.now
      ∧ s.flt.lockout = none ∧ s.act.forced = none ∧ s.arb.compressorHold = false ∧ s.mgr.state ≠ .due
      ∧ (barred false (.standing .lower)).flt.waitEnd = some (barred false (.standing .lower)).now
      ∧ (barred false (.standing .lower)).cyc.lastStop + 180 ≤ (barred false (.standing .lower)).now
      ∧ after .minimumOffTimeOver s (fun t => decide (t.cyc.phase = some .valve) && decide (t.act.valve = .moving .lower 200 0)) = true
      ∧ after .faultWaitEnd (barred false (.standing .lower)) (fun t => decide (t.cyc.phase = some .run) && decide (t.cyc.speed = 2000)) = true
      ∧ after .minimumOffTimeOver { s with arb := Arbiter.initial } (fun t => decide (t.cyc.state = .off)) = true := by decide +kernel
theorem test_turn_maximum :
    let u := running .upper .fresh 1800
    let w := waiting .lower .freezer .fresh 2700
    u.cyc.turnTimer = some 1800 ∧ u.arb.oldestCandidate = none ∧ w.cyc.turnTimer = some 2700 ∧ w.arb.oldestCandidate = some (entry .fresh .upper)
      ∧ u.arb.holdover = false ∧ u.cyc.turnMaxReported = false ∧ u.mgr.state ≠ .due ∧ w.arb.turnPath = some .lower
      ∧ after .turnMaximum u (fun t => t.arb.yieldDue && decide (t.cyc.state = .running)) = true
      ∧ after .turnMaximum w (fun t => decide (t.cyc.state = .transfer) && decide (t.arb.queue = [{ entry .freezer .lower with time := 1000 }])) = true
      ∧ after .turnMaximum (running .upper .fresh 1799) (fun t => t.arb.yieldDue) = false := by decide +kernel
theorem test_minimum_on_time :
    let h : State := { running .upper .fresh 120 with arb := { Arbiter.initial with turnPath := some .upper, holdover := true } }
    h.cyc.onTimer = some 120 ∧ h.cyc.minOnReported = false ∧ h.arb.holdover = true ∧ h.mgr.state ≠ .due
      ∧ after .onTimerMinimum h (fun t => decide (t.cyc.state = .stopping) && decide (t.cyc.stopCommandedSince = 1000)) = true
      ∧ after .onTimerMinimum (running .upper .fresh 120) (fun t => t.cyc.minOnReported && decide (t.cyc.state = .running)) = true
      ∧ after .onTimerMinimum (running .upper .fresh 119) (fun t => t.cyc.minOnReported) = false := by decide +kernel
theorem test_transfer_and_stop_end :
    let s := transferring .lower .freezer (.standing .lower)
    s.cyc.state = .transfer ∧ s.cyc.path = some .lower ∧ s.cyc.transferTimer = some 20 ∧ s.act.valve = .standing .lower ∧ s.arb.served ≠ []
      ∧ s.mgr.state ≠ .due ∧ stopping.cyc.stopTimer = some 10
      ∧ after .transferTimerExpiry s (fun t => decide (t.cyc.state = .running) && decide (t.cyc.turnTimer = some 0)) = true
      ∧ after .stopTimerExpiry stopping (fun t => decide (t.cyc.state = .off) && decide (t.cyc.lastStop = 1000)) = true
      ∧ after .stopTimerExpiry { stopping with cyc := { stopping.cyc with stopTimer := some 9 } } (fun t => decide (t.cyc.state = .off)) = false := by
  decide +kernel
theorem test_valve_arrives :
    let s := starting .lower .freezer .valve (.moving .lower 200 200)
    let m := transferring .lower .freezer (.moving .lower 200 200)
    s.cyc.phase = some .valve ∧ s.cyc.path = some .lower ∧ s.mgr.state ≠ .due ∧ m.cyc.transferTimer = some 20 ∧ m.arb.served ≠ []
      ∧ after .valveMoveComplete s (fun t => t.cyc.runFlag && decide (t.cyc.speed = 2000)) = true
      ∧ after .valveMoveComplete m (fun t => decide (t.cyc.state = .running)) = true
      ∧ after .valveMoveComplete { base with act := { base.act with valve := .moving .upper 200 200 } }
          (fun t => decide (t.act.valve = .standing .upper)) = true
      ∧ after .valveMoveComplete { base with act := { base.act with valve := .moving .upper 200 199 } }
          (fun t => decide (t.act.valve = .standing .upper)) = false := by decide +kernel
theorem test_start_failure :
    let s := starting .lower .freezer .run (.standing .lower)
    s.cyc.startWindow = some 30 ∧ s.mgr.state ≠ .due
      ∧ after .startWindowExpiry s (fun t => decide (t.cyc.state = .off) && raised .driveFault t && decide (t.flt.waitEnd = some 1300)) = true := by
  decide +kernel
theorem test_fault_lists :
    let r : DriveFaultRecord := { DriveFaultRecord.initial with times := [1500, 2600, 4700] }
    (r.enter 5099).lockout = some 5099 ∧ (r.enter 5100).times = [2600, 4700, 5100] ∧ (r.enter 5099).enter 9999 = r.enter 5099
      ∧ raised .driveLockout ({ base with clock := 509900, flt := r }.driveFault .stall 0) = true := by decide +kernel
theorem test_speed_updates :
    let s := running .lower .freezer 60
    let h : State := { s with cyc := { s.cyc with startHold := some 60 } }
    s.cyc.state = .running ∧ s.cyc.path ≠ none ∧ s.cyc.startHold = none ∧ s.cyc.sinceUpdate = 5
      ∧ after .speedUpdate s (fun t => decide (t.cyc.speed = 2200) && decide (t.cyc.target = some 2300)) = true
      ∧ after .startHoldEnd h (fun t => decide (t.cyc.startHold = none) && decide (t.cyc.speed = 2200)) = true
      ∧ after .speedUpdate { s with arb := { s.arb with holdover := true } } (fun t => decide (t.cyc.speed = 1800)) = true
      ∧ after .speedUpdate { s with cyc := { s.cyc with sinceUpdate := 4 } } (fun t => decide (t.cyc.speed = 2000)) = true := by decide +kernel
theorem test_power_cap :
    let s := running .lower .freezer 60
    let c : State := { s with cap := { s.cap with power := some { rpm := 1500, expiry := 1000 } } }
    Asked .a .limitPower [6, 0x20, 0x05, 0xDD, 0, 1] s ∧ Asked .a .limitPower [6, 0x20, 0, 0, 0, 0] c ∧ s.act.forced = none
      ∧ said .limitPower .a [6, 0x20, 0x05, 0xDD, 0, 1] s (fun t => stands .a .okClamped t && decide (t.cyc.speed = 1500)) = true
      ∧ said .limitPower .a [6, 0x20, 0, 0, 0, 0] c (fun t => stands .a .ok t && decide (t.cap.power = none)) = true
      ∧ after .powerCapExpiry c (fun t => decide (t.cap.power = none) && decide (t.cyc.speed = 2000)) = true := by decide +kernel

/-! ## The drive link -/

theorem test_drive_command :
    let s := { starting .upper .fresh .run (.standing .upper) with
      cyc := { (starting .upper .fresh .run (.standing .upper)).cyc with startWindow := none } }
    s.link.sentAt < s.now
      ∧ after .driveCommand s (fun t => decide (t.link.sent = [0xD1, 0x01, 0x00, 0xC8, crc8 [0x01, 0x00, 0xC8]])
        && decide (t.cyc.startWindow = some 0) && decide (t.link.window = some 0)) = true
      ∧ after .driveCommand base (fun t => decide (t.link.sent = [0xD1, 0, 0, 0, 0])) = true := by decide +kernel
theorem test_reply_reads :
    readDriveStatus (status 1 450 15) = some { state := .running, units := 450, code := 15 }
      ∧ readDriveStatus (status 1 451 0) = none ∧ readDriveStatus (status 3 0 0) = none ∧ readDriveStatus (status 0 0 16) = none := by
  decide +kernel
theorem test_link_moves :
    let up (l : LinkRecord) : State := listening { base with link := l }
    after (.driveStatus (status 0 0 0)) (up { LinkRecord.initial with good := 1 }) (fun t => decide (t.link.good = 2)) = true
      ∧ after (.driveStatus (status 0 0 0)) (up { LinkRecord.initial with good := 2 }) (fun t => decide (t.link.state = .up)) = true
      ∧ after (.driveStatus (status 0 0 0)) (up { LinkRecord.initial with state := .lost, good := 1 }) (fun t => decide (t.link.good = 2)) = true
      ∧ after (.driveStatus (status 0 0 0)) (up { LinkRecord.initial with state := .lost, good := 2 }) (fun t => decide (t.link.state = .up)) = true
      ∧ after (.driveStatus (status 0 0 0)) (up { LinkRecord.initial with state := .up, miss := 4 }) (fun t => decide (t.link.miss = 0)) = true
      ∧ after (.driveStatus (status 0 0 0)) base (fun t => decide (t.link.lastStatus = none)) = true := by decide +kernel
/-- The window is over without a valid answer. -/
def missed (l : LinkRecord) (s : State) : State := { s with link := { l with window := some 10 } }
theorem test_misses :
    let up : LinkRecord := { LinkRecord.initial with state := .up, miss := 3 }
    after .driveMiss (missed up base) (fun t => decide (t.link.miss = 4) && decide (t.link.state = .up)) = true
      ∧ after .driveMiss (missed { LinkRecord.initial with miss := 3, good := 2 } base) (fun t => decide (t.link.good = 0)) = true
      ∧ after .driveMiss (missed { LinkRecord.initial with state := .lost, good := 2 } base) (fun t => decide (t.link.good = 0)) = true
      ∧ after .driveMiss (missed { up with miss := 4 } (running .upper .fresh 10))
          (fun t => decide (t.link.state = .lost) && decide (t.cyc.state = .off) && raised .driveLost t) = true
      ∧ (running .upper .fresh 10).mgr.state ≠ .due := by decide +kernel
theorem test_replies_act :
    let st := listening { starting .upper .fresh .run (.standing .upper) with link := { LinkRecord.initial with state := .up } }
    let run := listening (running .upper .fresh 10)
    st.cyc.phase = some .run ∧ st.cyc.runFlag = true ∧ st.arb.served ≠ [] ∧ st.mgr.state ≠ .due
      ∧ after (.driveStatus (status 1 100 0)) st (fun t => decide (t.cyc.state = .running)) = true
      ∧ after (.driveStatus (status 1 99 0)) st (fun t => decide (t.cyc.state = .starting)) = true
      ∧ after (.driveStatus (status 0 0 0)) (listening stopping) (fun t => decide (t.cyc.state = .off)) = true
      ∧ after (.driveStatus (status 2 0 4)) run (fun t => decide (t.flt.last = some (.reported, 4)) && decide (t.cyc.state = .off)) = true
      ∧ after (.driveStatus (status 2 0 4)) { run with link := { run.link with lastStatus := some ⟨.fault, 0, 4⟩ } }
          (fun t => decide (t.flt.last = none)) = true
      ∧ after (.driveStatus (status 1 100 0)) (listening base) (fun t => t.flt.runaway) = true
      ∧ after (.driveStatus (status 1 100 0)) (listening { base with cyc := { base.cyc with stopCommandedSince := 990 } })
          (fun t => t.flt.runaway) = false
      ∧ after (.driveStatus (status 0 0 0)) { run with flt := { run.flt with stall := 9 } }
          (fun t => decide (t.flt.last = some (.stall, 0))) = true
      ∧ after (.driveStatus (status 0 0 0)) { run with flt := { run.flt with stall := 8 } } (fun t => decide (t.flt.stall = 9)) = true := by
  decide +kernel

/-! ## The actuator block -/

/-- A part with a fan's record as given. -/
def spinning (s : State) (f : Fan) (spin low good : Nat) : State :=
  { s with act := { s.act with fans := s.act.fans.set f { s.act.fans.get f with spinUp := spin, low := low, good := good } } }
theorem test_tach_readings :
    let s := running .lower .freezer 10
    let c (r : CondenserFault) (n : Nat) : State :=
      { spinning s .condenser 5 9 n with
        act := { (spinning s .condenser 5 9 n).act with condenserFault := r }, cap := { s.cap with condenser := decide (r = .retry) } }
    (s.act.fans.get .upper).duty = 0 ∧ s.settle = s ∧ (spinning s .lower 4 0 0).settle = spinning s .lower 4 0 0
      ∧ after (.tachReading .upper 0) s (fun t => decide (t = s)) = true
      ∧ after (.tachReading .lower 0) (spinning s .lower 4 0 0) (fun t => decide (t.act.fans.lower.spinUp = 5)) = true
      ∧ after (.tachReading .lower 959) (spinning s .lower 5 8 7) (fun t => decide (t.act.fans.lower.low = 9)) = true
      ∧ after (.tachReading .lower 960) (spinning s .lower 5 9 8) (fun t => decide (t.act.fans.lower.good = 9)) = true
      ∧ after (.tachReading .lower 959) (spinning s .lower 5 9 0)
          (fun t => decide (t.arb.paths.lower.fault = .faulted) && raised .fanFault t && decide (t.cyc.state = .stopping)) = true
      ∧ after (.tachReading .lower 960) (spinning { s with arb := { s.arb with paths := { s.arb.paths with lower := { PathRecord.initial with count := 2 } } } } .lower 5 0 299)
          (fun t => decide (t.arb.paths.lower.count = 0)) = true
      ∧ after (.tachReading .lower 0) (spinning { s with arb := { s.arb with paths := { s.arb.paths with lower := { PathRecord.initial with count := 2 } } } } .lower 5 9 0)
          (fun t => decide (t.arb.paths.lower.fault = .locked)) = true
      ∧ after (.tachReading .condenser 799) (c .none 0) (fun t => decide (t.act.retry = some 900) && t.cap.condenser) = true
      ∧ after (.tachReading .condenser 800) (c .retry 9) (fun t => decide (t.act.condenserFault = .none) && !t.cap.condenser) = true := by
  decide +kernel
theorem test_evaporator_reports :
    let r : State := { base with act := { base.act with afterRun := some 5, fanDelay := .active } }
    let evap (e : EndKind) (last : Bool) (v : Int) : State :=
      { defrosting .running 0 9 with
        tables := { base.tables with steps := base.tables.steps.set 0 { base.tables.step 0 with endKind := e, last := last, threshold := v } } }
    r.channels.ch4.state ≠ .fault ∧ r.mgr.inProgram = false ∧ (evap .evapAbove false 50).mgr.program = some 0
      ∧ after (.sampleCompletion .ch4 2048) r (fun t => decide (t.act.afterRun = some 5)) = true
      ∧ after (.sampleCompletion .ch4 1990) r (fun t => decide (t.act.afterRun = none)) = true
      ∧ after (.sampleCompletion .ch5 2304) r (fun t => decide (t.act.fanDelay = .disarmed)) = true
      ∧ after (.sampleCompletion .ch5 1792) (evap .evapAbove false 55) (fun t => decide (t.mgr.step = some 0)) = true
      ∧ after (.sampleCompletion .ch5 1792) (evap .evapAbove false 54)
          (fun t => decide (t.mgr.step = some 1) && decide (t.mgr.runMeasurement = some ⟨9, .condition⟩)) = true
      ∧ after (.sampleCompletion .ch5 1792) (evap .evapBelow true 56) (fun t => decide (t.mgr.lastOutcome = some (0, .completed, 1000))) = true := by
  decide +kernel
theorem test_actuator_expiries :
    let w (f : Actuators → Actuators) : State := { base with act := f base.act }
    after .condenserRetryExpiry (w fun a => { a with condenserFault := .faulted, retry := some 0 })
        (fun t => decide (t.act.condenserFault = .retry)) = true
      ∧ after .condenserRunOnExpiry (w fun a => { a with runOn := some 0 }) (fun t => decide (t.act.runOn = none)) = true
      ∧ after .afterRunExpiry (w fun a => { a with afterRun := some 300 }) (fun t => decide (t.act.afterRun = none)) = true
      ∧ after .afterRunExpiry { w (fun a => { a with afterRun := some 300 }) with channels := (sensing .ch4 .ok 0).channels }
          (fun t => decide (t.act.afterRun = none)) = false
      ∧ after .fanDelayExpiry { running .lower .freezer 120 with act := { (running .lower .freezer 120).act with fanDelay := .active } }
          (fun t => decide (t.act.fanDelay = .disarmed)) = true
      ∧ after .flexHeaterRestEnd (w fun a => { a with flexHeater := { a.flexHeater with rest := some 0 } })
          (fun t => decide (t.act.flexHeater.rest = none)) = true
      ∧ after .defrostWindowClose { base with window := .closing 1000 } (fun t => decide (t.window = .closed)) = true
      ∧ after (.faultTimerExpiry .upper)
          { base with arb := { base.arb with paths := { base.arb.paths with upper := { PathRecord.initial with fault := .faulted, count := 1, timer := some 0 } } } }
          (fun t => decide (t.arb.paths.upper.fault = .none) && decide (t.arb.paths.upper.count = 1)) = true := by decide +kernel
theorem test_dampers :
    let w (r : DamperRecord) : State := { base with act := { base.act with dampers := { base.act.dampers with ice := r } } }
    after (.damperMoveComplete .ice) (w ⟨some 0, .moving, 0, 0⟩) (fun t => decide (t.act.dampers.ice.motion = .idle)) = true
      ∧ after (.damperHomingComplete .ice) (w ⟨none, .homing, 0, 440⟩) (fun t => decide (t.act.dampers.ice.position = some 0)) = true
      ∧ after (.damperHomingComplete .ice) (w ⟨none, .homing, 0, 439⟩) (fun t => decide (t.act.dampers.ice.position = some 0)) = false
      ∧ (DamperRecord.mk (some 399) .moving 400 0).tick.position = some 400 ∧ (DamperRecord.mk (some 1) .moving 0 0).tick.position = some 0 := by
  decide +kernel
theorem test_heaters_are_limited :
    let s := { defrosting .running 0 9 with act := { (defrosting .running 0 9).act with lowerHeater := ⟨true, true, 2700, false⟩ } }
    let f : State := { base with
      zones := { base.zones with flex := { base.zones.flex with heat := true } },
      act := { base.act with flexHeater := ⟨true, true, 1200, none⟩ } }
    s.act.lowerHeater.output = true ∧ s.mgr.program = some 0
      ∧ after .heaterLimit s (fun t => decide (t.mgr.state = .exiting) && !t.act.lowerHeater.output && raised .heaterLimit t) = true
      ∧ after .heaterLimit { held with act := { held.act with lowerHeater := ⟨true, true, 2700, false⟩ } } (fun t => t.act.lowerHeater.limited) = true
      ∧ after .flexHeaterLimit f (fun t => decide (t.act.flexHeater.rest = some 600) && raised .heaterLimit t) = true := by decide +kernel
theorem test_service_hold_begins :
    Asked .s .serviceHold [3, 0x32, 1] (running .upper .fresh 10) ∧ Asked .s .serviceHold [3, 0x32, 1] held
      ∧ (frameOf [3, 0x32, 1]).arg 0 = 1 ∧ held.act.forced ≠ none ∧ (running .upper .fresh 10).act.forced = none
      ∧ said .serviceHoldOn .s [3, 0x32, 1] (running .upper .fresh 10)
          (fun t => t.serviceHold && decide (t.cyc.state = .stopping) && decide (t.arb.served = [])) = true
      ∧ said .serviceHoldOn .s [3, 0x32, 1] (defrosting .running 0 9) (fun t => decide (t.mgr.lastOutcome = some (0, .cancelled, 1000))) = true
      ∧ said .serviceHoldOn .s [3, 0x32, 1] held (stands .s .ok) = true := by decide +kernel
theorem test_service_hold_ends :
    Asked .s .serviceHold [3, 0x32, 0] held ∧ Asked .s .serviceHold [3, 0x32, 2] held ∧ Asked .s .serviceHold [3, 0x32, 0] base
      ∧ held.act.forced = some Forced.rest ∧ held.act.lastValidS + 600 ≤ held.now
      ∧ said .serviceHoldOff .s [3, 0x32, 0] base (stands .s .notRunning) = true
      ∧ said .serviceHoldOff .s [3, 0x32, 2] held (stands .s .badArgument) = true := by decide +kernel
/-- Service hold with a forced run. -/
def forcedRun : State :=
  State.settle { held with
    act := { held.act with forced := some { Forced.rest with speed := 2000 } },
    cyc := { CycleRecord.initial with state := .running, runFlag := true, speed := 2000 } }
theorem test_forced_outputs :
    Asked .s .forceOutput [5, 0x33, 0, 0x11, 0x95] held ∧ Asked .s .forceOutput [5, 0x33, 9, 0, 1] held
      ∧ forcedRun.cyc.runFlag = true ∧ forcedRun.cyc.path = none ∧ held.startBarred = false ∧ held.mgr.state ≠ .due
      ∧ said .forceOutput .s [5, 0x33, 10, 0, 0] held (stands .s .badArgument) = true
      ∧ said .forceOutput .s [5, 0x33, 2, 0, 101] held (stands .s .badArgument) = true
      ∧ said .forceOutput .s [5, 0x33, 2, 0, 100] held (fun t => decide (t.act.fans.upper.duty = 100)) = true
      ∧ said .forceOutput .s [5, 0x33, 1, 0, 2] held (stands .s .badArgument) = true
      ∧ said .forceOutput .s [5, 0x33, 1, 0, 1] held (fun t => decide (t.act.valve = .moving .lower 200 0)) = true
      ∧ said .forceOutput .s [5, 0x33, 9, 0, 1] held (fun t => t.act.flexHeater.output) = true
      ∧ said .forceOutput .s [5, 0x33, 3, 0, 1] base (stands .s .notRunning) = true
      ∧ said .forceOutput .s [5, 0x33, 0, 0x11, 0x95] held (fun t => stands .s .okClamped t && decide (t.cyc.speed = 4500)) = true
      ∧ said .forceOutput .s [5, 0x33, 0, 0, 1] { held with cyc := { held.cyc with lastStop := 821 } } (stands .s .busy) = true
      ∧ said .forceOutput .s [5, 0x33, 0, 0, 1] forcedRun (fun t => decide (t.cyc.speed = 1200)) = true
      ∧ said .forceOutput .s [5, 0x33, 0, 0, 0] forcedRun (fun t => decide (t.cyc.state = .stopping)) = true
      ∧ said .forceOutput .s [5, 0x33, 0, 0, 0] held (stands .s .ok) = true := by decide +kernel

/-! ## Defrost -/

theorem test_age_limit :
    let s : State := { base with acct := { Accounting.initial with age := 259200 } }
    let busy (v : Valve) : State := { running .lower .freezer 10 with acct := s.acct, act := { (running .lower .freezer 10).act with valve := v } }
    s.clock % 100 = 0 ∧ s.mgr.deferralEnd.getD 0 ≤ s.now ∧ s.beginCondition .lower = true ∧ (busy (.standing .lower)).beginCondition .lower = false
      ∧ after .defrostAgeLimit s (fun t => decide (t.mgr.state = .running) && t.arb.paths.lower.blocked && raised .defrostBegin t) = true
      ∧ after .defrostAgeLimit (busy (.standing .lower)) (fun t => decide (t.mgr.state = .due) && decide (t.mgr.waitStart = some 1000)) = true
      ∧ after .defrostAgeLimit { s with mgr := { s.mgr with deferralEnd := some 1001 } } (fun t => decide (t.mgr.waitStart = none)) = true
      ∧ after .defrostAgeLimit { s with act := held.act } (fun t => decide (t.mgr.state = .idle)) = true := by decide +kernel
/-- An automatic defrost in DUE. -/
def due (s : State) (deferral wait : Option Nat) : State :=
  { s with
    mgr := { Manager.initial with
      state := .due, program := some 0, kind := some .automatic, dueMoment := some 0, deferralEnd := deferral, waitStart := wait } }
theorem test_deferral_and_path_wait_end :
    let s := starting .lower .freezer .run (.standing .lower)
    s.cyc.path = some (s.tables.program 0).path ∧ s.arb.turnPath = some (s.tables.program 0).path
      ∧ after .deferralEnd (due base (some 1000) none) (fun t => decide (t.mgr.state = .running) && decide (t.mgr.deferralEnd = none)) = true
      ∧ after .deferralEnd (due (running .lower .freezer 10) (some 1000) none) (fun t => decide (t.mgr.waitStart = some 1000)) = true
      ∧ after .pathWaitExpiry (due { s with clock := 180000 } none (some 0))
          (fun t => t.mgr.releaseAsked && decide (t.cyc.state = .stopping) && decide (t.arb.served = [])) = true := by decide +kernel
theorem test_steps_end :
    let timed (b : Bool) : State :=
      { defrosting .running 0 2400 with
        tables := { base.tables with steps := base.tables.steps.set 0 { base.tables.step 0 with abortOnTimeout := b } } }
    (base.tables.step 1).endKind = .time ∧ (base.tables.step 1).duration = 300 ∧ (base.tables.step 0).timeout = 2400
      ∧ after .stepDurationExpiry (defrosting .running 1 300)
          (fun t => decide (t.mgr.lastOutcome = some (0, .completed, 1000)) && raised .programStep t && raised .defrostEnd t) = true
      ∧ after .stepDurationExpiry (defrosting .running 1 299) (fun t => decide (t.mgr.lastOutcome = none)) = true
      ∧ after .stepTimeoutExpiry (timed false)
          (fun t => decide (t.mgr.step = some 1) && raised .stepTimeout t && decide (t.mgr.lastMeasurement = some (0, ⟨2400, .timeout⟩))) = true
      ∧ after .stepTimeoutExpiry (timed true) (fun t => decide (t.mgr.state = .exiting) && decide (t.mgr.step = some 2)) = true := by
  decide +kernel
theorem test_completion_accounts :
    let s (m : Option Measurement) : State :=
      { defrosting .running 1 300 with
        acct := ⟨500, 480, 9⟩, mgr := { (defrosting .running 1 300).mgr with runMeasurement := m } }
    (base.tables.step 1).last = true ∧ (base.tables.step 1).measure = false
      ∧ after .stepDurationExpiry (s none) (fun t => decide (t.acct = ⟨0, 480, 0⟩) && t.store.dirty && decide (t.act.fanDelay = .armed)) = true
      ∧ after .stepDurationExpiry (s (some ⟨899, .condition⟩)) (fun t => decide (t.acct.interval = 540)) = true
      ∧ after .stepDurationExpiry (s (some ⟨1800, .condition⟩)) (fun t => decide (t.acct.interval = 480)) = true
      ∧ after .stepDurationExpiry (s (some ⟨1801, .time⟩)) (fun t => decide (t.acct.interval = 360)) = true
      ∧ after .stepDurationExpiry (s (some ⟨100, .timeout⟩)) (fun t => decide (t.acct.interval = 360)) = true := by decide +kernel
theorem test_exit_and_holdoff_end :
    let s (acc : Nat) : State := { base with
      acct := ⟨acc, 480, 0⟩, mgr := { Manager.initial with state := .holdoff, holdoffEnd := some 1000 } }
    (base.tables.step 2).last = true
      ∧ after .stepDurationExpiry (defrosting .exiting 2 300) (fun t => decide (t.mgr.state = .holdoff) && decide (t.mgr.holdoffEnd = some 4600)) = true
      ∧ after .holdoffEnd (s 479) (fun t => decide (t.mgr.state = .idle)) = true
      ∧ after .holdoffEnd (s 480) (fun t => decide (t.mgr.state = .running)) = true := by decide +kernel

/-! ## Request ports -/

theorem test_reception :
    let w (x : SReceive) : State := { base with ports := { base.ports with rxS := x } }
    after (.portSByteReceived 0xA5) base (fun t => decide (t.ports.rxS = .length)) = true
      ∧ after (.portSByteReceived 2) (w .length) (fun t => decide (t.ports.rxS = .body 2 [])) = true
      ∧ after (.portSByteReceived 23) (w .length) (fun t => decide (t.ports.rxS = .body 23 [])) = true
      ∧ after (.portSLengthReject 24) (w .length) (stands .s .badLength) = true
      ∧ after (.portSLengthReject 1) (w .length) (fun t => decide (t.ports.txS.length = 1)) = true
      ∧ after (.portSByteReceived 7) (w (.body 3 [1])) (fun t => decide (t.ports.rxS = .body 3 [1, 7])) = true
      ∧ after .portSGapTimeout { w (.body 3 [1]) with clock := 6 } (fun t => decide (t.ports.rxS = .hunt)) = true
      ∧ after .portSGapTimeout { w (.body 3 [1]) with clock := 5 } (fun t => decide (t.ports.rxS = .hunt)) = false
      ∧ after .portSFrameSent { base with ports := { base.ports with txS := [[1], [2]] } } (fun t => decide (t.ports.txS = [[2]])) = true
      ∧ after (.writeTransactionByte .b 9) base (fun t => decide (t.ports.rxB = .writing 1 [9])) = true := by decide +kernel
theorem test_endings :
    (ask .a [2, 1] base).ports.taken 5 (.stop .a) = some ⟨.a, frameOf [2, 1], { base.ports with rxA := .idle }⟩
      ∧ (ask .s [2, 1] base).ports.taken 5 (.lastByteS (crc8 [2, 1])) = some ⟨.s, frameOf [2, 1], { base.ports with lastByteS := 5 }⟩
      ∧ base.ports.taken 5 (.stop .b) = none ∧ base.ports.taken 5 (.lastByteS 1) = none := by decide +kernel
theorem test_failing_steps :
    let r (p : Port) (l : List Byte) (s : State) : Option Status := s.refusal p (frameOf l)
    r .a [2] base = some .badLength ∧ base.refusal .a ⟨3, [2, 1, 0]⟩ = some .checkError ∧ r .a [2, 0x7F] base = some .unknownCommand
      ∧ r .a [3, 0x01, 0] base = some .badLength ∧ r .a [2, 0x02] { base with ready := false } = some .starting
      ∧ r .a [2, 0x01] { base with ready := false } = none ∧ r .b [3, 0x22, 0] base = some .denied ∧ r .a [2, 0x31] base = some .denied
      ∧ r .b [3, 0x14, 4] base = some .badArgument ∧ r .b [3, 0x14, 3] base = none
      ∧ r .b [3, 0x14, 3] { base with panel := { base.panel with ice := false } } = some .denied
      ∧ (frameOf [2, 0x7F]).command = none
      ∧ said .unknownCommand .a [2, 0x7F] base (stands .a .unknownCommand) = true
      ∧ said .setSetpoint .b [5, 0x11, 3, 0, 0] { base with panel := { base.panel with ice := false } } (stands .b .denied) = true := by
  decide +kernel
theorem test_reads :
    Asked .b .identify [2, 0x01] base ∧ Asked .b .getZone [3, 0x10, 3] base ∧ Asked .b .getZone [3, 0x10, 4] base
      ∧ Asked .b .getSystem [2, 0x02] base ∧ Asked .b .readEvents [2, 0x03] base ∧ Asked .a .readTable [3, 0x26, 0x45] base
      ∧ Asked .a .readTable [3, 0x26, 0x4C] base ∧ Asked .a .readTable [3, 0x26, 0xC0] base ∧ (frameOf [3, 0x10, 3]).zone = some .ice
      ∧ said .getZone .b [3, 0x10, 3] base (fun t => decide ((t.answer .b).data = base.zoneView .ice)) = true
      ∧ said .getZone .b [3, 0x10, 4] base (stands .b .badArgument) = true
      ∧ said .readTable .a [3, 0x26, 0x45] base (fun t => decide ((t.answer .a).data = (builtInTables.ladder 5).encode)) = true
      ∧ said .readTable .a [3, 0x26, 0x4C] base (stands .a .badArgument) = true := by decide +kernel
/-- Every event set holds two kinds, and a mask lacks one. -/
def eventful : State := (base.raise .doorLong).raise .driveFault
theorem test_events :
    Asked .a .ackEvents [4, 0x04, 0x01, 0x00] eventful ∧ Asked .b .setEventMask [4, 0x05, 0xFF, 0xFB] eventful
      ∧ said .ackEvents .a [4, 0x04, 0x01, 0x00] eventful (fun t => !raised .driveFault t && raised .doorLong t && t.attn .a) = true
      ∧ said .ackEvents .a [4, 0x04, 0xFF, 0xFF] eventful (fun t => !t.attn .a && t.attn .b) = true
      ∧ said .setEventMask .b [4, 0x05, 0xFE, 0xFB] eventful (fun t => !t.attn .b && decide (t.events.b.set = eventful.events.b.set)) = true := by
  decide +kernel
theorem test_setpoint :
    (base.tablePreset .fresh).minSetpoint ≤ (base.tablePreset .fresh).maxSetpoint
      ∧ Asked .b .setSetpoint [5, 0x11, 0, 0, 70] base ∧ Asked .a .setSetpoint [5, 0x11, 4, 0, 70] base
      ∧ said .setSetpoint .b [5, 0x11, 0, 0, 70] base (fun t => stands .b .ok t && raised .settingsChanged t && decide (t.store.quiet = some 30)) = true
      ∧ said .setSetpoint .b [5, 0x11, 0, 0, 71] base (fun t => stands .b .okClamped t && decide (t.zones.fresh.setpoint = 70)) = true
      ∧ said .setSetpoint .b [5, 0x11, 0, 0, 37] base (fun t => stands .b .ok t && !t.store.dirty) = true
      ∧ said .setSetpoint .a [5, 0x11, 4, 0, 37] base (stands .a .badArgument) = true := by decide +kernel
theorem test_panel_map :
    Asked .a .setPanelMap [3, 0x24, 0x07] base
      ∧ said .setPanelMap .a [3, 0x24, 0x07] base (fun t => !t.panel.ice && t.store.dirty && !raised .settingsChanged t) = true
      ∧ said .setPanelMap .a [3, 0x24, 0xFF] base (fun t => t.panel.ice && !t.store.dirty) = true := by decide +kernel
theorem test_mode_change :
    let s := running .lower .freezer 10
    Asked .a .setMode [4, 0x12, 2, 6] s ∧ Asked .a .setMode [4, 0x12, 1, 1] s ∧ (base.tables.preset 1).mask.get .flex = true
      ∧ Asked .a .setMode [4, 0x12, 4, 1] s ∧ s.zones.freezer.demand ≠ .idle
      ∧ said .setMode .a [4, 0x12, 2, 6] s (fun t => stands .a .ok t && !t.store.dirty) = true
      ∧ said .setMode .a [4, 0x12, 1, 1] s (fun t => decide (t.zones.flex.setpoint = -180) && t.store.dirty) = true
      ∧ said .setMode .a [4, 0x12, 1, 16] s (stands .a .badArgument) = true
      ∧ said .setMode .a [4, 0x12, 1, 6] s (stands .a .badArgument) = true
      ∧ said .setMode .a [4, 0x12, 3, 8] { s with zones := { s.zones with ice := { s.zones.ice with demand := .calling .one } }, arb := { s.arb with served := s.arb.served ++ [entry .ice .lower] } }
          (fun t => decide (t.arb.served = [entry .freezer .lower])) = true := by decide +kernel
theorem test_deferral_and_manual_runs :
    let d := due (running .lower .freezer 10) none (some 0)
    Asked .a .deferDefrost [4, 0x21, 0, 240] base ∧ Asked .a .runProgram [3, 0x22, 1] base ∧ (base.tables.program 1).valid = true
      ∧ base.beginCondition .upper = true ∧ (running .upper .fresh 10).beginCondition .upper = false
      ∧ said .deferDefrost .a [4, 0x21, 0, 240] base (fun t => stands .a .ok t && decide (t.mgr.deferralEnd = some 15400)) = true
      ∧ said .deferDefrost .a [4, 0x21, 0, 240] d (fun t => stands .a .okClamped t && decide (t.mgr.waitStart = none)) = true
      ∧ said .runProgram .a [3, 0x22, 1] base (fun t => decide (t.mgr.state = .running)) = true
      ∧ said .runProgram .a [3, 0x22, 1] (running .upper .fresh 10) (fun t => decide (t.mgr.state = .due)) = true
      ∧ said .runProgram .a [3, 0x22, 2] base (stands .a .badArgument) = true
      ∧ said .runProgram .a [3, 0x22, 0] d (stands .a .busy) = true := by decide +kernel
theorem test_abort :
    Asked .a .abortProgram [2, 0x23] (defrosting .running 0 9)
      ∧ said .abortProgram .a [2, 0x23] (defrosting .running 0 9) (fun t => decide (t.mgr.state = .exiting) && decide (t.mgr.step = some 2)) = true
      ∧ said .abortProgram .a [2, 0x23] (defrosting .exiting 2 9) (stands .a .busy) = true
      ∧ said .abortProgram .a [2, 0x23] base (stands .a .notRunning) = true := by decide +kernel
theorem test_cooling_restart :
    let s := running .lower .freezer 10
    Asked .a .restart [3, 0x25, 1] s ∧ s.acct.accumulator < s.acct.interval ∧ s.acct.age < 259200
      ∧ said .coolingRestart .a [3, 0x25, 1] s (fun t => stands .a .ok t && decide (t.cyc.state = .stopping) && decide (t.arb = Arbiter.initial)) = true
      ∧ said .coolingRestart .a [3, 0x25, 1] (starting .lower .freezer .valve (.moving .lower 200 0)) (fun t => decide (t.cyc.state = .off)) = true
      ∧ said .coolingRestart .a [3, 0x25, 1] stopping (fun t => decide (t.cyc = stopping.cyc)) = true
      ∧ said .coolingRestart .a [3, 0x25, 3] s (stands .a .badArgument) = true := by decide +kernel

/-! ## Tables and saves -/

/-- A WRITE_TABLE frame of an entry. -/
def writes (kind index : Nat) (entry : List Byte) : List Byte := [byte (3 + entry.length), 0x30, byte (32 * kind + index)] ++ entry
theorem test_sensor_and_zone_table_writes :
    let q : Preset := { base.tables.preset 0 with maxSetpoint := 40, minSetpoint := 38, defaultSetpoint := 38 }
    let lost : Preset := { q with mask := onlyZone .ice }
    Asked .s .writeTable (writes 0 16 (beInt16 (-1000))) base ∧ Asked .s .writeTable (writes 1 0 q.encode) base
      ∧ Asked .s .writeTable (writes 2 11 (builtInTables.ladder 5).encode) base ∧ Preset.read q.encode = some q
      ∧ said .writeTableConversion .s (writes 0 16 (beInt16 (-1000))) base (stands .s .ok) = true
      ∧ said .writeTableConversion .s (writes 0 16 (beInt16 (-499))) base (stands .s .badArgument) = true
      ∧ said .writeTableConversion .s (writes 0 0 (beInt16 1001)) base (stands .s .badArgument) = true
      ∧ said .writeTableConversion .s (writes 0 17 (beInt16 0)) base (stands .s .badArgument) = true
      ∧ said .writeTablePreset .s (writes 1 0 q.encode) base
          (fun t => decide (t.zones.fresh.setpoint = 38) && decide (t.tables.preset 0 = q) && raised .settingsChanged t && t.zones.fresh.kept.isSome) = true
      ∧ said .writeTablePreset .s (writes 1 0 lost.encode) base (stands .s .badArgument) = true
      ∧ said .writeTablePreset .s (writes 1 15 lost.encode) base (stands .s .ok) = true
      ∧ said .writeTablePreset .s (writes 1 16 q.encode) base (stands .s .badArgument) = true
      ∧ said .writeTableLadder .s (writes 2 3 (builtInTables.ladder 5).encode) base (fun t => t.zones.flex.kept.isSome && t.zones.ice.kept.isNone) = true
      ∧ said .writeTableLadder .s (writes 2 12 (builtInTables.ladder 5).encode) base (stands .s .badArgument) = true := by decide +kernel
theorem test_program_table_writes :
    let g (v : Bool) (h : Nat) : Program := { base.tables.program 0 with valid := v, head := h }
    let st : Step := { restStep 9 false with next := 31 }
    Asked .s .writeTable (writes 3 31 st.encode) base ∧ Asked .s .writeTable (writes 4 7 (g true 1).encode) base
      ∧ Asked .s .writeTable (writes 5 2 [0]) base ∧ Asked .s .writeTable [4, 0x30, 0xC0, 0] base
      ∧ said .writeTableStep .s (writes 3 31 st.encode) base (stands .s .ok) = true
      ∧ said .writeTableStep .s (writes 3 0 ({ st with last := false, next := 0 }).encode) base (stands .s .invalidChain) = true
      ∧ said .writeTableStep .s (writes 3 1 st.encode) (defrosting .running 0 9) (stands .s .busy) = true
      ∧ said .writeTableStep .s (writes 3 1 ({ st with duration := 0 }).encode) base (stands .s .badArgument) = true
      ∧ said .writeTableProgram .s (writes 4 7 (g true 1).encode) base (stands .s .ok) = true
      ∧ said .writeTableProgram .s (writes 4 7 (g true 4).encode) base (stands .s .invalidChain) = true
      ∧ said .writeTableProgram .s (writes 4 0 (g true 1).encode) (defrosting .running 0 9) (stands .s .busy) = true
      ∧ said .writeTableProgram .s (writes 4 0 (g false 1).encode) base (stands .s .badArgument) = true
      ∧ said .writeTableProgram .s (writes 4 8 (g true 1).encode) base (stands .s .badArgument) = true
      ∧ said .writeTableGlobal .s (writes 5 0 [40]) base (stands .s .ok) = true
      ∧ said .writeTableGlobal .s (writes 5 0 [41]) base (stands .s .badArgument) = true
      ∧ said .writeTableGlobal .s (writes 5 1 [15]) base (stands .s .ok) = true
      ∧ said .writeTableGlobal .s (writes 5 2 [0]) base (stands .s .ok) = true
      ∧ said .writeTableGlobal .s (writes 5 2 [1]) base (stands .s .badArgument) = true
      ∧ said .writeTableGlobal .s (writes 5 3 [1]) base (stands .s .badArgument) = true
      ∧ said .writeTableGlobal .s [4, 0x30, 0xC0, 0] base (stands .s .badArgument) = true := by decide +kernel
/-- The image store with a record. -/
def storing (r : StoreRecord) : State := { base with store := r }
/-- A settings save in flight. -/
def saving (k : SaveKind) (busy : Nat) (pages : List Page) : State :=
  storing { base.store with job := some { kind := k, pages := pages, busy := busy, version := 3, accounting := (0, 0) } }
theorem test_saves_begin :
    Asked .s .saveTables [2, 0x31] base
      ∧ said .saveTables .s [2, 0x31] (storing { base.store with imageVersion := 65535 })
          (fun t => decide (t.store.job.map (·.version) = some 1)) = true
      ∧ said .saveTables .s [2, 0x31] (saving .settings 0 []) (stands .s .busy) = true
      ∧ after .quietTimerExpiry (storing { base.store with quiet := some 0, dirty := true }) (fun t => t.store.job.isSome && !t.store.dirty) = true
      ∧ after .quietTimerExpiry (storing { base.store with quiet := some 0, settingsRetry := some 9 }) (fun t => t.store.settingsDue) = true
      ∧ after .hourlyMark { base with clock := 360000 } (fun t => t.store.job.isSome && decide (t.store.hoursMarked = 1)) = true
      ∧ after .hourlyMark { storing { base.store with stored := some (0, 0) } with clock := 360000 } (fun t => t.store.job.isNone) = true
      ∧ after (.saveRetryExpiry .settings) (storing { base.store with settingsRetry := some 0 }) (fun t => t.store.job.isSome) = true
      ∧ after (.saveRetryExpiry .tables) (storing { base.store with tablesRetry := some 0 })
          (fun t => decide (t.store.job.map (·.pages.length) = some 28)) = true
      ∧ after (.saveRetryExpiry .tables) { saving .settings 0 [] with store := { (saving .settings 0 []).store with tablesRetry := some 0 } }
          (fun t => t.store.tablesDue) = true := by decide +kernel
theorem test_pages :
    let pg : Page := { address := 0, bytes := [1, 2] }
    after (.pageWriteComplete [1, 2]) (saving .tables 0 [pg, pg]) (fun t => decide (t.store.job.map (·.pages) = some [pg])) = true
      ∧ after (.pageWriteComplete [1, 2]) (saving .tables 0 [pg]) (fun t => t.store.job.isNone && decide (t.store.imageVersion = 3)) = true
      ∧ after (.pageWriteComplete [1, 2]) (saving .settings 0 [pg]) (fun t => decide (t.store.stored = some (0, 0))) = true
      ∧ after (.pageWriteComplete [1, 3]) (saving .settings 0 [pg]) (fun t => decide (t.store.settingsRetry = some 600) && raised .store t) = true
      ∧ after .pageBusyTimeout (saving .tables 5 [pg]) (fun t => decide (t.store.tablesRetry = some 600)) = true
      ∧ after .pageBusyTimeout (saving .tables 4 [pg]) (fun t => t.store.job.isSome) = true := by decide +kernel

/-! ## The invariants, at a state that is no reset state -/

theorem test_frame_premise : (∃ t, exec (.doorEdge .leftFresh .high) base = .next t) ∧ (Instr.doorEdge .leftFresh .high).resets = false :=
  ⟨⟨_, rfl⟩, rfl⟩
theorem test_settled : (running .lower .freezer 10).Settled := by unfold State.Settled; decide +kernel
theorem test_speed_bounded : (running .lower .freezer 10).SpeedBounded := by
  refine ⟨?_, ?_, ?_, ?_, ?_, ?_⟩
  · unfold CycleRecord.mustRun
    decide +kernel
  · decide +kernel
  · intro _
    refine ⟨by decide +kernel, by decide +kernel, by decide +kernel, ?_, by decide +kernel⟩
    intro p h
    exact absurd h (by decide +kernel +revert)
  · intro p h
    exact absurd h (by decide +kernel +revert)
  · decide +kernel
  · decide +kernel
theorem test_off_time : (running .lower .freezer 10).OffTimeKept := by unfold State.OffTimeKept; decide +kernel
theorem test_one_entry : (waiting .lower .freezer .fresh 10).OneEntryEach := by
  intro z
  cases z <;> decide +kernel
theorem test_tables_good : builtInTables.Good := by constructor <;> decide +kernel
theorem test_configured : base.Configured := by
  refine ⟨by decide +kernel, by decide +kernel, test_tables_good, by decide +kernel, ?_⟩
  intro _ z
  unfold State.SetpointInRange
  cases z <;> decide +kernel
theorem test_counts : (spinning (running .lower .freezer 10) .lower 5 9 300).CountsInRange := by
  constructor
  case debounce => intro c; cases c <;> decide +kernel
  case pathFaults => intro p; cases p <;> decide +kernel
  case spinUps => intro f; cases f <;> decide +kernel
  case lows => intro f; cases f <;> decide +kernel
  case readings => intro f; cases f <;> decide +kernel
  all_goals decide +kernel
theorem test_accounting : base.acct.InRange := by unfold Accounting.InRange; decide +kernel
theorem test_doors_agree : (door .leftFresh (openFor 7)).DoorViewsAgree := by
  intro z
  cases z <;> decide +kernel

/-! ## Encodings -/

theorem test_entries_in_domain :
    (builtInTables.preset 8).inDomain = true ∧ (builtInTables.ladder 0).inDomain = true ∧ (builtInTables.step 4).inDomain = true
      ∧ (builtInTables.program 1).inDomain = true ∧ Preset.read (builtInTables.preset 8).encode = some (builtInTables.preset 8) := by
  decide +kernel
theorem test_settings_in_range :
    (∀ z ∈ [Zone.fresh, .flex, .freezer, .ice], (base.settings.zones.get z).1 ≤ 255 ∧ -32768 ≤ (base.settings.zones.get z).2)
      ∧ base.settings.accounting.interval ≤ 65535 ∧ builtInTables.zonesServed = true := by decide +kernel

/-! ## What the widened statements ask for -/

/-- A turn on a path with nothing served, n seconds into the run. -/
def emptied (p : Path) (n : Nat) : State :=
  let s := running p (if p = .upper then .fresh else .freezer) n
  { s with arb := { s.arb with served := [] } }
theorem test_reports_carry_the_change :
    (makeReport .ch1 100 (channel .ok 2) (channel .fault 0)).changedFrom = some .ok
      ∧ (makeReport .ch1 100 (channel .ok 2) (channel .fault 0)).enteredFault = true
      ∧ (makeReport .ch1 2048 (channel .fault 2) { channel .ok 0 with temperature := some 0 }).changedFrom = some .fault
      ∧ (makeReport .ch1 2048 (channel .unseeded 0) (channel .ok 0)).changedFrom = some .unseeded
      ∧ (makeReport .ch1 2048 (channel .ok 0) (channel .ok 0)).changedFrom = none
      ∧ (makeReport .ch1 100 (channel .fault 0) (channel .fault 0)).enteredFault = false := by decide +kernel
theorem test_joins_and_leaves :
    let s := waiting .upper .fresh .freezer 10
    let hold := emptied .upper 10
    s.arb.turnPath = some .upper ∧ s.act.forced = none ∧ held.act.forced ≠ none
      ∧ (s.demandChanged .flex .idle (.calling .two) .either).arb.served.length = 2
      ∧ (s.demandChanged .flex .idle (.calling .two) .lower).arb.queue.length = 2
      ∧ ({ hold with arb := { hold.arb with holdover := true } }.demandChanged .flex .idle (.calling .one) .upper).arb.holdover = false
      ∧ ({ hold with arb := { hold.arb with holdover := true } }.demandChanged .freezer .idle (.calling .one) .lower).cyc.state = .transfer
      ∧ (barred true (.standing .upper)).cyc.state = .off
      ∧ ({ barred true (.standing .upper) with arb := Arbiter.initial }.demandChanged .ice .idle (.calling .one) .lower).cyc.state = .starting
      ∧ (s.demandChanged .fresh (.calling .one) .idle .upper).cyc.path = some .lower
      ∧ (s.demandChanged .freezer (.calling .one) .idle .upper).arb.queue = []
      ∧ ((s.demandChanged .freezer (.calling .one) (.calling .three) .lower).arb.queue.map (·.level)) = [.three]
      ∧ (∃ x ∈ s.arb.queue ++ s.arb.served, x.zone = .freezer) ∧ (∀ x ∈ s.arb.queue ++ s.arb.served, x.zone = .freezer → x.pathSet ≠ .either)
      ∧ ((s.demandEvaluated .freezer (.calling .one) (.calling .one) .either).arb.served.map (·.zone)) = [.fresh, .freezer] := by
  decide +kernel
theorem test_emptied_turns :
    let w := waiting .upper .fresh .freezer 10
    let e : State := { w with arb := { w.arb with served := [] } }
    e.arb.oldestCandidate = some (entry .freezer .lower) ∧ (emptied .upper 119).arb.oldestCandidate = none
      ∧ (emptied .upper 10).arb.turnPath ≠ none
      ∧ e.servedEmptied.cyc.path = some .lower ∧ e.reportRunning = e.servedEmptied ∧ w.reportRunning = w
      ∧ (emptied .upper 119).servedEmptied.arb.holdover = true ∧ (emptied .upper 120).servedEmptied.arb.holdover = true
      ∧ (State.servedEmptied { emptied .upper 120 with cyc := { (emptied .upper 120).cyc with minOnReported := true } }).cyc.state = .stopping
      ∧ (emptied .upper 121).servedEmptied.cyc.state = .stopping
      ∧ (State.candidateCheck { w with arb := { w.arb with yieldDue := true } }).arb.queue = [{ entry .fresh .upper with time := 1000 }]
      ∧ w.candidateCheck = w ∧ base.candidateCheck = base ∧ base.stopOrder = base ∧ stopping.stopOrder = stopping
      ∧ after .transferTimerExpiry
          { transferring .lower .freezer (.standing .lower) with arb := { (transferring .lower .freezer (.standing .lower)).arb with served := [] } }
          (fun t => t.arb.holdover && decide (t.cyc.state = .running)) = true
      ∧ after .onTimerMinimum { emptied .upper 120 with arb := { (emptied .upper 120).arb with holdover := true } }
          (fun t => decide (t.cyc.state = .stopping)) = true := by decide +kernel
theorem test_path_faults_give_up :
    let w := waiting .upper .fresh .freezer 10
    let tr := transferring .lower .freezer (.moving .lower 200 5)
    let back : State := { tr with arb := { tr.arb with queue := [entry .fresh .upper] } }
    back.cyc.state = .transfer ∧ back.arb.turnPath = some .lower
      ∧ (w.pathFault .upper).cyc.path = some .lower ∧ (w.pathFault .upper).arb.paths.upper.fault = .faulted
      ∧ (w.pathFault .lower).arb.queue = w.arb.queue ∧ (w.pathFault .lower).cyc = w.cyc
      ∧ (back.pathFault .lower).cyc.path = some .upper ∧ (back.pathFault .lower).cyc.transferTimer = some 0
      ∧ (tr.pathFault .lower).cyc.state = .stopping
      ∧ ((starting .upper .fresh .run (.standing .upper)).pathFault .upper).cyc.state = .stopping
      ∧ (PathRecord.faulted { PathRecord.initial with count := 2 }).fault = .locked
      ∧ (PathRecord.faulted { PathRecord.initial with fault := .locked, count := 1 }).count = 3 := by decide +kernel
theorem test_start_checks :
    let s := barred true (.standing .upper)
    let lost : State := { listening s with link := { LinkRecord.initial with state := .lost, good := 2, window := some 0 } }
    let fault : State := { s with arb := { s.arb with paths := { s.arb.paths with lower := { PathRecord.initial with fault := .faulted, timer := some 0 } } } }
    s.arb.noTurn.oldestCandidate.isSome = true ∧ s.startCheck.cyc.state = .starting ∧ fault.startCheck = fault
      ∧ lost.link.state ≠ .up ∧ lost.link.good = 2 ∧ lost.cyc.state = .off ∧ lost.startCheck = lost
      ∧ after (.driveStatus (status 0 0 0)) lost (fun t => decide (t.cyc.state = .starting)) = true
      ∧ after (.faultTimerExpiry .lower) fault (fun t => decide (t.cyc.state = .starting)) = true
      ∧ ({ s with arb := { s.arb with paths := { s.arb.paths with lower := { PathRecord.initial with blocked := true } } } }.unblock .lower).cyc.state = .starting
      ∧ ({ s with arb := { s.arb with compressorHold := true } }.endCompressorHold).cyc.state = .starting
      ∧ s.reportOff.cyc.state = .starting ∧ held.act.lastValidS + 600 ≤ held.now ∧ Asked .s .serviceHold [3, 0x32, 0] held := by
  decide +kernel
theorem test_forced_runs_take_caps :
    let c : State := { forcedRun with cap := { power := some { rpm := 1500, expiry := 1000 }, condenser := false } }
    let hot : State := { forcedRun with act := { forcedRun.act with forced := some { Forced.rest with speed := 3005 } } }
    let up := running .lower .freezer 60
    c.cyc.runFlag = true ∧ c.cyc.path = none ∧ c.act.forced ≠ none ∧ Asked .a .limitPower [6, 0x20, 0x05, 0xDC, 0, 1] forcedRun
      ∧ Asked .a .limitPower [6, 0x20, 0, 0, 0, 0] c
      ∧ after .powerCapExpiry { c with cyc := { c.cyc with speed := 1500 } } (fun t => decide (t.cyc.speed = 2000)) = true
      ∧ said .limitPower .a [6, 0x20, 0x05, 0xDC, 0, 1] forcedRun (fun t => decide (t.cyc.speed = 1500)) = true
      ∧ said .limitPower .a [6, 0x20, 0, 0, 0, 0] c (fun t => decide (t.cyc.speed = 2000)) = true
      ∧ hot.setCondenserCap.cyc.speed = 2400 ∧ hot.setCondenserCap.clearCondenserCap.cyc.speed = 3000
      ∧ { up with cyc := { up.cyc with speed := 2600, target := some 2700 } }.setCondenserCap.cyc.target = some 2400
      ∧ { up with cap := { up.cap with condenser := true } }.clearCondenserCap.cyc = up.cyc := by decide +kernel
theorem test_condenser_readings :
    let s := running .lower .freezer 10
    let c (r : CondenserFault) (n : Nat) : State :=
      { spinning s .condenser 5 0 n with act := { (spinning s .condenser 5 0 n).act with condenserFault := r } }
    after (.tachReading .condenser 900) (c .faulted 3) (fun t => decide (t.act.fans.condenser.tach = 900) && decide (t.act.fans.condenser.good = 3)) = true
      ∧ after (.tachReading .condenser 900) (c .retry 8) (fun t => decide (t.act.condenserFault = .retry) && decide (t.act.fans.condenser.good = 9)) = true
      ∧ after (.tachReading .lower 2000) (spinning s .lower 5 0 300) (fun t => decide (t.act.fans.lower.good = 300)) = true := by decide +kernel
theorem test_hand_overs_reach_the_manager :
    let w := due (waiting .lower .freezer .fresh 10) none (some 0)
    let late (s : State) : State := { s with clock := 180000 }
    let still := due (running .lower .freezer 10) none (some 0)
    w.mgr.program = some 0 ∧ (w.tables.program 0).path = .lower ∧ (late w).now = 1800 ∧ w.now = 1000
      ∧ w.managerReact = w.beginTest ∧ w.beginTest = w ∧ (late w).managerReact.mgr.state = .running
      ∧ (due base none (some 0)).beginTest.mgr.state = .running ∧ base.managerReact = base
      ∧ after .pathWaitExpiry (late w) (fun t => decide (t.mgr.state = .running) && decide (t.cyc.path = some .upper) && raised .defrostBegin t) = true
      ∧ after .pathWaitExpiry (late still) (fun t => decide (t.cyc.state = .stopping) && t.mgr.releaseAsked) = true
      ∧ after .pathWaitExpiry (late (due (running .upper .fresh 10) none (some 0))) (fun t => !t.mgr.releaseAsked && decide (t.mgr.state = .due)) = true
      ∧ after .stopTimerExpiry { stopping with mgr := (due base none (some 0)).mgr } (fun t => decide (t.mgr.state = .running)) = true
      ∧ after .valveMoveComplete (due { base with act := { base.act with valve := .moving .lower 200 200 } } none (some 900))
          (fun t => decide (t.mgr.state = .running)) = true := by decide +kernel

/-- The running program's step changed. -/
def stepping (st : ManagerState) (step timer : Nat) (f : Step → Step) : State :=
  let s := defrosting st step timer
  { s with tables := { s.tables with steps := s.tables.steps.set step (f (s.tables.step step)) } }
theorem test_ends_by_condition : (defrosting .running 0 9).EndsStep 0 0 9 (.sampleCompletion .ch5 1792) .condition := by
  refine ⟨Or.inl rfl, rfl, rfl, rfl, Or.inr (Or.inr ⟨rfl, rfl, rfl, 1792, 55, rfl, ?_, Or.inl ⟨rfl, ?_⟩⟩)⟩ <;> decide +kernel
theorem test_ends_by_time : (defrosting .exiting 2 300).EndsStep 0 2 300 .stepDurationExpiry .time :=
  ⟨Or.inr rfl, rfl, rfl, rfl, Or.inl ⟨rfl, rfl, rfl, by decide +kernel⟩⟩
theorem test_ends_by_timeout : (defrosting .running 0 2400).EndsStep 0 0 2400 .stepTimeoutExpiry .timeout :=
  ⟨Or.inl rfl, rfl, rfl, rfl, Or.inr (Or.inl ⟨rfl, rfl, by decide +kernel, by decide +kernel⟩)⟩
theorem test_every_end_of_a_step :
    let upper (s : State) : State := { s with tables := { s.tables with programs := s.tables.programs.set 0 { s.tables.program 0 with path := .upper, compressorOff := true } } }
    let acct (s : State) : State := { s with acct := ⟨500, 480, 9⟩ }
    after (.sampleCompletion .ch5 1792) (defrosting .running 0 9)
        (fun t => decide (t.mgr.step = some 1) && decide (t.mgr.lastMeasurement = some (0, ⟨9, .condition⟩)) && !raised .stepTimeout t) = true
      ∧ after .stepDurationExpiry (stepping .exiting 2 300 fun st => { st with last := false, next := 7, notify := true })
          (fun t => decide (t.mgr.step = some 7) && decide (t.mgr.state = .exiting) && raised .programStep t) = true
      ∧ after .stepTimeoutExpiry (stepping .exiting 0 2400 fun st => { st with abortOnTimeout := true })
          (fun t => decide (t.mgr.step = some 1) && decide (t.mgr.state = .exiting)) = true
      ∧ after (.sampleCompletion .ch5 1792) (stepping .exiting 0 9 fun st => { st with last := true })
          (fun t => decide (t.mgr.state = .holdoff) && decide (t.mgr.lastOutcome = some (0, .aborted, 1000))) = true
      ∧ after (.sampleCompletion .ch5 1792) (acct (stepping .running 0 1801 fun st => { st with last := true }))
          (fun t => decide (t.acct = ⟨0, 360, 0⟩) && decide (t.mgr.lastOutcome = some (0, .completed, 1000))) = true
      ∧ after .stepDurationExpiry (acct (stepping .running 1 300 fun st => { st with measure := true })) (fun t => decide (t.acct = ⟨0, 540, 0⟩)) = true
      ∧ after .stepDurationExpiry (upper (defrosting .running 1 300)) (fun t => decide (t.mgr.state = .idle) && decide (t.store = base.store)) = true
      ∧ after .stepDurationExpiry (acct (upper (defrosting .running 1 300))) (fun t => decide (t.acct = ⟨500, 480, 9⟩) && decide (t.mgr.kind = some .automatic)) = true := by
  decide +kernel
theorem test_waiting_saves_begin :
    let s (tables settings : Bool) (retry : Option Nat) : State := storing { base.store with tablesDue := tables, settingsDue := settings, settingsRetry := retry }
    let kind (s : State) : Option SaveKind := s.nextSave.store.job.map (·.kind)
    (s false false none).nextSave = s false false none ∧ kind (s true false none) = some .tables ∧ kind (s false true none) = some .settings
      ∧ kind (s false true (some 5)) = none ∧ kind (s true true (some 5)) = some .tables := by decide +kernel
theorem test_transactions :
    (base.readTransaction .a 0x4C 7) = some [0, 0, 0, 0, 0, 0xFF, 0xFF] ∧ base.readTransaction .a 0x4D 7 = none
      ∧ acknowledges 0x4C [1, 2] = [true, true, true] ∧ acknowledges 0x4D [1] = [false, false]
      ∧ writtenBytes .b 0x4C [2, 1] = [.writeTransactionByte .b 2, .writeTransactionByte .b 1] ∧ writtenBytes .b 0 [2] = []
      ∧ (base.zoneView .ice).length = 28 ∧ Asked .a .getZone [3, 0x10, 3] base
      ∧ said .getZone .a [3, 0x10, 3] base (fun t => decide (t.readByte .a 4 = 7) && decide (t.readByte .a 33 = 0xFF)) = true := by decide +kernel
theorem test_attention_lines :
    State.reset.attn .a = false ∧ eventful.attn .a = true ∧ (eventful.acknowledge .a 0x0104).attn .a = false
      ∧ (eventful.setMask .a 0).attn .a = false ∧ (eventful.setMask .b 0).attn .a = true
      ∧ (base.raiseSettingsChanged .a).attn .a = false ∧ (base.raiseSettingsChanged .a).attn .b = true := by decide +kernel
theorem test_chains :
    let row (last : Bool) (next : Nat) : Step := { restStep 1 false with last := last, next := next }
    let line (k : Nat) : List Step := (List.range 32).map fun i => row (decide (i = k)) (i + 1)
    chainValid (line 15) .lower 0 = true ∧ chainValid (line 16) .lower 0 = false ∧ chainValid [row false 1, row false 0] .lower 0 = false
      ∧ chainValid [row true 0] .upper 1 = false ∧ chainValid [row false 1, { row true 0 with heater := true }] .upper 0 = false
      ∧ chainValid [row false 1, { row true 0 with heater := true }] .lower 0 = true := by decide +kernel
theorem test_outputs_off :
    let low := running .lower .freezer 10
    let up := running .upper .fresh 10
    let open_ : State := { up with doors := { up.doors with rightFresh := openFor 7 } }
    let moved (s : State) : State := { s with cyc := (transferring .upper .fresh (.standing .upper)).cyc }
    base.settle.act.fans.lower.duty = 0 ∧ up.settle.act.fans.lower.duty = 0 ∧ stopping.settle.act.fans.lower.duty = 0
      ∧ low.settle.act.fans.upper.duty = 0 ∧ open_.settle.act.fans.upper.duty = 0
      ∧ (∀ g, low.runningProgram = some g → g.path ≠ .upper) ∧ low.settle.act.lowerHeater.requested = false
      ∧ (moved (defrosting .running 0 9)).cyc.state = .transfer ∧ (moved (defrosting .running 0 9)).settle.act.lowerHeater.requested = true := by
  decide +kernel
theorem test_lowest_preset_that_serves :
    let lost (i : Nat) (s : State) : State :=
      { s with tables := { s.tables with presets := s.tables.presets.set i { s.tables.preset i with mask := onlyZone .ice } } }
    let s : State := lost 4 { State.reset with store := { StoreRecord.initial with imageLoaded := true } }
    (s.tables.preset (factoryPreset .flex)).mask.get .flex = false ∧ s.tables.defaultPreset .flex = 1
      ∧ (s.tables.preset 1).mask.get .flex = true
      ∧ after (.settingsLoadComplete []) s
          (fun t => decide (t.zones.flex.preset = 1) && decide (t.zones.flex.setpoint = (s.tables.preset 1).defaultSetpoint)) = true := by
  decide +kernel
theorem test_no_due_test_before_ready :
    let s : State := { door .flexDrawer (openFor 6000) with ready := false, acct := ⟨480, 480, 0⟩ }
    s.doorMinuteDue .flexDrawer = true ∧ after (.doorMinute .flexDrawer) s (fun t => decide (t.mgr.state = .idle) && decide (t.acct.accumulator = 486)) = true
      ∧ after (.doorMinute .flexDrawer) { s with ready := true } (fun t => decide (t.mgr.kind = some .automatic)) = true
      ∧ after .defrostAgeLimit { base with ready := false, acct := ⟨0, 480, 259200⟩ } (fun t => decide (t.mgr.state = .idle)) = true := by
  decide +kernel
theorem test_arrival_before_the_transfer_time :
    let tr := transferring .lower .freezer (.moving .lower 200 200)
    let early : State := { tr with cyc := { tr.cyc with transferTimer := some 19 } }
    early.cyc.path = some .lower ∧ early.mgr.state ≠ .due
      ∧ after .valveMoveComplete early
          (fun t => decide (t.cyc = early.cyc) && decide (t.act.valve = .standing .lower)) = true := by decide +kernel
theorem test_held_and_stale_evaporator_reports :
    let s (r : ChannelRecord) (run : Nat) : State :=
      { base with channels := { base.channels with ch4 := r }, act := { base.act with afterRun := some run } }
    let ends (code : BitVec 12) (u : State) : Bool := after (.sampleCompletion .ch4 code) u fun t => t.act.afterRun.isNone
    let at_ (v : Int) (st : ChannelState) (n : Nat) : ChannelRecord := { channel st n with temperature := some v }
    ends 5 (s (at_ 10 .ok 1) 20) = true ∧ ends 5 (s (at_ 9 .ok 1) 20) = false
      ∧ ends 5 (s (at_ 9 .ok 2) 300) = true ∧ ends 5 (s (at_ 90 .ok 2) 299) = false
      ∧ ends 1024 (s (at_ 90 .fault 1) 20) = false ∧ ends 1024 (s (at_ 0 .fault 2) 20) = true
      ∧ after (.sampleCompletion .ch5 5)
          { base with channels := { base.channels with ch5 := at_ (-90) .ok 2 }, act := { base.act with fanDelay := .active } }
          (fun t => decide (t.act.fanDelay = .active)) = true
      ∧ after (.sampleCompletion .ch5 5)
          { base with channels := { base.channels with ch5 := at_ (-51) .ok 1 }, act := { base.act with fanDelay := .active } }
          (fun t => decide (t.act.fanDelay = .disarmed)) = true := by decide +kernel
theorem test_table_lengths :
    Command.ofCode 0x2F = none ∧ Command.writeTable.wrongLength (frameOf (writes 2 0 (List.replicate 20 0))) = false
      ∧ Command.writeTable.wrongLength (frameOf (writes 2 0 (List.replicate 19 0))) = true
      ∧ Command.writeTable.wrongLength (frameOf [9, 0x30, 0xC0]) = false ∧ Command.writeTable.wrongLength (frameOf [2, 0x30]) = true
      ∧ Command.readTable.wrongLength (frameOf [3, 0x26, 0xA0]) = false ∧ Command.readTable.wrongLength (frameOf [4, 0x26, 0xA0, 0]) = true
      ∧ Command.readTable.wrongLength (frameOf [2, 0x26]) = true := by decide +kernel
theorem test_cooling_restart_cancels_and_tests :
    let s := defrosting .running 0 9
    let full (u : State) : State := { u with acct := ⟨480, 480, 0⟩ }
    let turn : State := full (running .lower .freezer 10)
    let ask_ (u : State) (ok : State → Bool) : Bool := said .coolingRestart .a [3, 0x25, 1] u ok
    Asked .a .restart [3, 0x25, 1] s ∧ Asked .a .restart [3, 0x25, 1] turn ∧ s.runningProgram.isSome = true
      ∧ ask_ s (fun t => decide (t.mgr.lastOutcome = some (0, .cancelled, 1000)) && raised .defrostEnd t
          && decide (t.window = .closing 2800) && decide (t.act.fanDelay = .armed) && !t.arb.paths.lower.blocked
          && !t.act.lowerHeater.output) = true
      ∧ ask_ (full s) (fun t => decide (t.mgr.state = .running) && decide (t.mgr.kind = some .automatic)
          && decide (t.window = .running) && t.arb.paths.lower.blocked && raised .defrostBegin t) = true
      ∧ ask_ turn (fun t => decide (t.mgr.state = .due) && decide (t.mgr.waitStart = some 1000) && decide (t.cyc.state = .stopping)) = true
      ∧ ask_ held (fun t => !t.serviceHold && !raised .serviceHoldEnd t) = true := by decide +kernel
theorem test_steps_in_use :
    let steps := builtInTables.steps
    ((builtInTables.program 0).usesStep steps 1 = true ∧ (builtInTables.program 0).usesStep steps 2 = true
      ∧ (builtInTables.program 0).usesStep steps 3 = false ∧ builtInTables.chainsValid = true)
      ∧ (∃ g ∈ builtInTables.programs, g.valid = true) := by decide +kernel
theorem test_bus_operations :
    let pg : Page := { address := 0x1800, bytes := [1, 2] }
    let next : Page := { address := 0x20, bytes := [3] }
    after (.pageWriteComplete [1, 2]) (saving .tables 0 [pg, next])
        (fun t => decide (t.store.sent = [[0x05], [0x03, 0x18, 0x00], [0x06], [0x02, 0x00, 0x20, 3]])) = true
      ∧ after (.pageWriteComplete [1, 3]) (saving .tables 0 [pg, next]) (fun t => decide (t.store.sent = [[0x05], [0x03, 0x18, 0x00]])) = true
      ∧ after .pageBusyTimeout (saving .tables 5 [pg]) (fun t => decide (t.store.sent = [[0x05]])) = true
      ∧ after .quietTimerExpiry (storing { base.store with quiet := some 0 })
          (fun t => decide (t.store.sent = [[0x06], [0x02, 0x18, 0x00] ++ t.settingsPage.bytes])) = true
      ∧ after (.imageLoadComplete [] []) State.reset (fun t => decide (t.store.sent = [[0x03, 0, 0], [0x03, 0, 0x20]])) = true
      ∧ (saving .tables 0 [pg]).tick.store.sent = [[0x05]] ∧ (storing { base.store with sent := [[6]] }).tick.store.sent = [[6]] := by
  decide +kernel
theorem test_attributes_in_the_defrost_window :
    alarmStep true .none .warm 0 = (.warm, 0) ∧ alarmStep true .none .pendingWarm 7 = (.pendingWarm, 7)
      ∧ alarmStep true .none .cold 0 = (.none, 0) ∧ alarmStep true .cold .warm 0 = (.pendingCold, 0)
      ∧ alarmStep true .cold .pendingWarm 7 = (.pendingCold, 0) ∧ alarmStep true .warm .pendingCold 7 = (.none, 0) := by decide +kernel

/-! ## Faults, dampers, fans and heat, clause by clause -/

/-- A fault list. -/
def faulting (times : List Nat) (s : State) : State := { s with flt := { s.flt with times := times } }
theorem test_faults_leave_their_records :
    let full := [100, 200, 300]
    let turn := listening (faulting full (running .lower .freezer 10))
    let stalled : State := { turn with flt := { turn.flt with stall := 9 } }
    let old (s : State) : State := listening { s with cyc := { s.cyc with stopCommandedSince := 0, runFlag := false } }
    let front := [{ entry .freezer .lower with time := 1000 }]
    let rest (t : State) : Bool :=
      decide (t.flt.waitEnd = some 1300) && decide (t.cyc.lastStop = 1000) && decide (t.cyc.state = .off) && raised .driveFault t
    turn.link.window = some 0 ∧ turn.mgr.state ≠ .due ∧ turn.flt.lockout = none ∧ (turn.flt.enter 1000).lockout = some 1000
      ∧ after (.driveStatus (status 0 0 0)) stalled
          (fun t => rest t && raised .driveLockout t && decide (t.flt.last = some (.stall, 0)) && decide (t.flt.times = full)
            && decide (t.arb.queue = front) && t.arb.served.isEmpty && decide (t.cyc.stopCommandedSince = 1000)
            && decide (t.act.runOn = some 60)) = true
      ∧ after (.driveStatus (status 2 0 4)) turn
          (fun t => rest t && raised .driveLockout t && decide (t.flt.last = some (.reported, 4)) && decide (t.arb.queue = front)) = true
      ∧ after (.driveStatus (status 1 100 0)) (old stopping)
          (fun t => rest t && !raised .driveLockout t && decide (t.flt.times = [1000]) && t.flt.runaway
            && decide (t.cyc.stopCommandedSince = 0)) = true
      ∧ after (.driveStatus (status 1 100 0)) (old (starting .upper .fresh .valve (.moving .upper 200 0)))
          (fun t => rest t && t.flt.runaway && decide (t.cyc.stopCommandedSince = 1000) && t.arb.served.isEmpty) = true
      ∧ after (.driveStatus (status 1 100 0)) (old base) (fun t => rest t && decide (t.arb = base.arb) && decide (t.act.runOn = none)) = true
      ∧ after (.driveStatus (status 1 100 0)) { old stopping with flt := { stopping.flt with runaway := true } }
          (fun t => decide (t.cyc.state = .stopping) && !raised .driveFault t) = true := by decide +kernel
theorem test_runaway_in_a_stopping_from_the_valve_phase :
    let s := starting .upper .fresh .valve (.moving .upper 200 0)
    s.cyc.stopCommandedSince = 0 ∧ s.stopOrder.cyc.state = .stopping ∧ s.stopOrder.cyc.stopTimer = some 0
      ∧ s.stopOrder.cyc.stopCommandedSince = 0
      ∧ after (.driveStatus (status 1 100 0)) (listening s.stopOrder)
          (fun t => decide (t.flt.last = some (.runaway, 0)) && decide (t.cyc.state = .off)) = true := by decide +kernel
theorem test_forced_run_ends_its_start :
    let s : State := listening { forcedRun with
      link := { LinkRecord.initial with state := .up },
      cyc := { CycleRecord.initial with
        state := .starting, phase := some .run, runFlag := true, speed := 2000, startWindow := some 7 } }
    s.cyc.path = none ∧ s.arb.turnPath = none ∧ s.mgr.state ≠ .due
      ∧ after (.driveStatus (status 1 100 0)) s
          (fun t => decide (t.cyc = forcedRun.cyc) && decide (t.arb = s.arb) && decide (t.flt = s.flt)) = true
      ∧ after (.driveStatus (status 1 99 0)) s (fun t => decide (t.cyc = s.cyc)) = true := by decide +kernel
theorem test_failed_start_enters_the_fault_list :
    let s := starting .upper .fresh .run (.standing .upper)
    s.cyc.startWindow = some 30 ∧ s.mgr.state ≠ .due
      ∧ after .startWindowExpiry (faulting [1, 2] s) (fun t => decide (t.flt.times = [1, 2, 1000]) && decide (t.flt.lockout = none)
          && decide (t.events = s.events.map (·.add .driveFault))) = true
      ∧ after .startWindowExpiry (faulting [1, 2, 3] s) (fun t => decide (t.flt.times = [1, 2, 3]) && decide (t.flt.lockout = some 1000)
          && raised .driveLockout t) = true := by decide +kernel
theorem test_dampers_in_a_step :
    let w (r : DamperRecord) : State := { base with act := { base.act with dampers := { base.act.dampers with ice := r } } }
    let next (r : DamperRecord) : DamperRecord := (w r).tick.act.dampers.ice
    let serving : State :=
      { running .lower .ice 10 with act := { base.act with dampers := (running .lower .ice 10).act.dampers.set .ice ⟨some 0, .idle, 0, 0⟩ } }
    (w ⟨some 399, .moving, 0, 0⟩).damperOpen .ice = false ∧ next ⟨some 399, .moving, 0, 0⟩ = ⟨some 398, .moving, 0, 0⟩
      ∧ next ⟨some 398, .moving, 400, 0⟩ = ⟨some 399, .moving, 0, 0⟩ ∧ next ⟨some 1, .moving, 400, 0⟩ = ⟨some 2, .moving, 0, 0⟩
      ∧ next ⟨none, .homing, 0, 439⟩ = ⟨none, .homing, 0, 440⟩ ∧ next ⟨none, .homing, 400, 440⟩ = ⟨none, .homing, 0, 440⟩
      ∧ next ⟨some 0, .idle, 0, 0⟩ = ⟨some 0, .idle, 0, 0⟩
      ∧ serving.damperOpen .ice = true ∧ serving.settle.act.dampers.ice = ⟨some 0, .moving, 400, 0⟩
      ∧ (DamperRecord.mk (some 400) .moving 0 0).aim 400 = ⟨some 400, .idle, 400, 0⟩
      ∧ (DamperRecord.mk none .homing 0 9).aim 400 = ⟨none, .homing, 400, 9⟩
      ∧ (DamperRecord.mk (some 250) .moving 0 0).aim 0 = ⟨some 250, .moving, 0, 0⟩ := by decide +kernel
theorem test_fans_take_a_duty :
    let f : FanRecord := { duty := 30, tach := 600, spinUp := 5, low := 3, good := 7 }
    let s (duty : Nat) : State := { held with act := { held.act with
      forced := some { Forced.rest with fans := { upper := duty, lower := 0, condenser := 0 } },
      fans := { held.act.fans with upper := f } } }
    (s 30).settle.act.fans.upper = f ∧ (s 40).settle.act.fans.upper = { f with duty := 40, spinUp := 0 }
      ∧ (s 0).settle.act.fans.upper = { f with duty := 0, spinUp := 0, low := 0, good := 0 } := by decide +kernel
theorem test_ambient_of_ch6 :
    let s (st : ChannelState) (t : Option Int) : State :=
      { running .lower .freezer 60 with channels := base.channels.set .ch6 { channel st 0 with temperature := t } }
    let target (s : State) (n : Nat) : Bool := after .speedUpdate s fun t => decide (t.cyc.target = some n)
    target (s .ok (some 320)) 2400 = true ∧ target (s .fault (some 320)) 2300 = true ∧ target (s .ok none) 2300 = true
      ∧ target (s .unseeded none) 2300 = true ∧ target (s .ok (some (-500))) 1900 = true := by decide +kernel
/-- FLEX with a boost that Port A asked for, in a band. -/
def boostedFlex (preset : Nat) (mode : ZoneMode) (band : Option Nat) (heat : Bool) : State :=
  { base with
    zones := { base.zones with
      flex := { base.zones.flex with
        preset := preset, boost := some { expiry := 1000, port := .a }, demand := .calling .three, mode := mode, band := band,
        heat := heat, fallbackStart := if mode = .fallback then some 0 else none } },
    arb := { Arbiter.initial with queue := [{ entry .flex .either with level := .three }] },
    link := LinkRecord.initial }
theorem test_heat_after_a_boost :
    let hot (s : State) : Bool := after (.boostExpiry .flex) s fun t => t.zones.flex.heat && t.act.flexHeater.output
    let cancelled (s : State) : Bool := said .cancelBoost .a [3, 0x14, 1] s fun t => t.zones.flex.heat
    let s := boostedFlex 4 .normal (some 0) false
    Asked .a .cancelBoost [3, 0x14, 1] s ∧ (frameOf [3, 0x14, 1]).zone = some .flex ∧ (s.presetOf .flex).heaterEnable = true
      ∧ s.demandAfterBoost .flex = .idle ∧ ((s.ladderOf .flex).band 0).heat = .on ∧ ((s.ladderOf .flex).band 1).heat = .hold
      ∧ hot s = true ∧ cancelled s = true
      ∧ hot (boostedFlex 4 .normal (some 1) true) = true ∧ hot (boostedFlex 4 .normal (some 1) false) = false
      ∧ hot (boostedFlex 4 .normal (some 2) true) = false ∧ hot (boostedFlex 4 .normal none true) = false
      ∧ hot (boostedFlex 1 .normal (some 1) true) = false ∧ hot (boostedFlex 4 .fallback (some 0) true) = false
      ∧ cancelled (boostedFlex 4 .normal none true) = false ∧ cancelled (boostedFlex 4 .normal (some 1) true) = true := by decide +kernel
theorem test_boosts_of_no_zone :
    Asked .s .startBoost [5, 0x13, 4, 0, 9] base ∧ Asked .a .startBoost [5, 0x13, 4, 0, 9] base ∧ Asked .s .cancelBoost [3, 0x14, 4] base
      ∧ Asked .a .cancelBoost [3, 0x14, 255] base ∧ (frameOf [3, 0x14, 4]).arg 0 = 4 ∧ (frameOf [3, 0x14, 255]).arg 0 = 255
      ∧ base.refusal .b (frameOf [3, 0x14, 4]) = some .badArgument
      ∧ said .startBoost .s [5, 0x13, 4, 0, 9] base (stands .s .badArgument) = true
      ∧ said .startBoost .a [5, 0x13, 4, 0, 9] base (fun t => stands .a .badArgument t && decide (t.zones = base.zones)) = true
      ∧ said .cancelBoost .s [3, 0x14, 4] base (stands .s .badArgument) = true
      ∧ said .cancelBoost .a [3, 0x14, 255] base (stands .a .badArgument) = true := by decide +kernel
theorem test_version_between_the_loads :
    let s : State := { State.reset with store := { StoreRecord.initial with imageLoaded := true, imageState := .accepted, imageVersion := 7 } }
    let both : State := { s with store := { s.store with settingsLoaded := true } }
    let version (s : State) : List Byte → Bool := fun l => said .identify .a [2, 0x01] s fun t => decide ((t.answer .a).data.drop 3 = l)
    Asked .a .identify [2, 0x01] s ∧ Asked .a .identify [2, 0x01] both ∧ s.store.settingsLoaded = false ∧ s.ready = false
      ∧ version s [0, 0, 0] = true ∧ version both [0, 7, 0] = true ∧ version { both with ready := true } [0, 7, 1] = true
      ∧ version { both with store := { both.store with imageVersion := 0 } } [0, 0, 0] = true := by decide +kernel
theorem test_cap_between_speed_and_target :
    let s := running .lower .freezer 60
    let up : State := { s with cyc := { s.cyc with speed := 2000, target := some 2700 } }
    Asked .a .limitPower [6, 0x20, 0x09, 0xC4, 0, 1] up ∧ up.cyc.runFlag = true
      ∧ said .limitPower .a [6, 0x20, 0x09, 0xC4, 0, 1] up
          (fun t => decide (t.cyc.speed = 2000) && decide (t.cyc.target = some 2500)) = true
      ∧ up.setCondenserCap.cyc.speed = 2000 ∧ up.setCondenserCap.cyc.target = some 2400 := by decide +kernel

end Sys2Proof.Tests
end

section
/-!
SUPPORT. What each operation and each command can change, told record by record. The records that a rule gives an owner are named once
(`OwnedRecord`); an operation that touches a list of them leaves every other one as it stands, so the lists of a sequence of operations
join. The list of a command (`touchedBy`) then serves the statements on what no command touches and the invariants of every step.
-/
namespace Sys2Proof.Machine

/-! ## The records that have an owner -/

/-- A record of the part with one owner, or what an invariant reads of it. -/
inductive OwnedRecord where
  | clock | pending | ready | channels | zones | choices | doorHolds | doors | openings | cap | link | ports | panel | tables | acct
  | loads | fans | pathCounts | faults

/-- What it means that a record stands: equality for a record with one owner; for the counts of fans and of stalls, which outputs and
ends of turns return to 0, that none has risen. -/
def OwnedRecord.stands (r : OwnedRecord) (s t : State) : Prop :=
  match r with
  | .clock => t.clock = s.clock
  | .pending => t.pending = s.pending
  | .ready => t.ready = s.ready
  | .channels => t.channels = s.channels
  | .zones => t.zones = s.zones
  | .choices => ∀ z, (t.zones.get z).preset = (s.zones.get z).preset ∧ (t.zones.get z).setpoint = (s.zones.get z).setpoint
  | .doorHolds => ∀ z, (t.zones.get z).doorHold = (s.zones.get z).doorHold
  | .doors => t.doors = s.doors
  | .openings => ∀ d, (t.doors.get d).isOpen = (s.doors.get d).isOpen
  | .cap => t.cap = s.cap
  | .link => t.link = s.link
  | .ports => t.ports = s.ports
  | .panel => t.panel = s.panel
  | .tables => t.tables = s.tables
  | .acct => t.acct = s.acct
  | .loads => t.store.imageLoaded = s.store.imageLoaded ∧ t.store.settingsLoaded = s.store.settingsLoaded
  | .fans => ∀ f, (t.act.fans.get f).spinUp ≤ (s.act.fans.get f).spinUp ∧ (t.act.fans.get f).low ≤ (s.act.fans.get f).low
      ∧ (t.act.fans.get f).good ≤ (s.act.fans.get f).good
  | .pathCounts => ∀ p, (t.arb.paths.get p).count = (s.arb.paths.get p).count
  | .faults => t.flt.times = s.flt.times ∧ t.flt.stall ≤ s.flt.stall

theorem OwnedRecord.stands_refl (r : OwnedRecord) (s : State) : r.stands s s := by
  cases r <;> simp [OwnedRecord.stands]

theorem OwnedRecord.stands_trans {r : OwnedRecord} {s t u : State} (h : r.stands s t) (k : r.stands t u) : r.stands s u := by
  cases r
  case choices => exact fun z => ⟨(k z).1.trans (h z).1, (k z).2.trans (h z).2⟩
  case doorHolds => exact fun z => (k z).trans (h z)
  case openings => exact fun d => (k d).trans (h d)
  case loads => exact ⟨k.1.trans h.1, k.2.trans h.2⟩
  case fans => exact fun f => ⟨(k f).1.trans (h f).1, (k f).2.1.trans (h f).2.1, (k f).2.2.trans (h f).2.2⟩
  case pathCounts => exact fun p => (k p).trans (h p)
  case faults => exact ⟨k.1.trans h.1, k.2.trans h.2⟩
  all_goals exact Eq.trans k h

/-! ## Touching a list of records -/

/-- Every record outside the list stands. -/
def Touches (l : List OwnedRecord) (s t : State) : Prop := ∀ r, r ∉ l → r.stands s t

theorem Touches.refl (l : List OwnedRecord) (s : State) : Touches l s s := fun r _ => r.stands_refl s

theorem Touches.trans {l : List OwnedRecord} {s t u : State} (h : Touches l s t) (k : Touches l t u) : Touches l s u :=
  fun r hr => OwnedRecord.stands_trans (h r hr) (k r hr)

theorem Touches.mono {l m : List OwnedRecord} {s t : State} (h : Touches l s t) (hl : l ⊆ m) : Touches m s t :=
  fun r hr => h r fun hm => hr (hl hm)

/-- What touches nothing may stand before or after what touches a list. -/
theorem Touches.after {l : List OwnedRecord} {s t u : State} (k : Touches l t u) (h : Touches [] s t) : Touches l s u :=
  (h.mono (List.nil_subset l)).trans k

theorem Touches.before {l : List OwnedRecord} {s t u : State} (h : Touches l s t) (k : Touches [] t u) : Touches l s u :=
  h.trans (k.mono (List.nil_subset l))

/-- What a turn moves, where the fault counts of the paths and the drive fault record stand. -/
theorem TurnOnly.touches {s t : State} (h : TurnOnly s t) (hp : ∀ p, (t.arb.paths.get p).count = (s.arb.paths.get p).count)
    (hf : t.flt.times = s.flt.times ∧ t.flt.stall ≤ s.flt.stall) : Touches [] s t := by
  obtain ⟨a, c, f, v, ro, ar, fd, rfl⟩ := h
  intro r _
  cases r
  case pathCounts => exact hp
  case faults => exact hf
  all_goals simp [OwnedRecord.stands]

theorem TurnOnly.quiet {s t : State} (h : TurnOnly s t) (hp : t.arb.paths = s.arb.paths) (hf : t.flt = s.flt) : Touches [] s t :=
  h.touches (fun p => by rw [hp]) ⟨by rw [hf], by rw [hf]⟩

/-- What the manager moves, where the accounting, the fault counts of the paths and the drive fault record stand. -/
theorem ManagerOnly.quiet {s t : State} (h : ManagerOnly s t) (hx : t.acct = s.acct) (hp : t.arb.paths = s.arb.paths)
    (hf : t.flt = s.flt) : Touches [] s t := by
  obtain ⟨_, _, _, _, _, _, _, _, _, _, _, _, _, _, rfl⟩ := h
  intro r _
  cases r
  case acct => exact hx
  case pathCounts => exact fun p => by rw [hp]
  case faults => exact ⟨congrArg DriveFaultRecord.times hf, le_of_eq (congrArg DriveFaultRecord.stall hf)⟩
  all_goals simp [OwnedRecord.stands]

/-- What the image store moves, where its loads stand. -/
theorem StoreOnly.quiet {s t : State} (h : StoreOnly s t)
    (hl : t.store.imageLoaded = s.store.imageLoaded ∧ t.store.settingsLoaded = s.store.settingsLoaded) : Touches [] s t := by
  obtain ⟨_, _, _, rfl⟩ := h
  intro r _
  cases r
  case loads => exact hl
  all_goals simp [OwnedRecord.stands]

/-- A new arbiter over the same paths. -/
theorem Touches.arb {s : State} {a : Arbiter} (h : a.paths = s.arb.paths) : Touches [] s { s with arb := a } :=
  (TurnOnly.arb s a).quiet h rfl

/-! ## The cycle controller's operations -/

theorem State.leaveRunning_quiet (s : State) : Touches [] s s.leaveRunning := by
  unfold State.leaveRunning; split
  · exact TurnOnly.quiet ⟨_, _, _, _, _, _, _, rfl⟩ rfl rfl
  · exact .refl _ s

theorem State.clearStall_quiet (s : State) : Touches [] s s.clearStall :=
  s.clearStall_turn.touches (fun _ => rfl) ⟨rfl, Nat.zero_le _⟩

theorem State.markStopped_quiet (s : State) : Touches [] s s.markStopped := s.markStopped_turn.quiet rfl rfl

theorem State.markStopCommanded_quiet (s : State) : Touches [] s s.markStopCommanded := s.markStopCommanded_turn.quiet rfl rfl

theorem State.requestValve_quiet (s : State) (p : Path) : Touches [] s (s.requestValve p) := (s.requestValve_turn p).quiet rfl rfl

theorem State.enterRunPhase_quiet (s : State) (v : Nat) : Touches [] s (s.enterRunPhase v) :=
  (s.enterRunPhase_turn v).touches (fun _ => rfl) ⟨rfl, le_rfl⟩

theorem State.enterStarting_quiet (s : State) (p : Option Path) (ph : StartPhase) : Touches [] s (s.enterStarting p ph) :=
  (s.enterStarting_turn p ph).quiet rfl rfl

theorem State.stopOrder_quiet (s : State) : Touches [] s s.stopOrder := by
  unfold State.stopOrder; split
  · exact .refl _ s
  · exact (s.leaveRunning_quiet.trans (State.clearStall_quiet _)).trans ((TurnOnly.records _ _ _ _).quiet rfl rfl)

theorem State.enterOff_quiet (s : State) : Touches [] s s.enterOff :=
  (s.leaveRunning_quiet.trans (State.clearStall_quiet _)).trans (TurnOnly.quiet ⟨_, _, _, _, _, _, _, rfl⟩ rfl rfl)

theorem State.startOrder_quiet (s : State) (p : Path) : Touches [] s (s.startOrder p) := by
  unfold State.startOrder
  refine (s.enterStarting_quiet (some p) .valve).trans ?_
  dsimp only; split
  · exact State.enterRunPhase_quiet _ _
  · exact State.requestValve_quiet _ _

theorem State.transferOrder_quiet (s : State) (q : Path) : Touches [] s (s.transferOrder q) :=
  (s.leaveRunning_quiet.trans ((TurnOnly.records _ _ _ _).quiet rfl rfl)).trans (State.requestValve_quiet _ q)

theorem State.enterRunningFromStart_quiet (s : State) : Touches [] s s.enterRunningFromStart :=
  s.enterRunningFromStart_turn.quiet rfl rfl

theorem State.enterRunningFromTransfer_quiet (s : State) : Touches [] s s.enterRunningFromTransfer :=
  s.enterRunningFromTransfer_turn.quiet rfl rfl

theorem State.updateSpeed_quiet (s : State) : Touches [] s s.updateSpeed := s.updateSpeed_turn.quiet rfl rfl

theorem State.applyCaps_quiet (s : State) : Touches [] s s.applyCaps := by
  unfold State.applyCaps; repeat' split
  all_goals exact (TurnOnly.records s s.arb _ s.flt).quiet rfl rfl

theorem State.capLifted_quiet (s : State) : Touches [] s s.capLifted := by
  unfold State.capLifted; repeat' split
  all_goals exact (TurnOnly.records s s.arb _ s.flt).quiet rfl rfl

/-! ## The arbiter's operations -/

theorem State.handStop_quiet (s : State) : Touches [] s s.handStop := (Touches.arb rfl).trans (State.stopOrder_quiet _)

theorem State.handTransfer_quiet (s : State) (q : Path) : Touches [] s (s.handTransfer q) :=
  (Touches.arb rfl).trans (State.transferOrder_quiet _ q)

theorem State.startCheck_quiet (s : State) : Touches [] s s.startCheck := by
  unfold State.startCheck; split
  · dsimp only; split
    · exact .refl _ s
    · exact (Touches.arb rfl).trans (State.startOrder_quiet _ _)
  · exact .refl _ s

theorem State.candidateCheck_quiet (s : State) : Touches [] s s.candidateCheck := by
  unfold State.candidateCheck; split
  · split
    · exact .refl _ s
    · dsimp only; split
      · exact State.handTransfer_quiet _ _
      · split
        · exact (Touches.arb rfl).trans (State.handTransfer_quiet _ _)
        · exact .refl _ s
  · exact .refl _ s

theorem State.arbiterCheck_quiet (s : State) : Touches [] s s.arbiterCheck := by
  unfold State.arbiterCheck; split
  · exact s.startCheck_quiet
  · exact s.candidateCheck_quiet

theorem State.servedEmptied_quiet (s : State) : Touches [] s s.servedEmptied := by
  unfold State.servedEmptied; split
  · exact State.handTransfer_quiet _ _
  · split
    · exact s.handStop_quiet
    · exact Touches.arb rfl

theorem State.reportRunning_quiet (s : State) : Touches [] s s.reportRunning := by
  unfold State.reportRunning; split
  · exact s.servedEmptied_quiet
  · exact .refl _ s

theorem State.reportOff_quiet (s : State) : Touches [] s s.reportOff := (Touches.arb rfl).trans (State.startCheck_quiet _)

theorem State.join_quiet (s : State) (z : Zone) (ps : PathSet) (l : CallLevel) : Touches [] s (s.join z ps l) := by
  unfold State.join
  dsimp only; split
  all_goals split
  all_goals first
    | exact Touches.arb rfl
    | exact (Touches.arb rfl).trans (State.arbiterCheck_quiet _)

theorem State.leave_quiet (s : State) (z : Zone) : Touches [] s (s.leave z) := by
  unfold State.leave
  dsimp only; split
  · exact (Touches.arb rfl).trans (State.servedEmptied_quiet _)
  · exact Touches.arb rfl

theorem State.demandChanged_quiet (s : State) (z : Zone) (b a : Demand) (ps : PathSet) :
    Touches [] s (s.demandChanged z b a ps) := by
  unfold State.demandChanged; split
  · exact .refl _ s
  · exact s.join_quiet _ _ _
  · exact s.leave_quiet _
  · split
    · exact .refl _ s
    · exact Touches.arb rfl

theorem State.demandEvaluated_quiet (s : State) (z : Zone) (b a : Demand) (ps : PathSet) :
    Touches [] s (s.demandEvaluated z b a ps) := by
  unfold State.demandEvaluated; split
  · split
    · split
      · exact s.demandChanged_quiet _ _ _ _
      · exact (s.leave_quiet _).trans (State.join_quiet _ _ _ _)
    · exact s.demandChanged_quiet _ _ _ _
  · exact s.demandChanged_quiet _ _ _ _

theorem State.giveUp_quiet (s : State) : Touches [] s s.giveUp := by
  unfold State.giveUp
  dsimp only; split
  · split
    · exact (Touches.arb rfl).trans (State.handTransfer_quiet _ _)
    · exact (Touches.arb rfl).trans (State.handStop_quiet _)
  · exact (Touches.arb rfl).trans (State.handStop_quiet _)

theorem State.release_quiet (s : State) (p : Path) : Touches [] s (s.release p) := by
  unfold State.release; split
  · exact s.giveUp_quiet
  · exact .refl _ s

/-- A path record is replaced by one with the same fault count. -/
theorem Touches.path (s : State) (p : Path) {r : PathRecord} (h : r.count = (s.arb.paths.get p).count) :
    Touches [] s { s with arb := { s.arb with paths := s.arb.paths.set p r } } := by
  refine (TurnOnly.arb s _).touches (fun q => ?_) ⟨rfl, le_rfl⟩
  by_cases hq : q = p
  · subst hq; simp [h]
  · simp [hq]

theorem State.faultTimerOut_quiet (s : State) (p : Path) : Touches [] s (s.faultTimerOut p) :=
  (Touches.path s p (r := { s.arb.paths.get p with fault := .none, timer := none }) rfl).trans (State.arbiterCheck_quiet _)

theorem State.block_quiet (s : State) (p : Path) : Touches [] s (s.block p) := Touches.path s p rfl

theorem State.unblock_quiet (s : State) (p : Path) : Touches [] s (s.unblock p) :=
  (Touches.path s p (r := { s.arb.paths.get p with blocked := false }) rfl).trans (State.arbiterCheck_quiet _)

theorem State.endCompressorHold_quiet (s : State) : Touches [] s s.endCompressorHold :=
  (Touches.arb rfl).trans (State.startCheck_quiet _)

theorem State.reportFailure_quiet (s : State) : Touches [] s s.reportFailure := Touches.arb rfl

theorem State.compressorLost_quiet (s : State) : Touches [] s s.compressorLost := by
  unfold State.compressorLost
  refine s.markStopped_quiet.trans ?_
  split
  · exact .refl _ _
  · exact (State.enterOff_quiet _).trans (State.reportOff_quiet _)
  all_goals
    exact ((State.enterOff_quiet _).trans (State.markStopCommanded_quiet _)).trans (State.reportFailure_quiet _)

theorem State.arbiterHoldEntry_quiet (s : State) : Touches [] s s.arbiterHoldEntry := by
  unfold State.arbiterHoldEntry; split
  · exact (Touches.arb rfl).trans (State.handStop_quiet _)
  · exact .refl _ s

theorem State.stopped_quiet (s : State) : Touches [] s s.stopped :=
  (s.markStopped_quiet.trans (State.enterOff_quiet _)).trans (State.reportOff_quiet _)

theorem State.completeTransfer_quiet (s : State) : Touches [] s s.completeTransfer :=
  s.enterRunningFromTransfer_quiet.trans (State.reportRunning_quiet _)

theorem State.turnReport_quiet (s : State) : Touches [] s s.turnReport :=
  ((TurnOnly.records s _ _ _).quiet rfl rfl).trans (State.candidateCheck_quiet _)

theorem State.onTimeReport_quiet (s : State) : Touches [] s s.onTimeReport := by
  unfold State.onTimeReport
  have h : Touches [] s { s with cyc := { s.cyc with minOnReported := true } } :=
    (TurnOnly.records s s.arb _ s.flt).quiet rfl rfl
  dsimp only; split
  · exact h.trans (State.handStop_quiet _)
  · exact h

theorem State.valveReport_quiet (s : State) (p : Path) : Touches [] s (s.valveReport p) := by
  unfold State.valveReport; split
  · exact s.enterRunPhase_quiet _
  · split
    · exact s.completeTransfer_quiet
    · exact .refl _ s

theorem State.cycleReply_quiet (s : State) (r : DriveReply) : Touches [] s (s.cycleReply r) := by
  unfold State.cycleReply; split
  · exact s.enterRunningFromStart_quiet.trans (State.reportRunning_quiet _)
  · split
    · exact s.stopped_quiet
    · exact .refl _ s

/-! ## The defrost manager's operations -/

theorem Touches.mgr (s : State) (m : Manager) : Touches [] s { s with mgr := m } := (ManagerOnly.mgr s m).quiet rfl rfl rfl

theorem Touches.raise (s : State) (k : EventKind) : Touches [] s (s.raise k) := (ManagerOnly.raise s k).quiet rfl rfl rfl

theorem State.beginStep_quiet (s : State) (i : Nat) : Touches [] s (s.beginStep i) := .mgr s _

theorem State.endAfterRun_quiet (s : State) : Touches [] s s.endAfterRun :=
  TurnOnly.quiet ⟨_, _, _, _, _, _, _, rfl⟩ rfl rfl

theorem State.endFanDelay_quiet (s : State) : Touches [] s s.endFanDelay :=
  TurnOnly.quiet ⟨_, _, _, _, _, _, _, rfl⟩ rfl rfl

theorem Touches.ite {l : List OwnedRecord} {s t u : State} (b : Prop) [Decidable b] (h : Touches l s t) (k : Touches l s u) :
    Touches l s (if b then t else u) := by
  split
  · exact h
  · exact k

/-- The window is none of the records that have an owner here. -/
theorem Touches.window (s : State) (w : DefrostWindow) : Touches [] s { s with window := w } :=
  ManagerOnly.quiet ⟨_, _, _, _, _, _, _, _, _, _, _, _, _, _, rfl⟩ rfl rfl rfl

theorem State.beginProgram_quiet (s : State) (g : Program) : Touches [] s (s.beginProgram g) := by
  unfold State.beginProgram
  extract_lets m s1 s2 a s3 s4
  have h2 : Touches [] s s2 := (Touches.mgr s _).trans (State.block_quiet _ _)
  have h3 : Touches [] s s3 := Touches.ite _ (h2.trans (Touches.arb rfl)) h2
  have h4 : Touches [] s s4 := by
    unfold s4; split
    · exact h3.trans (State.endAfterRun_quiet _)
    · exact h3.trans (Touches.window _ _)
  exact (h4.trans (.raise _ _)).trans (State.beginStep_quiet _ _)

theorem State.beginTest_quiet (s : State) : Touches [] s s.beginTest := by
  unfold State.beginTest; split
  · split
    · exact s.beginProgram_quiet _
    · exact .refl _ s
  · exact .refl _ s

theorem State.askRelease_quiet (s : State) (p : Path) : Touches [] s (s.askRelease p) :=
  (Touches.mgr s _).trans (State.release_quiet _ _)

theorem State.managerReact_quiet (s : State) : Touches [] s s.managerReact := by
  unfold State.managerReact; split
  · split
    · exact (s.askRelease_quiet _).trans (State.beginTest_quiet _)
    · exact s.beginTest_quiet
  · exact .refl _ s

theorem State.handOver_quiet (s t : State) : Touches [] t (State.handOver s t) := by
  unfold State.handOver; split
  · exact t.managerReact_quiet
  · exact .refl _ t

theorem State.beginWait_quiet (s : State) (n : Nat) : Touches [] s (s.beginWait n) :=
  (Touches.mgr s _).trans (State.managerReact_quiet _)

theorem State.enterDue_quiet (s : State) : Touches [] s s.enterDue := by
  unfold State.enterDue
  dsimp only; split
  · exact .mgr s _
  · exact (Touches.mgr s _).trans (State.beginWait_quiet _ _)

theorem State.dueTest_quiet (s : State) : Touches [] s s.dueTest := by
  unfold State.dueTest; split
  · exact s.enterDue_quiet
  · exact .refl _ s

/-- The accounting is replaced, and of what a manager moves the dirty mark. -/
theorem ManagerOnly.accounts {s t : State} (h : ManagerOnly s t) (hp : t.arb.paths = s.arb.paths) (hf : t.flt = s.flt) :
    Touches [.acct] s t := by
  have h' : ManagerOnly { s with acct := t.acct } t := by
    obtain ⟨_, _, _, _, _, _, _, _, _, _, _, _, _, _, rfl⟩ := h
    exact ⟨_, _, _, _, _, _, _, _, _, _, _, _, _, _, rfl⟩
  have ha : Touches [.acct] s { s with acct := t.acct } := by
    intro r hr
    cases r <;> simp_all [OwnedRecord.stands]
  exact ha.before (h'.quiet rfl hp hf)

theorem State.credit_touches (s : State) (n : Nat) : Touches [.acct] s (s.credit n) :=
  (ManagerOnly.accounts ⟨_, _, _, _, _, _, _, _, _, _, _, _, _, _, rfl⟩ rfl rfl).before (State.dueTest_quiet _)

theorem State.programEnded_quiet (s : State) (g : Program) : Touches [] s (s.programEnded g) := by
  have h : ∀ t : State, Touches [] s t →
      Touches [] s (if g.compressorOff then (t.unblock g.path).endCompressorHold else t.unblock g.path) := by
    intro t ht; split
    · exact (ht.trans (State.unblock_quiet _ _)).trans (State.endCompressorHold_quiet _)
    · exact ht.trans (State.unblock_quiet _ _)
  unfold State.programEnded
  cases hg : g.path <;> dsimp only <;> rw [hg] at h <;>
    exact h _ (ManagerOnly.quiet ⟨_, _, _, _, _, _, _, _, _, _, _, _, _, _, rfl⟩ rfl rfl rfl)

theorem State.complete_touches (s : State) (g : Program) : Touches [.acct] s (s.complete g) := by
  have hr := Touches.mgr s { s.mgr with lastOutcome := s.mgr.program.map fun i => (i, .completed, s.now) }
  have hd : ∀ t : State, Touches [] t (State.dueTest { (t.programEnded g).raise .defrostEnd with
      mgr := ((t.programEnded g).raise .defrostEnd).mgr.atRest .idle }) := fun t =>
    (((t.programEnded_quiet g).trans (.raise _ _)).trans (.mgr _ _)).trans (State.dueTest_quiet _)
  unfold State.complete State.recordOutcome
  cases g.path <;> dsimp only
  · exact ((hr.trans (hd _)).mono (List.nil_subset _))
  · exact ((ManagerOnly.accounts (State.accountCompletion_manager _) rfl rfl).after hr).before (hd _)

theorem State.exitEnded_quiet (s : State) (g : Program) : Touches [] s (s.exitEnded g) :=
  ((((Touches.mgr s _).trans (State.programEnded_quiet _ g)).trans (.raise _ _))).trans (.mgr _ _)

theorem State.abort_quiet (s : State) (g : Program) : Touches [] s (s.abort g) :=
  (Touches.mgr s _).trans (State.beginStep_quiet _ _)

theorem State.cancelManager_quiet (s : State) : Touches [] s s.cancelManager := by
  unfold State.cancelManager
  dsimp only; split
  · exact (((Touches.mgr s _).trans (State.programEnded_quiet _ _)).trans (.raise _ _)).trans (.mgr _ _)
  · exact .mgr s _

theorem State.noteStepEnd_quiet (s : State) (st : Step) (c : EndCause) : Touches [] s (s.noteStepEnd st c) := by
  unfold State.noteStepEnd
  have ha := Touches.ite (c = .timeout) (.raise s .stepTimeout) (.refl [] s)
  have hb := Touches.ite (st.notify = true) (ha.trans (.raise _ .programStep)) ha
  exact Touches.ite (st.measure = true) (hb.trans (.mgr _ _)) hb

theorem State.endStep_touches (s : State) (g : Program) (st : Step) (c : EndCause) : Touches [.acct] s (s.endStep g st c) := by
  unfold State.endStep
  dsimp only
  refine Touches.after ?_ (s.noteStepEnd_quiet st c)
  repeat' split
  · exact (State.abort_quiet _ g).mono (List.nil_subset _)
  · exact State.complete_touches _ g
  · exact (State.exitEnded_quiet _ g).mono (List.nil_subset _)
  · exact (State.beginStep_quiet _ _).mono (List.nil_subset _)

theorem State.stepReport_touches (s : State) (r : Report) : Touches [.acct] s (s.stepReport r) := by
  unfold State.stepReport; split
  · split
    · exact s.endStep_touches _ _ _
    · exact .refl _ s
  · exact .refl _ s

theorem State.stepEnds_touches (s : State) (c : EndCause) : Touches [.acct] s (s.stepEnds c) := by
  unfold State.stepEnds; split
  · exact s.endStep_touches _ _ _
  · exact .refl _ s

theorem State.heaterLimitToManager_quiet (s : State) : Touches [] s s.heaterLimitToManager := by
  unfold State.heaterLimitToManager; split
  · exact s.abort_quiet _
  · exact .refl _ s

theorem State.pathWaitOver_quiet (s : State) : Touches [] s s.pathWaitOver := by
  unfold State.pathWaitOver; split
  · exact (s.askRelease_quiet _).trans (State.beginTest_quiet _)
  · exact .refl _ s

theorem State.endHoldoff_quiet (s : State) : Touches [] s s.endHoldoff := (Touches.mgr s _).trans (State.dueTest_quiet _)

theorem State.valveArrives_quiet (s : State) : Touches [] s s.valveArrives := by
  unfold State.valveArrives; split
  · exact .refl _ s
  · refine Touches.trans ?_ (State.beginTest_quiet _)
    exact (TurnOnly.quiet ⟨_, _, _, _, _, _, _, rfl⟩ rfl rfl).trans (State.valveReport_quiet _ _)

/-! ## Drive faults and losses -/

/-- The drive fault record is replaced. -/
theorem Touches.flt (s : State) (f : DriveFaultRecord) : Touches [.faults] s { s with flt := f } := by
  intro r hr
  cases r <;> simp_all [OwnedRecord.stands]

theorem State.driveLoss_quiet (s : State) : Touches [] s s.driveLoss := s.compressorLost_quiet.trans (.raise _ _)

theorem State.driveFault_touches (s : State) (c : DriveFaultCause) (n : Nat) : Touches [.faults] s (s.driveFault c n) := by
  have h := fun r => (Touches.flt _ r).after (s.compressorLost_quiet.trans (.raise _ .driveFault))
  unfold State.driveFault
  dsimp only; split
  · exact (h _).before (.raise _ _)
  · exact h _

theorem State.faultEvent_touches (s : State) (c : DriveFaultCause) (n : Nat) : Touches [.faults] s (s.faultEvent c n) := by
  unfold State.faultEvent
  dsimp only; split
  · exact (s.driveFault_touches c n).before (State.managerReact_quiet _)
  · exact s.driveFault_touches c n

end Sys2Proof.Machine
end

section
/-!
SUPPORT. The effects of the commands, told record by record, up to the list of what each command touches (`touchedBy`) and the lemma that
it touches no more (`exec_touches`).
-/
namespace Sys2Proof.Machine

/-! ## Plain updates -/

theorem Touches.act (s : State) {a : Actuators} (h : a.fans = s.act.fans) : Touches [] s { s with act := a } := by
  intro r _
  cases r <;> simp [OwnedRecord.stands, h]

theorem Touches.fans (s : State) (x : PerFan FanRecord) : Touches [.fans] s { s with act := { s.act with fans := x } } := by
  intro r hr
  cases r <;> simp_all [OwnedRecord.stands]

theorem Touches.cap (s : State) (c : CapRecord) : Touches [.cap] s { s with cap := c } := by
  intro r hr
  cases r <;> simp_all [OwnedRecord.stands]

theorem Touches.link (s : State) (x : LinkRecord) : Touches [.link] s { s with link := x } := by
  intro r hr
  cases r <;> simp_all [OwnedRecord.stands]

theorem Touches.ports (s : State) (x : Ports) : Touches [.ports] s { s with ports := x } := by
  intro r hr
  cases r <;> simp_all [OwnedRecord.stands]

theorem Touches.panel (s : State) (m : PerZone Bool) : Touches [.panel] s { s with panel := m } := by
  intro r hr
  cases r <;> simp_all [OwnedRecord.stands]

theorem Touches.events (s : State) (e : PerPort EventRecord) : Touches [] s { s with events := e } := by
  intro r _
  cases r <;> simp [OwnedRecord.stands]

theorem Touches.channels (s : State) (x : PerChannel ChannelRecord) : Touches [.channels] s { s with channels := x } := by
  intro r hr
  cases r <;> simp_all [OwnedRecord.stands]

theorem State.setTables_touches (s : State) (t : Tables) : Touches [.tables] s (s.setTables t) := by
  intro r hr
  cases r <;> simp_all [OwnedRecord.stands]

theorem State.raiseAll_quiet (s : State) (ks : List EventKind) : Touches [] s (s.raiseAll ks) := by
  rw [State.raiseAll_eq]; exact .events s _

theorem State.markDirty_quiet (s : State) : Touches [] s s.markDirty :=
  StoreOnly.quiet (StoreOnly.record s _) ⟨rfl, rfl⟩

theorem State.settingsChanged_quiet (s : State) (p : Port) : Touches [] s (s.settingsChanged p) :=
  s.markDirty_quiet.trans (.events _ _)

/-- A zone record is replaced, its door hold timer standing. -/
theorem State.setZone_touches (s : State) (z : Zone) {r : ZoneRecord} (hd : r.doorHold = (s.zones.get z).doorHold) :
    Touches [.zones, .choices] s (s.setZone z r) := by
  have h : ∀ y, ((s.setZone z r).zones.get y).doorHold = (s.zones.get y).doorHold := by
    intro y
    by_cases hy : y = z
    · subst hy; simpa [State.setZone] using hd
    · simp [State.setZone, hy]
  intro x hx
  cases x
  case doorHolds => exact h
  all_goals simp_all [OwnedRecord.stands]

/-- A zone record is replaced, its preset, setpoint and door hold timer standing. -/
theorem State.setZone_keeps_choice (s : State) (z : Zone) {r : ZoneRecord} (hp : r.preset = (s.zones.get z).preset)
    (hv : r.setpoint = (s.zones.get z).setpoint) (hd : r.doorHold = (s.zones.get z).doorHold) :
    Touches [.zones] s (s.setZone z r) := by
  intro x hx
  cases x
  case choices =>
    intro y
    by_cases hy : y = z
    · subst hy; simp [State.setZone, hp, hv]
    · simp [State.setZone, hy]
  case zones => simp at hx
  all_goals exact s.setZone_touches z hd _ (by simp)

/-- A door record is replaced, its opening standing. -/
theorem State.setDoor_keeps_opening (s : State) (d : Door) {r : DoorRecord} (h : r.isOpen = (s.doors.get d).isOpen) :
    Touches [.doors] s (s.setDoor d r) := by
  intro x hx
  cases x
  case openings =>
    intro y
    by_cases hy : y = d
    · subst hy; simp [State.setDoor, h]
    · simp [State.setDoor, hy]
  all_goals simp_all [OwnedRecord.stands]

/-! ## The end of a command -/

/-- A fan that takes a duty raises none of its counts (R108). -/
theorem FanRecord.drive_counts (f : FanRecord) (d : Nat) :
    (f.drive d).spinUp ≤ f.spinUp ∧ (f.drive d).low ≤ f.low ∧ (f.drive d).good ≤ f.good := by
  unfold FanRecord.drive
  split
  · simp
  · split <;> simp

theorem State.settle_quiet (s : State) : Touches [] s s.settle := by
  intro r _
  cases r
  case fans =>
    intro f
    cases f
    · exact s.act.fans.upper.drive_counts _
    · exact s.act.fans.lower.drive_counts _
    · exact s.act.fans.condenser.drive_counts _
  all_goals simp [OwnedRecord.stands]

theorem State.finish_touches {l : List OwnedRecord} {s u t : State} (hf : s.finish u = .next t) (h : Touches l s u) :
    Touches l s t := by
  rw [State.finish_eq] at hf
  cases hf
  exact h.before ((State.handOver_quiet s u).trans (State.settle_quiet _))

theorem State.event_touches {l : List OwnedRecord} {s t : State} {i : Instr} {f : State → State} (he : s.event i f = .next t)
    (h : s.due i = true → Touches l s (f s)) : Touches l s t := by
  unfold State.event at he
  split at he
  · exact State.finish_touches he (h ‹_›)
  · cases he; exact .refl _ _

/-! ## Sensors and zones -/

theorem ZoneRecord.estimateStep_eq (z : ZoneRecord) (p : Preset) (r : Report) :
    z.estimateStep p r = { z with estimate := (z.estimateStep p r).estimate, seeded := (z.estimateStep p r).seeded } := by
  unfold ZoneRecord.estimateStep
  repeat' split
  all_goals rfl

/-- An evaluation leaves the zone's preset, setpoint and door hold timer as they stand (R15, R16, R41). -/
theorem Evaluation.run_keeps_choice (x : Evaluation) (z : ZoneRecord) :
    (x.run z).1.preset = z.preset ∧ (x.run z).1.setpoint = z.setpoint ∧ (x.run z).1.doorHold = z.doorHold := by
  unfold Evaluation.run
  dsimp only
  rw [ZoneRecord.estimateStep_eq]
  exact ⟨rfl, rfl, rfl⟩

theorem State.evaluateZone_touches (s : State) (z : Zone) (r : Report) : Touches [.zones] s (s.evaluateZone z r) := by
  have ht : Touches [.zones] s (s.takeTables z) := s.setZone_keeps_choice z rfl rfl rfl
  obtain ⟨hp, hv, hd⟩ := ((s.takeTables z).evaluationOf z r).run_keeps_choice ((s.takeTables z).zones.get z)
  refine (ht.trans (State.setZone_keeps_choice _ z hp hv hd)).before ?_
  exact (State.raiseAll_quiet _ _).trans (State.demandEvaluated_quiet _ _ _ _ _)

theorem State.evaporatorReport_quiet (s : State) (r : Report) : Touches [] s (s.evaporatorReport r) := by
  unfold State.evaporatorReport
  split
  · exact Touches.ite _ s.endAfterRun_quiet (.refl _ s)
  · exact Touches.ite _ s.endFanDelay_quiet (.refl _ s)
  · exact .refl _ s

theorem State.takeReport_touches (s : State) (r : Report) : Touches [.zones, .acct] s (s.takeReport r) := by
  unfold State.takeReport
  split
  · exact (s.evaluateZone_touches _ r).mono (by simp)
  · exact ((State.stepReport_touches _ r).after (s.evaporatorReport_quiet r)).mono (by simp)

theorem State.sample_touches (s : State) (ch : Channel) (code : Nat) :
    Touches [.channels, .zones, .acct] s (s.sample ch code) := by
  unfold State.sample
  refine Touches.trans ?_ ((State.takeReport_touches _ _).mono (by simp))
  exact ((Touches.channels s _).before (State.raiseAll_quiet _ _)).mono (by simp)

theorem State.setDemand_touches (s : State) (z : Zone) (d : Demand) : Touches [.zones] s (s.setDemand z d) := by
  refine Touches.before (s.setZone_keeps_choice z ?_ ?_ ?_) (State.demandChanged_quiet _ _ _ _ _) <;> rfl

theorem State.removeBoost_touches (s : State) (z : Zone) : Touches [.zones] s (s.removeBoost z) := by
  refine Touches.trans (Touches.before (s.setZone_keeps_choice z ?_ ?_ ?_) (.raise _ _)) (State.setDemand_touches _ z _) <;> rfl

theorem State.boost_touches (s : State) (z : Zone) (m : Nat) (p : Port) : Touches [.zones] s (s.boost z m p) := by
  refine Touches.trans (s.setZone_keeps_choice z ?_ ?_ ?_) (State.setDemand_touches _ z _) <;> rfl

/-! ## Doors -/

theorem DoorRecord.edge_isOpen (r : DoorRecord) (l : PinLevel) : (r.edge l).isOpen = r.isOpen := rfl

theorem State.doorTurn_touches (s : State) (d : Door) :
    Touches [.doors, .openings, .zones, .doorHolds] s (s.doorTurn d) := by
  have hz : ∀ (u : State) z, (u.viewDoors z).preset = (u.zones.get z).preset ∧ (u.viewDoors z).setpoint = (u.zones.get z).setpoint := by
    intro u z; unfold State.viewDoors ZoneRecord.doorOpens; dsimp only; split <;> exact ⟨rfl, rfl⟩
  have h : Touches [.doors, .openings, .zones, .doorHolds] s (s.setDoor d (s.doors.get d).turn).viewAllDoors := by
    intro x hx
    cases x
    case choices => intro z; cases z <;> exact hz _ _
    all_goals simp_all [OwnedRecord.stands, State.viewAllDoors]
  unfold State.doorTurn
  exact Touches.ite _ (h.before (State.endAfterRun_quiet _)) h

/-! ## The actuator block -/

theorem State.pathFault_touches (s : State) (p : Path) : Touches [.pathCounts] s (s.pathFault p) := by
  have h : ∀ a : Arbiter, Touches [.pathCounts] s { s with arb := a } := by
    intro a x hx
    cases x <;> simp_all [OwnedRecord.stands]
  unfold State.pathFault
  exact Touches.ite _ ((h _).before (State.giveUp_quiet _)) (h _)

theorem State.goodRunning_touches (s : State) (p : Path) : Touches [.pathCounts] s (s.goodRunning p) := by
  intro x hx
  cases x <;> simp_all [OwnedRecord.stands, State.goodRunning]

theorem State.setCondenserCap_touches (s : State) : Touches [.cap] s s.setCondenserCap := by
  unfold State.setCondenserCap
  exact Touches.ite _ (.refl _ s) ((Touches.cap s _).before (State.applyCaps_quiet _))

theorem State.clearCondenserCap_touches (s : State) : Touches [.cap] s s.clearCondenserCap := by
  unfold State.clearCondenserCap
  exact Touches.ite _ ((Touches.cap s _).before (State.capLifted_quiet _)) (.refl _ s)

theorem State.fanFaults_touches (s : State) (f : Fan) : Touches [.pathCounts, .cap] s (s.fanFaults f) := by
  cases f
  · exact ((State.pathFault_touches _ _).after (.raise s _)).mono (by simp)
  · exact ((State.pathFault_touches _ _).after (.raise s _)).mono (by simp)
  · refine Touches.mono (l := [.cap]) ?_ (by simp)
    exact (State.setCondenserCap_touches _).after ((Touches.act s rfl).trans (.raise _ _))

theorem State.fanGood_touches (s : State) (f : Fan) (x y : FanRecord) : Touches [.pathCounts, .cap] s (s.fanGood f x y) := by
  cases f
  · exact Touches.ite _ ((s.goodRunning_touches _).mono (by simp)) (.refl _ s)
  · exact Touches.ite _ ((s.goodRunning_touches _).mono (by simp)) (.refl _ s)
  · refine Touches.mono (l := [.cap]) (Touches.ite _ ?_ (.refl _ s)) (by simp)
    exact (State.clearCondenserCap_touches _).after (Touches.act s rfl)

theorem State.tach_touches (s : State) (f : Fan) (rpm : Nat) : Touches [.fans, .pathCounts, .cap] s (s.tach f rpm) := by
  have h := fun x => (Touches.fans s x).mono (m := [.fans, .pathCounts, .cap]) (by simp)
  unfold State.tach
  exact Touches.ite _ ((h _).trans ((State.fanFaults_touches _ f).mono (by simp)))
    ((h _).trans ((State.fanGood_touches _ f _ _).mono (by simp)))

theorem State.condenserRetry_quiet (s : State) : Touches [] s s.condenserRetry := by
  intro x _
  cases x
  case fans => intro f; cases f <;> simp [State.condenserRetry, PerFan.get]
  all_goals simp [OwnedRecord.stands, State.condenserRetry]

theorem State.limitHeater_quiet (s : State) : Touches [] s s.limitHeater := by
  refine Touches.trans (Touches.trans (Touches.act s ?_) (.raise _ _)) (State.heaterLimitToManager_quiet _)
  rfl

theorem State.restFlexHeater_quiet (s : State) : Touches [] s s.restFlexHeater := by
  refine Touches.trans (Touches.act s ?_) (.raise _ _)
  rfl

theorem State.setDamper_quiet (s : State) (d : Damper) (r : DamperRecord) : Touches [] s (s.setDamper d r) := .act s rfl

theorem State.endHold_quiet (s : State) : Touches [] s s.endHold := by
  have hf : ∀ (u : State) n, Touches [] u { u with free := n } := by
    intro u n x _; cases x <;> simp [OwnedRecord.stands]
  have ha : ∀ u : State, Touches [] u u.afterHold := by
    intro u
    exact Touches.ite _ (((hf u _).trans (State.startCheck_quiet _)).trans (State.dueTest_quiet _))
      (((hf u _).trans (State.dueTest_quiet _)).trans (State.startCheck_quiet _))
  refine Touches.trans (Touches.trans (Touches.act s rfl) ?_) (ha _)
  exact Touches.ite _ (State.stopOrder_quiet _) (.refl _ _)

theorem State.enterHold_quiet (s : State) : Touches [] s s.enterHold := by
  unfold State.enterHold
  refine Touches.trans ?_ (State.requestValve_quiet _ _)
  refine Touches.trans (Touches.trans (Touches.trans (Touches.act s ?_) (State.arbiterHoldEntry_quiet _))
    (State.cancelManager_quiet _)) (Touches.act _ ?_) <;> rfl

/-! ## The cycle controller and the drive link -/

theorem State.sendCommand_touches (s : State) : Touches [.link] s s.sendCommand := by
  intro x hx
  cases x <;> simp_all [OwnedRecord.stands, State.sendCommand]

theorem State.driveReply_touches (s : State) (r : DriveReply) : Touches [.link, .faults] s (s.driveReply r) := by
  have ht : Touches [.link, .faults] s
      (State.countReply { s with link := s.link.reply r } r (replyFault s s.link r)) :=
    ((Touches.link s _).mono (by simp)).trans ((Touches.flt _ _).mono (by simp))
  have hu : Touches [.link, .faults] s (match replyFault s s.link r with
      | some (c, n) => (State.countReply { s with link := s.link.reply r } r (replyFault s s.link r)).faultEvent c n
      | none => (State.countReply { s with link := s.link.reply r } r (replyFault s s.link r)).cycleReply r) := by
    split
    · exact ht.trans ((State.faultEvent_touches _ _ _).mono (by simp))
    · exact ht.before (State.cycleReply_quiet _ _)
  unfold State.driveReply
  exact Touches.ite _ (hu.before (State.startCheck_quiet _)) hu

theorem State.driveMissed_touches (s : State) : Touches [.link] s s.driveMissed := by
  have ht : Touches [.link] s (State.clearStall { s with link := s.link.missed }) :=
    (Touches.link s _).before (State.clearStall_quiet _)
  unfold State.driveMissed
  refine Touches.ite _ (Touches.ite _ ?_ ?_) ht
  · exact ht.before ((State.driveLoss_quiet _).trans (State.managerReact_quiet _))
  · exact ht.before (State.driveLoss_quiet _)

/-! ## The image store -/

theorem State.beginSettingsSave_quiet (s : State) (before : List (List Byte)) : Touches [] s (s.beginSettingsSave before) :=
  (s.beginSettingsSave_only before).quiet ⟨rfl, rfl⟩

theorem State.beginTablesSave_quiet (s : State) (before : List (List Byte)) : Touches [] s (s.beginTablesSave before) :=
  (s.beginTablesSave_only before).quiet ⟨rfl, rfl⟩

/-- The image store's record is replaced, its loads standing. -/
theorem Touches.store (s : State) {x : StoreRecord} (h : x.imageLoaded = s.store.imageLoaded ∧ x.settingsLoaded = s.store.settingsLoaded) :
    Touches [] s { s with store := x } := (StoreOnly.record s x).quiet h

theorem State.settingsSaveDue_quiet (s : State) : Touches [] s s.settingsSaveDue := by
  unfold State.settingsSaveDue
  exact Touches.ite _ (s.beginSettingsSave_quiet _) (.store s ⟨rfl, rfl⟩)

theorem State.nextSave_quiet (s : State) : Touches [] s s.nextSave := by
  refine s.nextSave_only.quiet ?_
  unfold State.nextSave
  dsimp only
  repeat' split
  all_goals exact ⟨rfl, rfl⟩

theorem StoreRecord.saved_loads (r : StoreRecord) (j : SaveJob) :
    (r.saved j).imageLoaded = r.imageLoaded ∧ (r.saved j).settingsLoaded = r.settingsLoaded := by
  unfold StoreRecord.saved; split <;> exact ⟨rfl, rfl⟩

theorem StoreRecord.failed_loads (r : StoreRecord) (k : SaveKind) :
    (r.failed k).imageLoaded = r.imageLoaded ∧ (r.failed k).settingsLoaded = r.settingsLoaded := by
  unfold StoreRecord.failed; split <;> exact ⟨rfl, rfl⟩

theorem State.finishSave_quiet (s : State) (j : SaveJob) : Touches [] s (s.finishSave j) :=
  (Touches.store s (s.store.saved_loads j)).trans (State.nextSave_quiet _)

theorem State.failSave_quiet (s : State) (j : SaveJob) : Touches [] s (s.failSave j) :=
  ((Touches.store s (s.store.failed_loads j.kind)).trans (.raise _ _)).trans (State.nextSave_quiet _)

theorem State.sends_quiet (s : State) (ops : List (List Byte)) : Touches [] s (s.sends ops) := .store s ⟨rfl, rfl⟩

theorem State.pageWritten_quiet (s : State) (j : SaveJob) (readBack : List Byte) : Touches [] s (s.pageWritten j readBack) := by
  unfold State.pageWritten
  split
  · exact s.finishSave_quiet j
  · dsimp only
    repeat' split
    · exact (s.sends_quiet _).trans (State.finishSave_quiet _ j)
    · exact (s.sends_quiet _).trans (.store _ ⟨rfl, rfl⟩)
    · exact (s.sends_quiet _).trans (State.failSave_quiet _ j)

theorem State.pageTimedOut_quiet (s : State) : Touches [] s s.pageTimedOut := by
  unfold State.pageTimedOut; split
  · exact (s.sends_quiet _).trans (State.failSave_quiet _ _)
  · exact .refl _ s

theorem State.retrySave_quiet (s : State) (k : SaveKind) : Touches [] s (s.retrySave k) := by
  unfold State.retrySave
  split
  · exact (Touches.store s ⟨rfl, rfl⟩).trans (State.settingsSaveDue_quiet _)
  · refine Touches.ite _ ?_ ?_
    · exact (Touches.store s ⟨rfl, rfl⟩).trans (State.beginTablesSave_quiet _ _)
    · exact .store s ⟨rfl, rfl⟩

theorem State.markHour_quiet (s : State) : Touches [] s s.markHour := by
  unfold State.markHour
  refine Touches.ite _ (.store s ⟨rfl, rfl⟩) ?_
  exact (Touches.store s ⟨rfl, rfl⟩).trans (State.settingsSaveDue_quiet _)

theorem State.loadImage_touches (s : State) (header body : List Byte) :
    Touches [.tables, .loads] s (s.loadImage header body) := by
  have h : ∀ (t : Tables) (x : StoreRecord), Touches [.tables, .loads] s { s with tables := t, store := x } := by
    intro t x r hr
    cases r <;> simp_all [OwnedRecord.stands]
  unfold State.loadImage
  split
  · exact h _ _
  · exact (h _ _).before (.raise _ _)

theorem Tables.settleZone_doorHold (t : Tables) (z : Zone) (c : Option (Nat × Int)) (r : ZoneRecord) :
    (t.settleZone z c r).doorHold = r.doorHold := by
  unfold Tables.settleZone
  dsimp only
  repeat' split
  all_goals rfl

theorem State.settleZones_touches (s : State) (c : Option (PerZone (Nat × Int))) :
    Touches [.zones, .choices] s (s.settleZones c) := by
  intro r hr
  cases r
  case doorHolds => intro z; cases z <;> exact Tables.settleZone_doorHold _ _ _ _
  all_goals simp_all [OwnedRecord.stands, State.settleZones]

theorem State.loadSettings_touches (s : State) (record : List Byte) :
    Touches [.zones, .choices, .panel, .acct, .loads] s (s.loadSettings record) := by
  have h : ∀ (u : State) (p : PerZone Bool) (a : Accounting) (x : StoreRecord),
      Touches [.panel, .acct, .loads] u { u with panel := p, acct := a, store := x } := by
    intro u p a x r hr
    cases r <;> simp_all [OwnedRecord.stands]
  have hz := fun c => (s.settleZones_touches c).mono (m := [.zones, .choices, .panel, .acct, .loads]) (by simp)
  unfold State.loadSettings
  split
  · exact (hz _).trans ((h _ _ _ _).mono (by simp))
  · exact ((hz _).trans ((h _ _ _ _).mono (by simp))).before (.raise _ _)

end Sys2Proof.Machine
end

section
/-!
SUPPORT. The requests, told record by record, and the list of what each command touches.
-/
namespace Sys2Proof.Machine

/-! ## Requests -/

theorem State.respond_touches (s : State) (p : Port) (x : Response) : Touches [.ports] s (s.respond p x) := by
  have h : ∀ a : Actuators, a.fans = s.act.fans → Touches [.ports] s { s with ports := s.ports.respond p x, act := a } :=
    fun a ha => (Touches.ports s _).before (Touches.act { s with ports := s.ports.respond p x } ha)
  unfold State.respond
  split
  · exact h _ rfl
  · exact h _ rfl

/-- What a request can come to (R154): no frame of this row, a refusal of steps 1 to 7, or the answer of the command rule. -/
theorem State.request_cases (s : State) (e : Ending) (mine : Frame → Bool) (rule : State → Port → Frame → Answer) :
    s.request e mine rule = s
      ∨ ∃ t, s.ports.taken s.clock e = some t ∧ mine t.frame = true
        ∧ ((∃ st, (s.afterTaking t).refusal t.port t.frame = some st
              ∧ s.request e mine rule = (s.afterTaking t).respond t.port { status := st, echo := t.frame.echo, data := [] })
          ∨ ((s.afterTaking t).refusal t.port t.frame = none
              ∧ ∃ x, s.request e mine rule = (rule (s.afterTaking t) t.port t.frame).state.respond t.port x)) := by
  unfold State.request
  split
  · exact .inl rfl
  · rename_i t ht
    split
    · rename_i hm
      refine .inr ⟨t, ht, hm, ?_⟩
      dsimp only
      split
      · rename_i st hst
        exact .inl ⟨st, hst, rfl⟩
      · rename_i hn
        exact .inr ⟨hn, _, rfl⟩
    · exact .inl rfl

theorem State.afterTaking_touches (s : State) (t : Taken) : Touches [.ports] s (s.afterTaking t) := Touches.ports s _

theorem State.request_touches {l : List OwnedRecord} (s : State) (e : Ending) (mine : Frame → Bool)
    {rule : State → Port → Frame → Answer} (h : ∀ u p f, Touches l u (rule u p f).state) :
    Touches (.ports :: l) s (s.request e mine rule) := by
  have hp : [OwnedRecord.ports] ⊆ .ports :: l := by simp
  obtain k | ⟨t, -, -, ⟨st, -, k⟩ | ⟨-, x, k⟩⟩ := s.request_cases e mine rule
  · rw [k]; exact .refl _ s
  · rw [k]; exact ((s.afterTaking_touches t).trans (State.respond_touches _ _ _)).mono hp
  · rw [k]
    exact (((s.afterTaking_touches t).mono hp).trans ((h _ _ _).mono (by simp))).trans ((State.respond_touches _ _ _).mono hp)

/-! ## The command rules -/

theorem ruleIdentify_quiet (s : State) (p : Port) (f : Frame) : Touches [] s (ruleIdentify s p f).state := .refl _ s

theorem ruleGetZone_quiet (s : State) (p : Port) (f : Frame) : Touches [] s (ruleGetZone s p f).state := by
  unfold ruleGetZone; split <;> exact .refl _ s

theorem ruleReadTable_quiet (s : State) (p : Port) (f : Frame) : Touches [] s (ruleReadTable s p f).state := by
  unfold ruleReadTable; split <;> exact .refl _ s

/-- A zone's setpoint is replaced, and no other of its settings. -/
theorem State.storeSetpoint_touches (s : State) (p : Port) (z : Zone) (v : Int) :
    Touches [.zones, .choices] s (s.storeSetpoint p z v) := by
  have h : Touches [.zones, .choices] s (s.setZone z { s.zones.get z with setpoint := v }) := s.setZone_touches z rfl
  unfold State.storeSetpoint
  exact Touches.ite _ h (h.before (State.settingsChanged_quiet _ p))

theorem ruleSetSetpoint_touches (s : State) (p : Port) (f : Frame) : Touches [.zones, .choices] s (ruleSetSetpoint s p f).state := by
  unfold ruleSetSetpoint; split
  · exact .refl _ s
  · exact s.storeSetpoint_touches _ _ _

theorem State.changeMode_touches (s : State) (p : Port) (z : Zone) (i : Nat) :
    Touches [.zones, .choices] s (s.changeMode p z i) := by
  refine Touches.before (s.setZone_touches z ?_) ((State.demandChanged_quiet _ _ _ _ _).trans (State.settingsChanged_quiet _ p))
  rfl

theorem ruleSetMode_touches (s : State) (p : Port) (f : Frame) : Touches [.zones, .choices] s (ruleSetMode s p f).state := by
  unfold ruleSetMode
  dsimp only
  repeat' split
  · exact .refl _ s
  · exact .refl _ s
  · exact .refl _ s
  · exact s.changeMode_touches _ _ _

theorem ruleStartBoost_touches (s : State) (p : Port) (f : Frame) : Touches [.zones] s (ruleStartBoost s p f).state := by
  unfold ruleStartBoost
  repeat' split
  · exact .refl _ s
  · exact .refl _ s
  · exact s.boost_touches _ _ _

theorem ruleCancelBoost_touches (s : State) (p : Port) (f : Frame) : Touches [.zones] s (ruleCancelBoost s p f).state := by
  unfold ruleCancelBoost
  repeat' split
  · exact .refl _ s
  · exact .refl _ s
  · exact s.removeBoost_touches _
  · exact .refl _ s

theorem ruleLimitPower_touches (s : State) (p : Port) (f : Frame) : Touches [.cap] s (ruleLimitPower s p f).state := by
  unfold ruleLimitPower
  dsimp only
  split
  · exact (Touches.cap s _).before (State.capLifted_quiet _)
  · exact (Touches.cap s _).before (State.applyCaps_quiet _)

theorem ruleDeferDefrost_quiet (s : State) (p : Port) (f : Frame) : Touches [] s (ruleDeferDefrost s p f).state := .mgr s _

theorem ruleRunProgram_quiet (s : State) (p : Port) (f : Frame) : Touches [] s (ruleRunProgram s p f).state := by
  unfold ruleRunProgram
  dsimp only
  repeat' split
  · exact .refl _ s
  · exact .refl _ s
  · exact (Touches.mgr s _).trans (State.beginWait_quiet _ _)

theorem ruleAbortProgram_quiet (s : State) (p : Port) (f : Frame) : Touches [] s (ruleAbortProgram s p f).state := by
  unfold ruleAbortProgram
  repeat' split
  · exact s.abort_quiet _
  all_goals exact .refl _ s

theorem ruleSetPanelMap_touches (s : State) (p : Port) (f : Frame) : Touches [.panel] s (ruleSetPanelMap s p f).state := by
  unfold ruleSetPanelMap
  dsimp only
  split
  · exact .refl _ s
  · exact (Touches.panel s _).before (State.settingsChanged_quiet _ p)

theorem State.restartZones_touches (s : State) : Touches [.zones] s s.restartZones := by
  intro r hr
  cases r <;> simp_all [OwnedRecord.stands, State.restartZones, ZoneRecord.restarted]

theorem State.restartArbiter_touches (s : State) : Touches [.pathCounts] s s.restartArbiter := by
  intro r hr
  cases r <;> simp_all [OwnedRecord.stands, State.restartArbiter]

theorem State.restartCycle_touches (s : State) : Touches [.faults, .cap] s s.restartCycle := by
  have h : ∀ (u : State) x y, Touches [.faults, .cap] u { u with flt := x, cap := y } := by
    intro u x y r hr
    cases r <;> simp_all [OwnedRecord.stands]
  have h0 : Touches [] s s.restartCycleState := Touches.ite _ s.enterOff_quiet s.stopOrder_quiet
  exact (h _ _ _).after h0

theorem State.coolingRestart_touches (s : State) :
    Touches [.zones, .pathCounts, .faults, .cap] s s.coolingRestart := by
  have hz : Touches [.zones, .pathCounts, .faults, .cap] s s.restartZones := s.restartZones_touches.mono (by simp)
  have ha := hz.trans ((State.restartArbiter_touches _).mono (by simp))
  have hc := (ha.before (State.cancelManager_quiet _)).trans ((State.restartCycle_touches _).mono (by simp))
  refine (hc.before (Touches.act _ ?_)).before (State.dueTest_quiet _)
  rfl

theorem ruleCoolingRestart_touches (s : State) (p : Port) (f : Frame) :
    Touches [.zones, .pathCounts, .faults, .cap] s (ruleCoolingRestart s p f).state := by
  unfold ruleCoolingRestart
  split
  · exact s.coolingRestart_touches
  · exact .refl _ s

theorem ruleWriteConversion_touches (s : State) (p : Port) (f : Frame) :
    Touches [.tables] s (ruleWriteConversion s p f).state := by
  unfold ruleWriteConversion
  dsimp only
  split
  · exact .refl _ s
  · exact s.setTables_touches _

theorem State.keepEntries_touches (s : State) (z : Zone) : Touches [.zones] s (s.keepEntries z) :=
  s.setZone_keeps_choice z rfl rfl rfl

theorem State.presetReaches_touches (s : State) (p : Port) (i : Nat) (q : Preset) (z : Zone) :
    Touches [.zones, .choices] s (s.presetReaches p i q z) := by
  unfold State.presetReaches
  exact Touches.ite _ (((s.keepEntries_touches z).mono (by simp)).trans (State.storeSetpoint_touches _ _ _ _)) (.refl _ s)

theorem State.writePreset_touches (s : State) (p : Port) (i : Nat) (q : Preset) :
    Touches [.tables, .zones, .choices] s (s.writePreset p i q) := by
  have h : ∀ (u : State) z, Touches [.tables, .zones, .choices] u (u.presetReaches p i q z) :=
    fun u z => (u.presetReaches_touches p i q z).mono (by simp)
  unfold State.writePreset
  exact ((((h s .fresh).trans (h _ .flex)).trans (h _ .freezer)).trans (h _ .ice)).trans
    ((State.setTables_touches _ _).mono (by simp))

theorem ruleWritePreset_touches (s : State) (p : Port) (f : Frame) :
    Touches [.tables, .zones, .choices] s (ruleWritePreset s p f).state := by
  unfold ruleWritePreset
  dsimp only
  repeat' split
  · exact .refl _ s
  · exact .refl _ s
  · exact s.writePreset_touches _ _ _

theorem State.ladderReaches_touches (s : State) (i : Nat) (z : Zone) : Touches [.zones] s (s.ladderReaches i z) := by
  unfold State.ladderReaches
  exact Touches.ite _ (s.keepEntries_touches z) (.refl _ s)

theorem State.writeLadder_touches (s : State) (i : Nat) (l : Ladder) : Touches [.tables, .zones] s (s.writeLadder i l) := by
  have h : ∀ (u : State) z, Touches [.tables, .zones] u (u.ladderReaches i z) :=
    fun u z => (u.ladderReaches_touches i z).mono (by simp)
  unfold State.writeLadder
  exact ((((h s .fresh).trans (h _ .flex)).trans (h _ .freezer)).trans (h _ .ice)).trans
    ((State.setTables_touches _ _).mono (by simp))

theorem ruleWriteLadder_touches (s : State) (p : Port) (f : Frame) :
    Touches [.tables, .zones] s (ruleWriteLadder s p f).state := by
  unfold ruleWriteLadder
  dsimp only
  repeat' split
  · exact .refl _ s
  · exact .refl _ s
  · exact s.writeLadder_touches _ _

theorem ruleWriteStep_touches (s : State) (p : Port) (f : Frame) : Touches [.tables] s (ruleWriteStep s p f).state := by
  unfold ruleWriteStep
  dsimp only
  repeat' split
  · exact .refl _ s
  · exact .refl _ s
  · exact .refl _ s
  · exact s.setTables_touches _

theorem ruleWriteProgram_touches (s : State) (p : Port) (f : Frame) : Touches [.tables] s (ruleWriteProgram s p f).state := by
  unfold ruleWriteProgram
  dsimp only
  repeat' split
  · exact .refl _ s
  · exact .refl _ s
  · exact .refl _ s
  · exact .refl _ s
  · exact .refl _ s
  · exact s.setTables_touches _

theorem ruleWriteGlobal_touches (s : State) (p : Port) (f : Frame) : Touches [.tables] s (ruleWriteGlobal s p f).state := by
  unfold ruleWriteGlobal
  repeat' split
  · exact s.setTables_touches _
  · exact .refl _ s
  · exact .refl _ s

theorem ruleSaveTables_quiet (s : State) (p : Port) (f : Frame) : Touches [] s (ruleSaveTables s p f).state := by
  unfold ruleSaveTables
  split
  · exact s.beginTablesSave_quiet _
  · exact .refl _ s

theorem ruleServiceHoldOn_quiet (s : State) (p : Port) (f : Frame) : Touches [] s (ruleServiceHoldOn s p f).state := by
  unfold ruleServiceHoldOn
  split
  · exact .refl _ s
  · exact s.enterHold_quiet

theorem ruleServiceHoldOff_quiet (s : State) (p : Port) (f : Frame) : Touches [] s (ruleServiceHoldOff s p f).state := by
  unfold ruleServiceHoldOff
  repeat' split
  · exact .refl _ s
  · exact s.endHold_quiet
  · exact .refl _ s

theorem State.forceSpeed_quiet (s : State) (v : Nat) : Touches [] s (s.forceSpeed v) := by
  unfold State.forceSpeed
  repeat' split
  · exact s.stopOrder_quiet
  · exact (s.enterStarting_quiet _ _).trans (State.enterRunPhase_quiet _ _)
  · exact (TurnOnly.records s s.arb _ s.flt).quiet rfl rfl
  · exact .refl _ s

theorem forceOutput_quiet (s : State) (g : Forced) (output v : Nat) : Touches [] s (forceOutput s g output v).state := by
  have h : ∀ x, Touches [] s (s.setForced x) := fun x => Touches.act s rfl
  unfold forceOutput
  split
  · unfold forceCompressor
    extract_lets w
    split
    · exact .refl _ s
    · exact (h _).trans (State.forceSpeed_quiet _ _)
  · exact (h _).trans (State.requestValve_quiet _ _)
  all_goals exact h _

theorem ruleForceOutput_quiet (s : State) (p : Port) (f : Frame) : Touches [] s (ruleForceOutput s p f).state := by
  unfold ruleForceOutput
  repeat' split
  · exact .refl _ s
  · exact .refl _ s
  · exact forceOutput_quiet s _ _ _

/-! ## Commands that happen under a condition -/

theorem execImageLoadComplete_next {header body : List Byte} {s t : State} (h : execImageLoadComplete header body s = .next t) :
    t = s ∨ (s.store.imageLoaded = false ∧ s.finish (s.loadImage header body) = .next t) := by
  unfold execImageLoadComplete at h
  split at h
  · cases h; exact .inl rfl
  · exact .inr ⟨Bool.eq_false_iff.mpr ‹_›, h⟩

theorem execSettingsLoadComplete_next {record : List Byte} {s t : State} (h : execSettingsLoadComplete record s = .next t) :
    t = s ∨ (s.store.imageLoaded = true ∧ s.store.settingsLoaded = false ∧ s.finish (s.loadSettings record) = .next t) := by
  unfold execSettingsLoadComplete at h
  split at h
  · rename_i hl; exact .inr ⟨hl.1, hl.2, h⟩
  · cases h; exact .inl rfl

theorem execSampleCompletion_next {ch : Channel} {code : BitVec 12} {s t : State}
    (h : execSampleCompletion ch code s = .next t) : t = s ∨ s.finish (s.sample ch code.toNat) = .next t := by
  unfold execSampleCompletion at h
  split at h
  · exact .inr h
  · cases h; exact .inl rfl

theorem execDoorEdge_next {d : Door} {l : PinLevel} {s t : State} (h : execDoorEdge d l s = .next t) :
    t = s ∨ s.finish (s.setDoor d ((s.doors.get d).edge l)) = .next t := by
  unfold execDoorEdge at h
  split at h
  · cases h; exact .inl rfl
  · exact .inr h

theorem execDriveStatus_next {l : List Byte} {s t : State} (h : execDriveStatus l s = .next t) :
    t = s ∨ ∃ r, s.finish (s.driveReply r) = .next t := by
  unfold execDriveStatus at h
  split at h
  · exact .inr ⟨_, h⟩
  · cases h; exact .inl rfl

theorem execTachReading_next {f : Fan} {rpm : Word16} {s t : State} (h : execTachReading f rpm s = .next t) :
    t = s ∨ s.finish (s.tach f rpm.toNat) = .next t := by
  unfold execTachReading at h
  split at h
  · exact .inr h
  · cases h; exact .inl rfl

theorem execPortSLengthReject_next {b : Byte} {s t : State} (h : execPortSLengthReject b s = .next t) :
    t = s ∨ s.finish s.rejectLength = .next t := by
  unfold execPortSLengthReject at h
  split at h
  · exact .inr h
  · cases h; exact .inl rfl

theorem execPortSByteReceived_next {b : Byte} {s t : State} (h : execPortSByteReceived b s = .next t) :
    t = s ∨ ∃ x, s.finish { s with ports := { s.ports with rxS := x, lastByteS := s.clock } } = .next t := by
  unfold execPortSByteReceived at h
  split at h
  · exact .inr ⟨_, h⟩
  · cases h; exact .inl rfl

theorem execPageWriteComplete_next {l : List Byte} {s t : State} (h : execPageWriteComplete l s = .next t) :
    t = s ∨ ∃ j, s.finish (s.pageWritten j l) = .next t := by
  unfold execPageWriteComplete at h
  split at h
  · exact .inr ⟨_, h⟩
  · cases h; exact .inl rfl

theorem execReady_touches {s t : State} (h : execReady s = .next t) : Touches [.ready] s t := by
  refine State.event_touches h fun _ => Touches.before (t := { s with ready := true }) ?_ (State.dueTest_quiet _)
  intro r hr
  cases r <;> simp_all [OwnedRecord.stands]

theorem execDoorLong_touches {d : Door} {s t : State} (h : execDoorLong d s = .next t) : Touches [.doors] s t := by
  refine State.event_touches h fun _ => Touches.before (s.setDoor_keeps_opening d ?_) (.raise _ _)
  rfl

theorem execDoorMinute_touches {d : Door} {s t : State} (h : execDoorMinute d s = .next t) : Touches [.doors, .acct] s t := by
  refine State.event_touches h fun _ => Touches.trans ((s.setDoor_keeps_opening d ?_).mono (by simp))
    ((State.credit_touches _ _).mono (by simp))
  rfl

theorem State.rejectLength_touches (s : State) : Touches [.ports] s s.rejectLength :=
  (Touches.ports s _).trans (State.respond_touches _ _ _)

/-! ## Every command -/

/-- The records a command can touch; of the two resets, which touch every record, nothing is said. -/
def touchedBy : Instr → List OwnedRecord
  | .imageLoadComplete _ _ => [.tables, .loads]
  | .settingsLoadComplete _ => [.zones, .choices, .panel, .acct, .loads]
  | .ready => [.ready]
  | .sampleCompletion _ _ => [.channels, .zones, .acct]
  | .doorEdge _ _ => [.doors]
  | .doorTransition _ => [.doors, .openings, .zones, .doorHolds]
  | .doorLong _ => [.doors]
  | .lapse _ => [.doors]
  | .doorMinute _ => [.doors, .acct]
  | .boostExpiry _ => [.zones]
  | .lowerRunMinute => [.acct]
  | .startWindowExpiry => [.faults]
  | .powerCapExpiry => [.cap]
  | .driveCommand => [.link]
  | .driveStatus _ => [.link, .faults]
  | .driveMiss => [.link]
  | .tachReading _ _ => [.fans, .pathCounts, .cap]
  | .stepDurationExpiry => [.acct]
  | .stepTimeoutExpiry => [.acct]
  | .portSGapTimeout => [.ports]
  | .portSLengthReject _ => [.ports]
  | .portSFrameSent => [.ports]
  | .portSByteReceived _ => [.ports]
  | .writeTransactionByte _ _ => [.ports]
  | .setSetpoint _ => [.ports, .zones, .choices]
  | .setMode _ => [.ports, .zones, .choices]
  | .startBoost _ => [.ports, .zones]
  | .cancelBoost _ => [.ports, .zones]
  | .limitPower _ => [.ports, .cap]
  | .setPanelMap _ => [.ports, .panel]
  | .coolingRestart _ => [.ports, .zones, .pathCounts, .faults, .cap]
  | .writeTableConversion _ => [.ports, .tables]
  | .writeTablePreset _ => [.ports, .tables, .zones, .choices]
  | .writeTableLadder _ => [.ports, .tables, .zones]
  | .writeTableStep _ => [.ports, .tables]
  | .writeTableProgram _ => [.ports, .tables]
  | .writeTableGlobal _ => [.ports, .tables]
  | .unknownCommand _ => [.ports]
  | .identify _ => [.ports]
  | .getZone _ => [.ports]
  | .getSystem _ => [.ports]
  | .readEvents _ => [.ports]
  | .ackEvents _ => [.ports]
  | .setEventMask _ => [.ports]
  | .deferDefrost _ => [.ports]
  | .runProgram _ => [.ports]
  | .abortProgram _ => [.ports]
  | .readTable _ => [.ports]
  | .saveTables _ => [.ports]
  | .serviceHoldOn _ => [.ports]
  | .serviceHoldOff _ => [.ports]
  | .forceOutput _ => [.ports]
  | _ => []

/-- Every request row is the request of its command rule, and its list is the ports and what that rule touches, which is no port. -/
theorem exec_request {c : Instr} (s : State) (hr : c.resets = false) (hc : c.row ≠ none) :
    ∃ e mine rule l, exec c s = s.finish (s.request e mine rule) ∧ (∀ u p f, Touches l u (rule u p f).state)
      ∧ touchedBy c = .ports :: l ∧ OwnedRecord.ports ∉ l := by
  cases c
  case fullRestart => cases hr
  case unknownCommand => exact ⟨_, _, _, _, rfl, fun u _ _ => .refl [] u, rfl, by simp⟩
  case identify => exact ⟨_, _, _, _, rfl, ruleIdentify_quiet, rfl, by simp⟩
  case getZone => exact ⟨_, _, _, _, rfl, ruleGetZone_quiet, rfl, by simp⟩
  case getSystem => exact ⟨_, _, _, _, rfl, fun u _ _ => .refl [] u, rfl, by simp⟩
  case readEvents => exact ⟨_, _, _, _, rfl, fun u _ _ => .refl [] u, rfl, by simp⟩
  case ackEvents => exact ⟨_, _, _, _, rfl, fun u _ _ => .events u _, rfl, by simp⟩
  case setEventMask => exact ⟨_, _, _, _, rfl, fun u _ _ => .events u _, rfl, by simp⟩
  case setSetpoint => exact ⟨_, _, _, _, rfl, ruleSetSetpoint_touches, rfl, by simp⟩
  case setMode => exact ⟨_, _, _, _, rfl, ruleSetMode_touches, rfl, by simp⟩
  case startBoost => exact ⟨_, _, _, _, rfl, ruleStartBoost_touches, rfl, by simp⟩
  case cancelBoost => exact ⟨_, _, _, _, rfl, ruleCancelBoost_touches, rfl, by simp⟩
  case limitPower => exact ⟨_, _, _, _, rfl, ruleLimitPower_touches, rfl, by simp⟩
  case deferDefrost => exact ⟨_, _, _, _, rfl, ruleDeferDefrost_quiet, rfl, by simp⟩
  case runProgram => exact ⟨_, _, _, _, rfl, ruleRunProgram_quiet, rfl, by simp⟩
  case abortProgram => exact ⟨_, _, _, _, rfl, ruleAbortProgram_quiet, rfl, by simp⟩
  case setPanelMap => exact ⟨_, _, _, _, rfl, ruleSetPanelMap_touches, rfl, by simp⟩
  case coolingRestart => exact ⟨_, _, _, _, rfl, ruleCoolingRestart_touches, rfl, by simp⟩
  case readTable => exact ⟨_, _, _, _, rfl, ruleReadTable_quiet, rfl, by simp⟩
  case writeTableConversion => exact ⟨_, _, _, _, rfl, ruleWriteConversion_touches, rfl, by simp⟩
  case writeTablePreset => exact ⟨_, _, _, _, rfl, ruleWritePreset_touches, rfl, by simp⟩
  case writeTableLadder => exact ⟨_, _, _, _, rfl, ruleWriteLadder_touches, rfl, by simp⟩
  case writeTableStep => exact ⟨_, _, _, _, rfl, ruleWriteStep_touches, rfl, by simp⟩
  case writeTableProgram => exact ⟨_, _, _, _, rfl, ruleWriteProgram_touches, rfl, by simp⟩
  case writeTableGlobal => exact ⟨_, _, _, _, rfl, ruleWriteGlobal_touches, rfl, by simp⟩
  case saveTables => exact ⟨_, _, _, _, rfl, ruleSaveTables_quiet, rfl, by simp⟩
  case serviceHoldOn => exact ⟨_, _, _, _, rfl, ruleServiceHoldOn_quiet, rfl, by simp⟩
  case serviceHoldOff => exact ⟨_, _, _, _, rfl, ruleServiceHoldOff_quiet, rfl, by simp⟩
  case forceOutput => exact ⟨_, _, _, _, rfl, ruleForceOutput_quiet, rfl, by simp⟩
  all_goals exact absurd rfl hc

/-- A request touches the ports and what its command rule touches. -/
theorem exec_request_touches {c : Instr} {s t : State} (h : exec c s = .next t) (hr : c.resets = false) (hc : c.row ≠ none) :
    Touches (touchedBy c) s t := by
  obtain ⟨e, mine, rule, l, he, hl, ht, -⟩ := exec_request s hr hc
  rw [he] at h
  rw [ht]
  exact State.finish_touches h (s.request_touches e mine hl)

/-- A command other than a reset touches no record but those of its list. -/
theorem exec_touches {c : Instr} {s t : State} (h : exec c s = .next t) (hr : c.resets = false) : Touches (touchedBy c) s t := by
  by_cases hc : c.row = none
  case neg => exact exec_request_touches h hr hc
  cases c
  case deviceReset => cases hr
  case fullRestart => cases hr
  case imageLoadComplete =>
    obtain rfl | ⟨-, h⟩ := execImageLoadComplete_next h
    · exact .refl _ _
    · exact State.finish_touches h (s.loadImage_touches _ _)
  case settingsLoadComplete =>
    obtain rfl | ⟨-, -, h⟩ := execSettingsLoadComplete_next h
    · exact .refl _ _
    · exact State.finish_touches h (s.loadSettings_touches _)
  case ready => exact execReady_touches h
  case sampleCompletion =>
    obtain rfl | h := execSampleCompletion_next h
    · exact .refl _ _
    · exact State.finish_touches h (s.sample_touches _ _)
  case doorEdge =>
    obtain rfl | h := execDoorEdge_next h
    · exact .refl _ _
    · exact State.finish_touches h (s.setDoor_keeps_opening _ rfl)
  case doorTransition => exact State.event_touches (show execDoorTransition _ s = _ from h) fun _ => s.doorTurn_touches _
  case doorLong => exact execDoorLong_touches h
  case lapse => exact State.event_touches (show execLapse _ s = _ from h) fun _ => s.setDoor_keeps_opening _ rfl
  case doorMinute => exact execDoorMinute_touches h
  case boostExpiry => exact State.event_touches (show execBoostExpiry _ s = _ from h) fun _ => s.removeBoost_touches _
  case defrostWindowClose => exact State.event_touches (show execDefrostWindowClose s = _ from h) fun _ => .window s _
  case faultTimerExpiry => exact State.event_touches (show execFaultTimerExpiry _ s = _ from h) fun _ => s.faultTimerOut_quiet _
  case turnMaximum => exact State.event_touches (show execTurnMaximum s = _ from h) fun _ => s.turnReport_quiet
  case onTimerMinimum => exact State.event_touches (show execOnTimerMinimum s = _ from h) fun _ => s.onTimeReport_quiet
  case lowerRunMinute =>
    exact State.event_touches (show execLowerRunMinute s = _ from h) fun _ =>
      Touches.after (State.credit_touches _ _) ((TurnOnly.records s s.arb _ s.flt).quiet rfl rfl)
  case valveMoveComplete => exact State.event_touches (show execValveMoveComplete s = _ from h) fun _ => s.valveArrives_quiet
  case startWindowExpiry => exact State.event_touches (show execStartWindowExpiry s = _ from h) fun _ => s.faultEvent_touches _ _
  case startHoldEnd => exact State.event_touches (show execStartHoldEnd s = _ from h) fun _ => s.updateSpeed_quiet
  case speedUpdate => exact State.event_touches (show execSpeedUpdate s = _ from h) fun _ => s.updateSpeed_quiet
  case transferTimerExpiry => exact State.event_touches (show execTransferTimerExpiry s = _ from h) fun _ => s.completeTransfer_quiet
  case stopTimerExpiry => exact State.event_touches (show execStopTimerExpiry s = _ from h) fun _ => s.stopped_quiet
  case minimumOffTimeOver => exact State.event_touches (show execMinimumOffTimeOver s = _ from h) fun _ => s.startCheck_quiet
  case faultWaitEnd => exact State.event_touches (show execFaultWaitEnd s = _ from h) fun _ => s.startCheck_quiet
  case powerCapExpiry =>
    exact State.event_touches (show execPowerCapExpiry s = _ from h) fun _ => (Touches.cap s _).before (State.capLifted_quiet _)
  case driveCommand => exact State.event_touches (show execDriveCommand s = _ from h) fun _ => s.sendCommand_touches
  case driveStatus =>
    obtain rfl | ⟨r, h⟩ := execDriveStatus_next h
    · exact .refl _ _
    · exact State.finish_touches h (s.driveReply_touches r)
  case driveMiss => exact State.event_touches (show execDriveMiss s = _ from h) fun _ => s.driveMissed_touches
  case tachReading =>
    obtain rfl | h := execTachReading_next h
    · exact .refl _ _
    · exact State.finish_touches h (s.tach_touches _ _)
  case condenserRetryExpiry => exact State.event_touches (show execCondenserRetryExpiry s = _ from h) fun _ => s.condenserRetry_quiet
  case condenserRunOnExpiry => exact State.event_touches (show execCondenserRunOnExpiry s = _ from h) fun _ => .act s rfl
  case afterRunExpiry => exact State.event_touches (show execAfterRunExpiry s = _ from h) fun _ => s.endAfterRun_quiet
  case fanDelayExpiry => exact State.event_touches (show execFanDelayExpiry s = _ from h) fun _ => s.endFanDelay_quiet
  case damperMoveComplete => exact State.event_touches (show execDamperMoveComplete _ s = _ from h) fun _ => s.setDamper_quiet _ _
  case damperHomingComplete => exact State.event_touches (show execDamperHomingComplete _ s = _ from h) fun _ => s.setDamper_quiet _ _
  case heaterLimit =>
    exact State.event_touches (show execHeaterLimit s = _ from h) fun _ => s.limitHeater_quiet
  case flexHeaterLimit => exact State.event_touches (show execFlexHeaterLimit s = _ from h) fun _ => s.restFlexHeater_quiet
  case flexHeaterRestEnd => exact State.event_touches (show execFlexHeaterRestEnd s = _ from h) fun _ => .act s rfl
  case holdTimeout => exact State.event_touches (show execHoldTimeout s = _ from h) fun _ => s.endHold_quiet.trans (.raise _ _)
  case defrostAgeLimit => exact State.event_touches (show execDefrostAgeLimit s = _ from h) fun _ => s.dueTest_quiet
  case deferralEnd => exact State.event_touches (show execDeferralEnd s = _ from h) fun _ => s.beginWait_quiet _
  case pathWaitExpiry => exact State.event_touches (show execPathWaitExpiry s = _ from h) fun _ => s.pathWaitOver_quiet
  case stepDurationExpiry => exact State.event_touches (show execStepDurationExpiry s = _ from h) fun _ => s.stepEnds_touches _
  case stepTimeoutExpiry => exact State.event_touches (show execStepTimeoutExpiry s = _ from h) fun _ => s.stepEnds_touches _
  case holdoffEnd => exact State.event_touches (show execHoldoffEnd s = _ from h) fun _ => s.endHoldoff_quiet
  case portSGapTimeout => exact State.event_touches (show execPortSGapTimeout s = _ from h) fun _ => .ports s _
  case portSLengthReject =>
    obtain rfl | h := execPortSLengthReject_next h
    · exact .refl _ _
    · exact State.finish_touches h (s.rejectLength_touches)
  case portSFrameSent => exact State.finish_touches h (.ports s _)
  case quietTimerExpiry =>
    exact State.event_touches (show execQuietTimerExpiry s = _ from h) fun _ => (Touches.store s ⟨rfl, rfl⟩).trans (State.settingsSaveDue_quiet _)
  case hourlyMark => exact State.event_touches (show execHourlyMark s = _ from h) fun _ => s.markHour_quiet
  case pageWriteComplete =>
    obtain rfl | ⟨j, h⟩ := execPageWriteComplete_next h
    · exact .refl _ _
    · exact State.finish_touches h (s.pageWritten_quiet j _)
  case pageBusyTimeout => exact State.event_touches (show execPageBusyTimeout s = _ from h) fun _ => s.pageTimedOut_quiet
  case saveRetryExpiry => exact State.event_touches (show execSaveRetryExpiry _ s = _ from h) fun _ => s.retrySave_quiet _
  case portSByteReceived =>
    obtain rfl | ⟨x, h⟩ := execPortSByteReceived_next h
    · exact .refl _ _
    · exact State.finish_touches h (.ports s _)
  case writeTransactionByte => exact State.finish_touches h (.ports s _)
  all_goals cases hc

/-- A record outside a command's list stands after it. -/
theorem exec_stands {c : Instr} {s t : State} (h : exec c s = .next t) (hr : c.resets = false) (r : OwnedRecord)
    (hm : r ∉ touchedBy c) : r.stands s t := exec_touches h hr r hm

end Sys2Proof.Machine

namespace Sys2Proof

open Sys2Proof.Machine

theorem ports_untouched {c : Instr} (hrow : c.row = none)
    (h : ∀ p b, c ≠ .portSGapTimeout ∧ c ≠ .portSLengthReject b ∧ c ≠ .portSFrameSent ∧ c ≠ .portSByteReceived b
      ∧ c ≠ .writeTransactionByte p b) : OwnedRecord.ports ∉ touchedBy c := by
  cases c <;> simp_all [touchedBy, Instr.row]

/-- Settles O52: each record is on the lists of its own commands alone (`touchedBy`), and stands after every other one. -/
theorem eachCommandTouchesItsOwn : Obligations.EachCommandTouchesItsOwn := by
  intro c s t h hr
  have hs := exec_stands h hr
  clear h
  refine ⟨hs .clock ?_, hs .pending ?_, ?_, ?_, ?_, ?_, ?_, ?_, ?_, ?_, ?_, ?_⟩
  · cases c <;> simp [touchedBy]
  · cases c <;> simp [touchedBy]
  · cases c
    case sampleCompletion => trivial
    all_goals exact hs .channels (by simp [touchedBy])
  · cases c
    case doorEdge | doorTransition | doorLong | lapse | doorMinute => trivial
    all_goals exact hs .doors (by simp [touchedBy])
  · cases c
    case imageLoadComplete | writeTableConversion | writeTablePreset | writeTableLadder | writeTableStep |
        writeTableProgram | writeTableGlobal => trivial
    all_goals exact hs .tables (by simp [touchedBy])
  · cases c
    case settingsLoadComplete | setPanelMap => trivial
    all_goals exact hs .panel (by simp [touchedBy])
  · cases c
    case driveCommand | driveStatus | driveMiss => trivial
    all_goals exact hs .link (by simp [touchedBy])
  · cases c
    case ready => trivial
    all_goals exact hs .ready (by simp [touchedBy])
  · cases c
    case powerCapExpiry | limitPower | coolingRestart | tachReading => trivial
    all_goals exact hs .cap (by simp [touchedBy])
  · cases c
    case portSGapTimeout | portSLengthReject | portSFrameSent | portSByteReceived | writeTransactionByte => trivial
    all_goals exact fun hrow => hs .ports (ports_untouched hrow (by simp))
  · cases c
    case settingsLoadComplete | doorMinute | lowerRunMinute | sampleCompletion | stepDurationExpiry | stepTimeoutExpiry => trivial
    all_goals exact hs .acct (by simp [touchedBy])
  · cases c
    case settingsLoadComplete | sampleCompletion | doorTransition | boostExpiry | setSetpoint | setMode | startBoost |
        cancelBoost | coolingRestart | writeTablePreset | writeTableLadder => trivial
    all_goals exact hs .zones (by simp [touchedBy])

end Sys2Proof
end

section
/-!
SUPPORT. The counts of the records: each lies in the range its rule gives, after every command and after 10 ms. Where a command touches
no record with a count, the count stands (`OwnedRecord.inRange_touches`); what is left is one lemma for each operation that counts.
-/
namespace Sys2Proof.Machine

/-- The part of the counts that a record holds lies in range (R2, R56, R82, R101, R103, R108, R126, R152). -/
def OwnedRecord.inRange (r : OwnedRecord) (s : State) : Prop :=
  match r with
  | .channels => ∀ c, (s.channels.get c).debounce ≤ 2
  | .pathCounts => ∀ p, (s.arb.paths.get p).count ≤ 3
  | .link => s.link.miss ≤ 4 ∧ s.link.good ≤ 2
  | .faults => s.flt.times.length ≤ 3 ∧ s.flt.stall ≤ 9
  | .fans => ∀ f, (s.act.fans.get f).spinUp ≤ 5 ∧ (s.act.fans.get f).low ≤ 10 ∧ (s.act.fans.get f).good ≤ 300
  | .ports => s.ports.txS.length ≤ 4
  | .acct => s.acct.InRange
  | _ => True

/-- The counts lie in range exactly where each record's part does; the accounting has its own invariant. -/
theorem State.countsInRange_iff (s : State) : s.CountsInRange ↔ ∀ r, r ≠ OwnedRecord.acct → r.inRange s := by
  constructor
  · rintro ⟨hd, hp, hm, hg, hl, ht, hu, hw, hr, hx⟩ r ha
    cases r <;> simp_all [OwnedRecord.inRange]
  · intro h
    have hl := h .link (by simp)
    have hf := h .faults (by simp)
    have hn := h .fans (by simp)
    exact ⟨h .channels (by simp), h .pathCounts (by simp), hl.1, hl.2, hf.1, hf.2, fun f => (hn f).1, fun f => (hn f).2.1,
      fun f => (hn f).2.2, h .ports (by simp)⟩

theorem OwnedRecord.inRange_stands {r : OwnedRecord} {s t : State} (h : r.stands s t) (hs : r.inRange s) : r.inRange t := by
  cases r
  case channels => simpa only [OwnedRecord.inRange, show t.channels = s.channels from h] using hs
  case link => simpa only [OwnedRecord.inRange, show t.link = s.link from h] using hs
  case ports => simpa only [OwnedRecord.inRange, show t.ports = s.ports from h] using hs
  case acct => simpa only [OwnedRecord.inRange, show t.acct = s.acct from h] using hs
  case pathCounts => exact fun p => (h p).le.trans (hs p)
  case faults => exact ⟨h.1 ▸ hs.1, h.2.trans hs.2⟩
  case fans => exact fun f => ⟨(h f).1.trans (hs f).1, (h f).2.1.trans (hs f).2.1, (h f).2.2.trans (hs f).2.2⟩
  all_goals trivial

theorem OwnedRecord.inRange_touches {r : OwnedRecord} {l : List OwnedRecord} {s t : State} (h : Touches l s t)
    (hs : r.inRange s) (hr : r ∉ l := by simp) : r.inRange t := OwnedRecord.inRange_stands (h r hr) hs

/-! ## The end of a command -/

theorem State.finish_quiet {s u t : State} (hf : s.finish u = .next t) : Touches [] u t := by
  rw [State.finish_eq] at hf
  cases hf
  exact (State.handOver_quiet s u).trans (State.settle_quiet _)

theorem OwnedRecord.inRange_finish {r : OwnedRecord} {s u t : State} (hf : s.finish u = .next t) (h : r.inRange u) :
    r.inRange t := inRange_touches (State.finish_quiet hf) h

theorem OwnedRecord.inRange_event {r : OwnedRecord} {s t : State} {i : Instr} {f : State → State}
    (he : s.event i f = .next t) (hs : r.inRange s) (h : r.inRange (f s)) : r.inRange t := by
  unfold State.event at he
  split at he
  · exact inRange_finish he h
  · cases he; exact hs

/-! ## Channels (R8 to R10) -/

/-- The debounce count never passes 2 (R2). -/
theorem sampleRecord_debounce (t : List Int) (code : Nat) {r : ChannelRecord} (h : r.debounce ≤ 2) :
    (sampleRecord t code r).debounce ≤ 2 := by
  unfold sampleRecord
  dsimp only
  split
  · split
    · simp; omega
    · simp
  · simp
  · simp
  · split
    · simp; omega
    · simp

/-- A channel that stays UNSEEDED keeps its temperature absent (R2, R9). -/
theorem sampleRecord_unseeded (t : List Int) (code : Nat) {r : ChannelRecord} (h : r.state = .unseeded → r.temperature = none) :
    (sampleRecord t code r).state = .unseeded → (sampleRecord t code r).temperature = none := by
  unfold sampleRecord
  dsimp only
  split
  · split
    · exact h
    · intro k; cases k
  · exact h
  · intro k; cases k
  · split
    · exact h
    · intro k; cases k

theorem State.sample_channels (s : State) (ch : Channel) (code : Nat) :
    (s.sample ch code).channels = s.channels.set ch (sampleRecord s.tables.conv code (s.channels.get ch)) := by
  refine ((State.takeReport_touches _ _) .channels (by simp)).trans ?_
  exact State.raiseAll_channels _ _

/-- What holds of every channel record, and of a record after a completion, holds of every channel after a sample. -/
theorem execSampleCompletion_channels (P : ChannelRecord → Prop) {ch : Channel} {code : BitVec 12} {s t : State}
    (h : execSampleCompletion ch code s = .next t) (hs : ∀ c, P (s.channels.get c))
    (hp : ∀ r, P r → P (sampleRecord s.tables.conv code.toNat r)) : ∀ c, P (t.channels.get c) := by
  obtain rfl | h := execSampleCompletion_next h
  · exact hs
  · rw [show t.channels = _ from State.finish_quiet h .channels (by simp), State.sample_channels]
    intro c
    by_cases hc : c = ch
    · subst hc; rw [PerChannel.get_set_same]; exact hp _ (hs c)
    · rw [PerChannel.get_set_other _ hc]; exact hs c

/-! ## Fans and paths (R57, R108) -/

theorem FanRecord.read_counts (r : FanRecord) (f : Fan) (rpm : Nat) (watch : Bool)
    (h : r.spinUp ≤ 5 ∧ r.low ≤ 10 ∧ r.good ≤ 300) :
    (r.read f rpm watch).spinUp ≤ 5 ∧ (r.read f rpm watch).low ≤ 10 ∧ (r.read f rpm watch).good ≤ 300 := by
  obtain ⟨h1, h2, h3⟩ := h
  unfold FanRecord.read
  dsimp only
  split
  · exact ⟨by simp; omega, h2, h3⟩
  · split
    · exact ⟨h1, h2, h3⟩
    · split
      · refine ⟨h1, ?_, by simp⟩
        dsimp only
        split <;> omega
      · refine ⟨h1, by simp, ?_⟩
        dsimp only
        split <;> omega

theorem PathRecord.faulted_count {r : PathRecord} (h : r.count ≤ 3) : r.faulted.count ≤ 3 := by
  unfold PathRecord.faulted
  split
  · simp
  · split
    · simp
    · simp; omega

theorem State.pathFault_inRange {s : State} (p : Path) (h : OwnedRecord.pathCounts.inRange s) :
    OwnedRecord.pathCounts.inRange (s.pathFault p) := by
  have h1 : OwnedRecord.pathCounts.inRange
      { s with arb := { s.arb with paths := s.arb.paths.set p (s.arb.paths.get p).faulted } } := by
    intro q
    by_cases hq : q = p
    · subst hq; simpa using PathRecord.faulted_count (h q)
    · simpa [hq] using h q
  unfold State.pathFault
  dsimp only
  split
  · exact OwnedRecord.inRange_touches (State.giveUp_quiet _) h1
  · exact h1

theorem State.goodRunning_inRange {s : State} (p : Path) (h : OwnedRecord.pathCounts.inRange s) :
    OwnedRecord.pathCounts.inRange (s.goodRunning p) := by
  intro q
  by_cases hq : q = p
  · subst hq; simp [State.goodRunning]
  · simpa [State.goodRunning, hq] using h q

theorem State.fanFaults_inRange {s : State} (f : Fan) (h : OwnedRecord.pathCounts.inRange s) :
    OwnedRecord.pathCounts.inRange (s.fanFaults f) := by
  cases f
  · exact State.pathFault_inRange .upper h
  · exact State.pathFault_inRange .lower h
  · have h0 : Touches [.cap] s s.condenserFaults :=
      (State.setCondenserCap_touches _).after ((Touches.act s rfl).trans (.raise _ _))
    exact OwnedRecord.inRange_touches h0 h

theorem State.fanGood_inRange {s : State} (f : Fan) (x y : FanRecord) (h : OwnedRecord.pathCounts.inRange s) :
    OwnedRecord.pathCounts.inRange (s.fanGood f x y) := by
  unfold State.fanGood
  split
  · split
    · exact s.goodRunning_inRange _ h
    · exact h
  · split
    · exact s.goodRunning_inRange _ h
    · exact h
  · split
    · have h0 : Touches [.cap] s s.condenserClears := (State.clearCondenserCap_touches _).after (Touches.act s rfl)
      exact OwnedRecord.inRange_touches h0 h
    · exact h

theorem State.tach_pathCounts {s : State} (f : Fan) (rpm : Nat) (h : OwnedRecord.pathCounts.inRange s) :
    OwnedRecord.pathCounts.inRange (s.tach f rpm) := by
  unfold State.tach
  dsimp only
  split
  · exact State.fanFaults_inRange f (OwnedRecord.inRange_touches (Touches.fans s _) h)
  · exact State.fanGood_inRange f _ _ (OwnedRecord.inRange_touches (Touches.fans s _) h)

theorem State.tach_fans {s : State} (f : Fan) (rpm : Nat) (h : OwnedRecord.fans.inRange s) :
    OwnedRecord.fans.inRange (s.tach f rpm) := by
  have h1 : OwnedRecord.fans.inRange { s with
      act := { s.act with fans := s.act.fans.set f ((s.act.fans.get f).read f rpm (s.supervised f)) } } := by
    intro g
    by_cases hg : g = f
    · subst hg; simpa using FanRecord.read_counts _ _ rpm (s.supervised g) (h g)
    · simpa [hg] using h g
  unfold State.tach
  dsimp only
  split
  · exact OwnedRecord.inRange_touches (State.fanFaults_touches _ f) h1
  · exact OwnedRecord.inRange_touches (State.fanGood_touches _ f _ _) h1

/-! ## The drive link and drive faults (R98 to R103) -/

theorem LinkRecord.reply_counts {l : LinkRecord} (r : DriveReply) (h : l.miss ≤ 4 ∧ l.good ≤ 2) :
    (l.reply r).miss ≤ 4 ∧ (l.reply r).good ≤ 2 := by
  obtain ⟨hm, hg⟩ := h
  unfold LinkRecord.reply
  dsimp only
  split
  · exact ⟨by simp, hg⟩
  · split
    · simp
    · exact ⟨by simp, by simp; omega⟩
  · split
    · exact ⟨hm, by simp⟩
    · exact ⟨hm, by simp; omega⟩

theorem LinkRecord.missed_counts {l : LinkRecord} (h : l.miss ≤ 4 ∧ l.good ≤ 2) : l.missed.miss ≤ 4 ∧ l.missed.good ≤ 2 := by
  obtain ⟨hm, hg⟩ := h
  unfold LinkRecord.missed
  dsimp only
  split
  · split
    · exact ⟨by simp, hg⟩
    · exact ⟨by simp; omega, hg⟩
  · split
    · simp
    · exact ⟨by simp; omega, by simp⟩
  · exact ⟨hm, by simp⟩

/-- The fault list holds at most three times (R103). -/
theorem DriveFaultRecord.enter_counts {r : DriveFaultRecord} (t : Nat) (h : r.times.length ≤ 3) :
    (r.enter t).times.length ≤ 3 ∧ (r.enter t).stall = r.stall := by
  unfold DriveFaultRecord.enter
  split
  · exact ⟨h, rfl⟩
  · split
    · exact ⟨by simp; omega, rfl⟩
    · split
      · exact ⟨h, rfl⟩
      · exact ⟨by simp; omega, rfl⟩

theorem State.driveFault_inRange {s : State} (c : DriveFaultCause) (n : Nat) (h : OwnedRecord.faults.inRange s) :
    OwnedRecord.faults.inRange (s.driveFault c n) := by
  have h0 : OwnedRecord.faults.inRange (s.compressorLost.raise .driveFault) :=
    OwnedRecord.inRange_touches (s.compressorLost_quiet.trans (.raise _ _)) h
  obtain ⟨ht, hs⟩ := DriveFaultRecord.enter_counts s.now h0.1
  unfold State.driveFault
  dsimp only
  split
  · exact ⟨ht, hs.le.trans h0.2⟩
  · exact ⟨ht, hs.le.trans h0.2⟩

theorem State.faultEvent_inRange {s : State} (c : DriveFaultCause) (n : Nat) (h : OwnedRecord.faults.inRange s) :
    OwnedRecord.faults.inRange (s.faultEvent c n) := by
  unfold State.faultEvent
  dsimp only
  split
  · exact OwnedRecord.inRange_touches (State.managerReact_quiet _) (s.driveFault_inRange c n h)
  · exact s.driveFault_inRange c n h

/-- The stall count never passes 9: the reply that would raise it further declares the stall (R101). -/
theorem State.countReply_inRange {s u : State} (l : LinkRecord) (r : DriveReply) (hf : u.flt = s.flt) (hc : u.cyc = s.cyc)
    (h : OwnedRecord.faults.inRange s) : OwnedRecord.faults.inRange (u.countReply r (replyFault s l r)) := by
  refine ⟨by simpa [State.countReply, hf] using h.1, ?_⟩
  have h2 : s.flt.stall ≤ 9 := h.2
  simp only [State.countReply, hf, hc]
  split
  · rename_i hr
    obtain ⟨hst, hrun, hnone⟩ := hr
    have hlt : ¬ 9 ≤ s.flt.stall := by
      intro h9
      simp [replyFault, hst, hrun, h9] at hnone
    omega
  · simp

theorem State.driveReply_link {s : State} (r : DriveReply) (h : OwnedRecord.link.inRange s) :
    OwnedRecord.link.inRange (s.driveReply r) := by
  have ht : OwnedRecord.link.inRange (State.countReply { s with link := s.link.reply r } r (replyFault s s.link r)) :=
    LinkRecord.reply_counts r h
  unfold State.driveReply
  dsimp only
  have hu : OwnedRecord.link.inRange (match replyFault s s.link r with
      | some (c, n) => (State.countReply { s with link := s.link.reply r } r (replyFault s s.link r)).faultEvent c n
      | none => (State.countReply { s with link := s.link.reply r } r (replyFault s s.link r)).cycleReply r) := by
    split
    · exact OwnedRecord.inRange_touches (State.faultEvent_touches _ _ _) ht
    · exact OwnedRecord.inRange_touches (State.cycleReply_quiet _ _) ht
  split
  · exact OwnedRecord.inRange_touches (State.startCheck_quiet _) hu
  · exact hu

theorem State.driveReply_faults {s : State} (r : DriveReply) (h : OwnedRecord.faults.inRange s) :
    OwnedRecord.faults.inRange (s.driveReply r) := by
  have ht : OwnedRecord.faults.inRange (State.countReply { s with link := s.link.reply r } r (replyFault s s.link r)) :=
    State.countReply_inRange _ r rfl rfl h
  unfold State.driveReply
  dsimp only
  have hu : OwnedRecord.faults.inRange (match replyFault s s.link r with
      | some (c, n) => (State.countReply { s with link := s.link.reply r } r (replyFault s s.link r)).faultEvent c n
      | none => (State.countReply { s with link := s.link.reply r } r (replyFault s s.link r)).cycleReply r) := by
    split
    · exact State.faultEvent_inRange _ _ ht
    · exact OwnedRecord.inRange_touches (State.cycleReply_quiet _ _) ht
  split
  · exact OwnedRecord.inRange_touches (State.startCheck_quiet _) hu
  · exact hu

theorem State.driveMissed_link {s : State} (h : OwnedRecord.link.inRange s) : OwnedRecord.link.inRange s.driveMissed := by
  have ht : OwnedRecord.link.inRange (State.clearStall { s with link := s.link.missed }) := LinkRecord.missed_counts h
  unfold State.driveMissed
  dsimp only
  repeat' split
  · exact OwnedRecord.inRange_touches ((State.driveLoss_quiet _).trans (State.managerReact_quiet _)) ht
  · exact OwnedRecord.inRange_touches (State.driveLoss_quiet _) ht
  · exact ht

/-! ## Cooling restart (R81, R107) -/

theorem State.coolingRestart_pathCounts (s : State) : OwnedRecord.pathCounts.inRange s.coolingRestart := by
  have h : OwnedRecord.pathCounts.inRange s.restartZones.restartArbiter := by
    intro p; cases p <;> exact Nat.zero_le _
  have hc := OwnedRecord.inRange_touches (State.restartCycle_touches _)
    (OwnedRecord.inRange_touches (State.cancelManager_quiet _) h)
  refine OwnedRecord.inRange_touches (State.dueTest_quiet _) (OwnedRecord.inRange_touches (Touches.act _ ?_) hc)
  rfl

theorem State.coolingRestart_faults {s : State} (h : OwnedRecord.faults.inRange s) :
    OwnedRecord.faults.inRange s.coolingRestart := by
  have h0 := OwnedRecord.inRange_touches (State.cancelManager_quiet _)
    (OwnedRecord.inRange_touches (State.restartArbiter_touches _) (OwnedRecord.inRange_touches s.restartZones_touches h))
  have hq : ∀ u : State, Touches [] u u.restartCycleState := fun u => Touches.ite _ u.enterOff_quiet u.stopOrder_quiet
  have hc : OwnedRecord.faults.inRange s.restartZones.restartArbiter.cancelManager.restartCycle :=
    ⟨Nat.zero_le _, (OwnedRecord.inRange_touches (hq _) h0).2⟩
  refine OwnedRecord.inRange_touches (State.dueTest_quiet _) (OwnedRecord.inRange_touches (Touches.act _ ?_) hc)
  rfl

/-! ## The transmit queue of Port S (R152) -/

theorem Ports.respond_frames {r : Ports} (p : Port) (x : Response) (h : r.txS.length ≤ 4) :
    (r.respond p x).txS.length ≤ 4 := by
  unfold Ports.respond Ports.transmit
  dsimp only
  split
  · split
    · simp; omega
    · exact h
  · exact h

theorem Ports.taken_frames {r : Ports} {clock : Nat} {e : Ending} {t : Taken} (h : r.taken clock e = some t) :
    t.ports.txS = r.txS := by
  unfold Ports.taken at h
  split at h
  · rename_i p
    split at h
    · cases h
    · cases h; cases p <;> rfl
  · split at h
    · split at h
      · cases h; rfl
      · cases h
    · cases h
    · cases h

/-- A request keeps the transmit queue at four frames, where its rule touches no port. -/
theorem State.request_frames {s : State} (e : Ending) (mine : Frame → Bool) {rule : State → Port → Frame → Answer}
    {l : List OwnedRecord} (hl : OwnedRecord.ports ∉ l) (hr : ∀ u p f, Touches l u (rule u p f).state)
    (h : OwnedRecord.ports.inRange s) : OwnedRecord.ports.inRange (s.request e mine rule) := by
  obtain k | ⟨t, ht, -, ⟨st, -, k⟩ | ⟨-, x, k⟩⟩ := s.request_cases e mine rule <;> rw [k]
  · exact h
  · exact Ports.respond_frames _ _ ((congrArg List.length (Ports.taken_frames ht)).le.trans h)
  · refine Ports.respond_frames _ _ ?_
    rw [show (rule (s.afterTaking t) t.port t.frame).state.ports = _ from hr _ _ _ .ports hl]
    exact (congrArg List.length (Ports.taken_frames ht)).le.trans h

/-! ## The accounting (R126, R127, R142) -/

theorem Accounting.credit_inRange {a : Accounting} (n : Nat) (h : a.InRange) :
    Accounting.InRange { a with accumulator := min 65535 (a.accumulator + n) } := by
  obtain ⟨-, h2, h3, h4⟩ := h
  exact ⟨Nat.min_le_left _ _, h2, h3, h4⟩

theorem adaptInterval_inRange {i : Nat} (m : Option Measurement) (h : 240 ≤ i ∧ i ≤ 1440) :
    240 ≤ adaptInterval i m ∧ adaptInterval i m ≤ 1440 := by
  unfold adaptInterval
  repeat' split
  all_goals omega

theorem State.credit_inRange {s : State} (n : Nat) (h : s.acct.InRange) : (s.credit n).acct.InRange := by
  refine OwnedRecord.inRange_touches (r := .acct) (State.dueTest_quiet _) ?_
  exact Accounting.credit_inRange n h

theorem State.complete_inRange {s : State} (g : Program) (h : s.acct.InRange) : (s.complete g).acct.InRange := by
  obtain ⟨-, hlo, hhi, -⟩ := id h
  have h1 : (match g.path with
      | .lower => (s.recordOutcome .completed).accountCompletion
      | .upper => s.recordOutcome .completed).acct.InRange := by
    split
    · exact ⟨Nat.zero_le _, (adaptInterval_inRange _ ⟨hlo, hhi⟩).1, (adaptInterval_inRange _ ⟨hlo, hhi⟩).2, Nat.zero_le _⟩
    · exact h
  unfold State.complete
  refine OwnedRecord.inRange_touches (r := .acct) (State.dueTest_quiet _) ?_
  exact OwnedRecord.inRange_touches (r := .acct) (((State.programEnded_quiet _ g).trans (.raise _ .defrostEnd)).trans (.mgr _ _)) h1

theorem State.endStep_inRange {s : State} (g : Program) (st : Step) (c : EndCause) (h : s.acct.InRange) :
    (s.endStep g st c).acct.InRange := by
  have hn : (s.noteStepEnd st c).acct.InRange := OwnedRecord.inRange_touches (r := .acct) (s.noteStepEnd_quiet st c) h
  unfold State.endStep
  dsimp only
  repeat' split
  · exact OwnedRecord.inRange_touches (r := .acct) (State.abort_quiet _ g) hn
  · exact State.complete_inRange g hn
  · exact OwnedRecord.inRange_touches (r := .acct) (State.exitEnded_quiet _ g) hn
  · exact hn

theorem State.stepReport_inRange {s : State} (r : Report) (h : s.acct.InRange) : (s.stepReport r).acct.InRange := by
  unfold State.stepReport
  split
  · split
    · exact s.endStep_inRange _ _ _ h
    · exact h
  · exact h

theorem State.stepEnds_inRange {s : State} (c : EndCause) (h : s.acct.InRange) : (s.stepEnds c).acct.InRange := by
  unfold State.stepEnds
  split
  · exact s.endStep_inRange _ _ _ h
  · exact h

theorem State.sample_inRange {s : State} (ch : Channel) (code : Nat) (h : s.acct.InRange) : (s.sample ch code).acct.InRange := by
  unfold State.sample State.takeReport
  dsimp only
  split
  · refine OwnedRecord.inRange_touches (r := .acct) (State.evaluateZone_touches _ _ _) ?_
    simpa [OwnedRecord.inRange] using h
  · refine State.stepReport_inRange _ (OwnedRecord.inRange_touches (r := .acct) (State.evaporatorReport_quiet _ _) ?_)
    simpa [OwnedRecord.inRange] using h

theorem clampNat_range {lo hi : Nat} (h : lo ≤ hi) (v : Nat) : lo ≤ clampNat lo hi v ∧ clampNat lo hi v ≤ hi := by
  unfold clampNat
  split
  · exact ⟨le_rfl, h⟩
  · split <;> omega

theorem byteAt_le (l : List Byte) (k : Nat) : byteAt l k ≤ 255 := Nat.le_of_lt_succ (l.getD k 0xFF).isLt

theorem word16At_le (l : List Byte) (k : Nat) : word16At l k ≤ 65535 := by
  have h1 := byteAt_le l k
  have h2 := byteAt_le l (k + 1)
  unfold word16At
  omega

theorem word32At_le (l : List Byte) (k : Nat) : word32At l k ≤ 4294967295 := by
  have h1 := word16At_le l k
  have h2 := word16At_le l (k + 2)
  unfold word32At
  omega

/-- What a settings record can hold fits the accounting's fields; the interval is clamped (R126, R169). -/
theorem Settings.read_inRange {l : List Byte} {x : Settings} (h : Settings.read l = some x) : x.accounting.loaded.InRange := by
  unfold Settings.read at h
  split at h
  · cases h
    refine ⟨word16At_le _ _, ?_, ?_, word32At_le _ _⟩
    · exact (clampNat_range (by omega) _).1
    · exact (clampNat_range (by omega) _).2
  · cases h

theorem State.loadSettings_inRange {s : State} (record : List Byte) (h : s.acct.InRange) :
    (s.loadSettings record).acct.InRange := by
  unfold State.loadSettings
  split
  · rename_i hx; exact Settings.read_inRange hx
  · exact h

end Sys2Proof.Machine
end

section
/-!
SUPPORT. The counts, the accounting, the unseeded channels and the door views after every step.
-/
namespace Sys2Proof.Machine

/-! ## The commands that touch a record with a count -/

theorem exec_channels_inRange {c : Instr} {s t : State} (h : exec c s = .next t) (hm : OwnedRecord.channels ∈ touchedBy c)
    (hs : OwnedRecord.channels.inRange s) : OwnedRecord.channels.inRange t := by
  cases c
  case sampleCompletion => exact execSampleCompletion_channels (·.debounce ≤ 2) h hs fun _ hd => sampleRecord_debounce _ _ hd
  all_goals simp [touchedBy] at hm

/-- A request keeps what its rule keeps, the ports apart. -/
theorem State.request_inRange {r : OwnedRecord} {s : State} (e : Ending) (mine : Frame → Bool)
    {rule : State → Port → Frame → Answer} (hr : r ≠ .ports) (hs : r.inRange s)
    (h : ∀ u p f, r.inRange u → r.inRange (rule u p f).state) : r.inRange (s.request e mine rule) := by
  have ht : ∀ t, r.inRange (s.afterTaking t) := fun t =>
    OwnedRecord.inRange_touches (s.afterTaking_touches t) hs (by simpa using hr)
  obtain k | ⟨t, -, -, ⟨st, -, k⟩ | ⟨-, x, k⟩⟩ := s.request_cases e mine rule <;> rw [k]
  · exact hs
  · exact OwnedRecord.inRange_touches (State.respond_touches _ _ _) (ht t) (by simpa using hr)
  · exact OwnedRecord.inRange_touches (State.respond_touches _ _ _) (h _ _ _ (ht t)) (by simpa using hr)

theorem exec_pathCounts_inRange {c : Instr} {s t : State} (h : exec c s = .next t)
    (hm : OwnedRecord.pathCounts ∈ touchedBy c) (hs : OwnedRecord.pathCounts.inRange s) : OwnedRecord.pathCounts.inRange t := by
  cases c
  case tachReading =>
    obtain rfl | h := execTachReading_next h
    · exact hs
    · exact OwnedRecord.inRange_finish h (State.tach_pathCounts _ _ hs)
  case coolingRestart e =>
    refine OwnedRecord.inRange_finish h (State.request_inRange e _ (by simp) hs fun u p f hu => ?_)
    unfold ruleCoolingRestart
    split
    · exact u.coolingRestart_pathCounts
    · exact hu
  all_goals simp [touchedBy] at hm

theorem exec_link_inRange {c : Instr} {s t : State} (h : exec c s = .next t) (hm : OwnedRecord.link ∈ touchedBy c)
    (hs : OwnedRecord.link.inRange s) : OwnedRecord.link.inRange t := by
  cases c
  case driveCommand => exact OwnedRecord.inRange_event (show execDriveCommand s = _ from h) hs hs
  case driveStatus =>
    obtain rfl | ⟨r, h⟩ := execDriveStatus_next h
    · exact hs
    · exact OwnedRecord.inRange_finish h (State.driveReply_link r hs)
  case driveMiss => exact OwnedRecord.inRange_event (show execDriveMiss s = _ from h) hs (State.driveMissed_link hs)
  all_goals simp [touchedBy] at hm

theorem exec_faults_inRange {c : Instr} {s t : State} (h : exec c s = .next t) (hm : OwnedRecord.faults ∈ touchedBy c)
    (hs : OwnedRecord.faults.inRange s) : OwnedRecord.faults.inRange t := by
  cases c
  case startWindowExpiry =>
    exact OwnedRecord.inRange_event (show execStartWindowExpiry s = _ from h) hs (State.faultEvent_inRange _ _ hs)
  case driveStatus =>
    obtain rfl | ⟨r, h⟩ := execDriveStatus_next h
    · exact hs
    · exact OwnedRecord.inRange_finish h (State.driveReply_faults r hs)
  case coolingRestart e =>
    refine OwnedRecord.inRange_finish h (State.request_inRange e _ (by simp) hs fun u p f hu => ?_)
    unfold ruleCoolingRestart
    split
    · exact State.coolingRestart_faults hu
    · exact hu
  all_goals simp [touchedBy] at hm

theorem exec_fans_inRange {c : Instr} {s t : State} (h : exec c s = .next t) (hm : OwnedRecord.fans ∈ touchedBy c)
    (hs : OwnedRecord.fans.inRange s) : OwnedRecord.fans.inRange t := by
  cases c
  case tachReading =>
    obtain rfl | h := execTachReading_next h
    · exact hs
    · exact OwnedRecord.inRange_finish h (State.tach_fans _ _ hs)
  all_goals simp [touchedBy] at hm

theorem exec_ports_inRange {c : Instr} {s t : State} (h : exec c s = .next t) (hr : c.resets = false)
    (hm : OwnedRecord.ports ∈ touchedBy c) (hs : OwnedRecord.ports.inRange s) : OwnedRecord.ports.inRange t := by
  by_cases hc : c.row = none
  case neg =>
    obtain ⟨e, mine, rule, l, he, hl, -, hp⟩ := exec_request s hr hc
    rw [he] at h
    exact OwnedRecord.inRange_finish h (State.request_frames e mine hp hl hs)
  cases c
  case portSGapTimeout => exact OwnedRecord.inRange_event (show execPortSGapTimeout s = _ from h) hs hs
  case portSLengthReject =>
    obtain rfl | h := execPortSLengthReject_next h
    · exact hs
    · exact OwnedRecord.inRange_finish h (Ports.respond_frames _ _ hs)
  case portSFrameSent =>
    refine OwnedRecord.inRange_finish h (?_ : (s.ports.txS.drop 1).length ≤ 4)
    rw [List.length_drop]
    exact (Nat.sub_le _ _).trans hs
  case portSByteReceived =>
    obtain rfl | ⟨x, h⟩ := execPortSByteReceived_next h
    · exact hs
    · exact OwnedRecord.inRange_finish h hs
  case writeTransactionByte p b =>
    refine OwnedRecord.inRange_finish h ?_
    cases p <;> exact hs
  all_goals contradiction

theorem exec_acct_inRange {c : Instr} {s t : State} (h : exec c s = .next t) (hm : OwnedRecord.acct ∈ touchedBy c)
    (hs : OwnedRecord.acct.inRange s) : OwnedRecord.acct.inRange t := by
  cases c
  case settingsLoadComplete =>
    obtain rfl | ⟨-, -, h⟩ := execSettingsLoadComplete_next h
    · exact hs
    · exact OwnedRecord.inRange_finish h (State.loadSettings_inRange _ hs)
  case sampleCompletion =>
    obtain rfl | h := execSampleCompletion_next h
    · exact hs
    · exact OwnedRecord.inRange_finish h (State.sample_inRange _ _ hs)
  case doorMinute => exact OwnedRecord.inRange_event (show execDoorMinute _ s = _ from h) hs (State.credit_inRange _ hs)
  case lowerRunMinute => exact OwnedRecord.inRange_event (show execLowerRunMinute s = _ from h) hs (State.credit_inRange _ hs)
  case stepDurationExpiry =>
    exact OwnedRecord.inRange_event (show execStepDurationExpiry s = _ from h) hs (State.stepEnds_inRange _ hs)
  case stepTimeoutExpiry =>
    exact OwnedRecord.inRange_event (show execStepTimeoutExpiry s = _ from h) hs (State.stepEnds_inRange _ hs)
  all_goals simp [touchedBy] at hm

/-- A command other than a reset keeps each record's counts in range, and the accounting in its domains. -/
theorem exec_inRange {c : Instr} {s t : State} {r : OwnedRecord} (h : exec c s = .next t) (hr : c.resets = false)
    (hs : r.inRange s) : r.inRange t := by
  by_cases hm : r ∈ touchedBy c
  case neg => exact OwnedRecord.inRange_stands (exec_stands h hr r hm) hs
  cases r
  case channels => exact exec_channels_inRange h hm hs
  case pathCounts => exact exec_pathCounts_inRange h hm hs
  case link => exact exec_link_inRange h hm hs
  case faults => exact exec_faults_inRange h hm hs
  case fans => exact exec_fans_inRange h hm hs
  case ports => exact exec_ports_inRange h hr hm hs
  case acct => exact exec_acct_inRange h hm hs
  all_goals trivial

/-! ## The resets -/

/-- A device reset reads the doors and starts the door hold timers of the zones whose door it finds open; every record with a count
is as after reset. -/
theorem State.deviceReset_quiet (s : State) (raw : DoorLevels) :
    Touches [.pending, .zones, .doorHolds, .doors, .openings] State.reset (s.deviceReset raw) := by
  refine Touches.before (t := State.viewAllDoors _) ?_ (State.settle_quiet _)
  intro r hr
  cases r
  case choices => intro z; cases z <;> (simp only [State.viewAllDoors, PerZone.get, State.viewDoors]; split <;> exact ⟨rfl, rfl⟩)
  all_goals simp_all [OwnedRecord.stands, State.viewAllDoors]

theorem OwnedRecord.inRange_reset (r : OwnedRecord) : r.inRange State.reset := by
  cases r
  case channels => intro c; cases c <;> decide
  case pathCounts => intro p; cases p <;> decide
  case fans => intro f; cases f <;> decide
  case acct => exact (by decide : (0 : Nat) ≤ 65535 ∧ 240 ≤ 480 ∧ 480 ≤ 1440 ∧ 0 ≤ 4294967295)
  case link => exact ⟨Nat.zero_le _, Nat.zero_le _⟩
  case faults => exact ⟨Nat.zero_le _, Nat.zero_le _⟩
  case ports => exact Nat.zero_le _
  all_goals trivial

theorem State.deviceReset_inRange (s : State) (raw : DoorLevels) (r : OwnedRecord) : r.inRange (s.deviceReset raw) := by
  have h := s.deviceReset_quiet raw
  cases r
  case channels | pathCounts | fans | acct | link | faults | ports => exact OwnedRecord.inRange_touches h (OwnedRecord.inRange_reset _)
  all_goals trivial

/-- A full restart is a device reset, a refusal, or no request of its row. -/
theorem execFullRestart_next {e : Ending} {s t : State} (h : execFullRestart e s = .next t) :
    t = (s.deviceReset s.rawLevels).settle ∨ t = s.settle
      ∨ ∃ x y, s.ports.taken s.clock e = some x ∧ t = ((s.afterTaking x).respond x.port y).settle := by
  unfold execFullRestart State.fullRestart at h
  split at h
  · cases h; exact .inr (.inl rfl)
  · split at h
    · split at h
      · cases h; exact .inr (.inr ⟨_, _, ‹_›, rfl⟩)
      · cases h; exact .inl rfl
    · cases h; exact .inr (.inl rfl)

theorem execFullRestart_inRange {e : Ending} {s t : State} {r : OwnedRecord} (h : execFullRestart e s = .next t)
    (hs : r.inRange s) : r.inRange t := by
  obtain rfl | rfl | ⟨x, y, hx, rfl⟩ := execFullRestart_next h <;> refine OwnedRecord.inRange_touches (State.settle_quiet _) ?_
  · exact s.deviceReset_inRange _ r
  · exact hs
  · by_cases hr : r = .ports
    · subst hr
      exact Ports.respond_frames _ _ ((congrArg List.length (Ports.taken_frames hx)).le.trans hs)
    · exact OwnedRecord.inRange_touches ((s.afterTaking_touches x).trans (State.respond_touches _ _ _)) hs (by simpa using hr)

/-! ## 10 ms -/

/-- The events that are due join the queue; what they read stands. -/
theorem State.queueDue_touches (s : State) : Touches [.pending] s s.queueDue := by
  intro r hr
  cases r <;> simp_all [OwnedRecord.stands, State.queueDue]

theorem State.tickFine_inRange {s : State} {r : OwnedRecord} (h : r.inRange s) : r.inRange s.tickFine := by
  cases r
  case channels | pathCounts | link | faults | fans | ports | acct => exact h
  all_goals trivial

theorem State.tickSecond_inRange {s : State} {r : OwnedRecord} (h : r.inRange s) : r.inRange s.tickSecond := by
  cases r
  case pathCounts =>
    intro p
    simpa [State.tickSecond, PathRecord.second] using h p
  case acct => exact ⟨h.1, h.2.1, h.2.2.1, Nat.min_le_left _ _⟩
  case channels | link | faults | fans | ports => exact h
  all_goals trivial

theorem State.tick_inRange {s : State} {r : OwnedRecord} (h : r.inRange s) : r.inRange s.tick := by
  have he : r.inRange s.elapse := by
    unfold State.elapse
    split
    · exact State.tickFine_inRange (State.tickSecond_inRange h)
    · exact State.tickFine_inRange h
  have hp : ∀ u : State, r.inRange u → r.inRange u.queueDue := by
    intro u hu
    cases r
    case channels | pathCounts | link | faults | fans | ports | acct => exact OwnedRecord.inRange_touches u.queueDue_touches hu
    all_goals trivial
  exact hp _ (OwnedRecord.inRange_touches (State.settle_quiet _) he)

/-! ## Every step -/

/-- A step takes the command at the front on the queue's rest, or lets 10 ms pass. -/
theorem step_cases {s t : State} (h : step s = .next t) :
    t = s.tick ∨ ∃ c rest, exec c { s with pending := rest } = .next t := by
  unfold step at h
  split at h
  · cases h; exact .inl rfl
  · exact .inr ⟨_, _, h⟩

/-- What 10 ms keep, both resets keep or establish, and every other command keeps, every step keeps; the queue is no part of it. -/
theorem step_induction {P : State → Prop} (hq : ∀ s l, P s → P { s with pending := l }) (htick : ∀ s, P s → P s.tick)
    (hreset : ∀ (s : State) raw, P s → P (s.deviceReset raw)) (hfull : ∀ e s t, execFullRestart e s = .next t → P s → P t)
    (hexec : ∀ c s t, exec c s = .next t → c.resets = false → P s → P t) {s t : State} (h : step s = .next t) (hs : P s) :
    P t := by
  obtain rfl | ⟨c, rest, h⟩ := step_cases h
  · exact htick s hs
  · cases hr : c.resets
    · exact hexec c _ _ h hr (hq s rest hs)
    · cases c
      case deviceReset => cases h; exact hreset _ _ (hq s rest hs)
      case fullRestart => exact hfull _ _ _ h (hq s rest hs)
      all_goals cases hr

theorem step_inRange (r : OwnedRecord) {s t : State} (h : step s = .next t) (hs : r.inRange s) : r.inRange t := by
  refine step_induction (P := r.inRange) ?_ (fun s => State.tick_inRange) (fun s raw _ => s.deviceReset_inRange raw r)
    (fun e s t => execFullRestart_inRange) (fun c s t => exec_inRange) h hs
  intro s l h
  cases r <;> exact h

theorem countsInRange_step {s t : State} (hs : s.CountsInRange) (h : step s = .next t) : t.CountsInRange :=
  t.countsInRange_iff.mpr fun r hr => step_inRange r h (s.countsInRange_iff.mp hs r hr)

/-! ## Unseeded channels -/

theorem State.UnseededEmpty.of_channels {s t : State} (h : t.channels = s.channels) (hs : s.UnseededEmpty) :
    t.UnseededEmpty := by
  unfold State.UnseededEmpty
  rw [h]
  exact hs

theorem exec_unseededEmpty {c : Instr} {s t : State} (h : exec c s = .next t) (hr : c.resets = false) (hs : s.UnseededEmpty) :
    t.UnseededEmpty := by
  by_cases hm : .channels ∈ touchedBy c
  case neg => exact hs.of_channels (exec_stands h hr .channels hm)
  cases c
  case sampleCompletion =>
    exact execSampleCompletion_channels (fun r => r.state = .unseeded → r.temperature = none) h hs
      fun _ hu => sampleRecord_unseeded _ _ hu
  all_goals simp [touchedBy] at hm

theorem State.reset_unseededEmpty : State.reset.UnseededEmpty := by intro c _; cases c <;> rfl

theorem State.deviceReset_unseededEmpty (s : State) (raw : DoorLevels) : (s.deviceReset raw).UnseededEmpty :=
  State.reset_unseededEmpty.of_channels (s.deviceReset_quiet raw .channels (by simp))

theorem State.tick_channels (s : State) : s.tick.channels = s.channels := by
  unfold State.tick State.elapse
  split <;> rfl

theorem unseededEmpty_step {s t : State} (hs : s.UnseededEmpty) (h : step s = .next t) : t.UnseededEmpty := by
  refine step_induction (P := State.UnseededEmpty) (fun s l hs => hs) (fun s hs => hs.of_channels s.tick_channels)
    (fun s raw _ => s.deviceReset_unseededEmpty raw) ?_ (fun c s t => exec_unseededEmpty) h hs
  intro e s t h hs
  obtain rfl | rfl | ⟨x, y, -, rfl⟩ := execFullRestart_next h
  · exact (s.deviceReset_unseededEmpty s.rawLevels).of_channels rfl
  · exact hs.of_channels rfl
  · exact hs.of_channels rfl

/-! ## Door views -/

theorem State.DoorViewsAgree.of_touches {l : List OwnedRecord} {s t : State} (h : Touches l s t) (hs : s.DoorViewsAgree)
    (hd : OwnedRecord.doorHolds ∉ l := by simp) (ho : OwnedRecord.openings ∉ l := by simp) : t.DoorViewsAgree := by
  intro z
  have hopen : (fun d => (t.doors.get d).isOpen) = fun d => (s.doors.get d).isOpen := funext (h .openings ho)
  rw [h .doorHolds hd z, hs z, hopen]

/-- A zone that takes the doors as they stand has a door hold timer exactly while one of its doors is open (R16). -/
theorem State.viewDoors_doorHold (s : State) (z : Zone) :
    (s.viewDoors z).doorHold.isSome = z.doors.any fun d => (s.doors.get d).isOpen := by
  unfold State.viewDoors
  dsimp only
  split
  · rename_i h; rw [h]; rfl
  · rename_i h; rw [Bool.eq_false_iff.mpr h]; rfl

theorem State.viewAllDoors_agree (s : State) : s.viewAllDoors.DoorViewsAgree := by
  intro z
  cases z <;> exact s.viewDoors_doorHold _

theorem exec_doorViewsAgree {c : Instr} {s t : State} (h : exec c s = .next t) (hr : c.resets = false) (hs : s.DoorViewsAgree) :
    t.DoorViewsAgree := by
  by_cases hm : .doorHolds ∈ touchedBy c ∨ .openings ∈ touchedBy c
  case neg =>
    obtain ⟨hd, ho⟩ := not_or.mp hm
    exact hs.of_touches (exec_touches h hr) hd ho
  cases c
  case doorTransition d =>
    have hf : ∀ u : State, u.DoorViewsAgree → u.endAfterRun.DoorViewsAgree := fun u hu => hu.of_touches u.endAfterRun_quiet
    have ht : (s.doorTurn d).DoorViewsAgree := by
      unfold State.doorTurn
      dsimp only
      split
      · exact hf _ (State.viewAllDoors_agree _)
      · exact State.viewAllDoors_agree _
    replace h : (if s.due (.doorTransition d) then s.finish (s.doorTurn d) else .next s) = .next t := h
    split at h
    · exact ht.of_touches (State.finish_quiet h)
    · cases h; exact hs
  all_goals simp [touchedBy] at hm

theorem State.deviceReset_doorViewsAgree (s : State) (raw : DoorLevels) : (s.deviceReset raw).DoorViewsAgree :=
  (State.viewAllDoors_agree _).of_touches (State.settle_quiet _)

theorem State.tickFine_doorViewsAgree {s : State} (h : s.DoorViewsAgree) : s.tickFine.DoorViewsAgree := by
  intro z
  simpa [State.tickFine, upOne, DoorRecord.tick, DoorRecord.isOpen] using h z

/-- A second moves the alarm timer of a zone, and nothing else of its record (R30). -/
theorem ZoneRecord.second_eq (z : ZoneRecord) (b : Bool) (n : Nat) :
    z.second b n = { z with alarmTimer := (z.second b n).alarmTimer } := by
  unfold ZoneRecord.second
  extract_lets counts
  split <;> rfl

theorem State.tickSecond_zone (s : State) (z : Zone) : ∃ n, s.tickSecond.zones.get z = { s.zones.get z with alarmTimer := n } := by
  cases z <;> exact ⟨_, ZoneRecord.second_eq _ _ _⟩

theorem State.tickSecond_doorViewsAgree {s : State} (h : s.DoorViewsAgree) : s.tickSecond.DoorViewsAgree := by
  intro z
  obtain ⟨n, hn⟩ := s.tickSecond_zone z
  rw [hn]
  exact h z

theorem State.tick_doorViewsAgree {s : State} (h : s.DoorViewsAgree) : s.tick.DoorViewsAgree := by
  have he : s.elapse.DoorViewsAgree := by
    unfold State.elapse
    split
    · exact State.tickFine_doorViewsAgree (State.tickSecond_doorViewsAgree h)
    · exact State.tickFine_doorViewsAgree h
  exact (he.of_touches (State.settle_quiet _)).of_touches (State.queueDue_touches _)

theorem doorViewsAgree_step {s t : State} (hs : s.DoorViewsAgree) (h : step s = .next t) : t.DoorViewsAgree := by
  refine step_induction (P := State.DoorViewsAgree) (fun s l hs => hs) (fun s => State.tick_doorViewsAgree)
    (fun s raw _ => s.deviceReset_doorViewsAgree raw) ?_ (fun c s t => exec_doorViewsAgree) h hs
  intro e s t h hs
  obtain rfl | rfl | ⟨x, y, -, rfl⟩ := execFullRestart_next h
  · exact (s.deviceReset_doorViewsAgree s.rawLevels).of_touches (State.settle_quiet _)
  · exact hs.of_touches (State.settle_quiet _)
  · exact (hs.of_touches ((s.afterTaking_touches x).trans (State.respond_touches _ _ _))).of_touches (State.settle_quiet _)

end Sys2Proof.Machine

namespace Sys2Proof

open Sys2Proof.Machine

/-- Settles O58: each count has its range where it is counted, and stands after every command that does not count it. -/
theorem recordsStayInRange : Obligations.RecordsStayInRange :=
  ⟨fun _ _ => countsInRange_step, fun _ _ hs h => step_inRange .acct h hs, fun _ _ => unseededEmpty_step,
    fun _ _ => doorViewsAgree_step⟩

end Sys2Proof
end

section
/-!
SUPPORT. The working tables and the setpoints after every step: what keeps the tables in their domains, what an accepted image and the
settings load give, and what each table write and each change of a setpoint leaves.
-/
namespace Sys2Proof.Machine

/-! ## Domains -/

theorem clampInt_range {lo hi : Int} (h : lo ≤ hi) (v : Int) : lo ≤ clampInt lo hi v ∧ clampInt lo hi v ≤ hi := by
  unfold clampInt
  split
  · exact ⟨le_rfl, h⟩
  · split <;> omega

theorem Preset.inDomain_range {p : Preset} (h : p.inDomain = true) :
    p.minSetpoint ≤ p.defaultSetpoint ∧ p.defaultSetpoint ≤ p.maxSetpoint := by
  simp only [Preset.inDomain, Bool.and_eq_true, decide_eq_true_eq] at h
  obtain ⟨⟨⟨⟨⟨⟨⟨⟨⟨⟨-, -⟩, hlo⟩, hhi⟩, -⟩, -⟩, -⟩, -⟩, -⟩, -⟩, -⟩ := h
  exact ⟨hlo, hhi⟩

/-- A conversion table is non-increasing where no point exceeds the one before it (R5). -/
theorem nonIncreasing_iff (l : List Int) : nonIncreasing l = true ↔ ∀ i (h : i + 1 < l.length), l[i + 1] ≤ l[i] := by
  induction l with
  | nil => simp [nonIncreasing]
  | cons a l ih =>
    cases l with
    | nil => simp [nonIncreasing]
    | cons b l =>
      rw [nonIncreasing, Bool.and_eq_true, decide_eq_true_eq, ih]
      constructor
      · rintro ⟨hb, hl⟩ i hi
        cases i with
        | zero => exact hb
        | succ i => exact hl i (by simpa using hi)
      · intro hl
        exact ⟨hl 0 (by simp), fun i hi => hl (i + 1) (by simpa using hi)⟩

theorem convPoint_eq {l : List Int} {k : Nat} (h : k < l.length) : convPoint l k = l[k] := by
  simp [convPoint, List.getD_eq_getElem?_getD, h]

/-- A point between its neighbours keeps the table non-increasing (R6). -/
theorem nonIncreasing_set {l : List Int} {i : Nat} {v : Int} (hl : l.length = 17) (hi : i < 17)
    (h : nonIncreasing l = true) (hv : pointFits l i v = true) : nonIncreasing (l.set i v) = true := by
  rw [nonIncreasing_iff] at h ⊢
  simp only [pointFits, Bool.and_eq_true, Bool.or_eq_true, decide_eq_true_eq] at hv
  obtain ⟨hlo, hhi⟩ := hv
  intro k hk
  rw [List.length_set] at hk
  rw [List.getElem_set, List.getElem_set]
  by_cases h1 : i = k + 1
  · subst h1
    rw [convPoint_eq (by omega)] at hlo
    simpa using hlo
  · by_cases h2 : i = k
    · subst h2
      rw [convPoint_eq (by omega)] at hhi
      simpa [show i ≠ 16 by omega] using hhi
    · simpa [h1, h2] using h k hk

/-! ## Good tables -/

theorem Tables.Good.preset {t : Tables} (h : t.Good) {i : Nat} (hi : i < 16) : t.preset i ∈ t.presets := by
  have hl : i < t.presets.length := h.presetCount ▸ hi
  simp [Tables.preset, List.getD_eq_getElem?_getD, hl]

theorem Tables.Good.preset_range {t : Tables} (h : t.Good) {i : Nat} (hi : i < 16) :
    (t.preset i).minSetpoint ≤ (t.preset i).defaultSetpoint ∧ (t.preset i).defaultSetpoint ≤ (t.preset i).maxSetpoint :=
  Preset.inDomain_range (h.presets _ (h.preset hi))

theorem Tables.Good.setConv {t : Tables} (h : t.Good) {i : Nat} {v : Int} (hi : i < 17) (hv : pointInDomain v = true)
    (hf : pointFits t.conv i v = true) : Tables.Good { t with conv := t.conv.set i v } := by
  obtain ⟨hall, hmono⟩ := (Bool.and_eq_true _ _).mp h.conv
  refine { h with points := by simp [h.points], conv := ?_ }
  refine (Bool.and_eq_true _ _).mpr ⟨?_, nonIncreasing_set h.points hi hmono hf⟩
  rw [List.all_eq_true] at hall ⊢
  intro x hx
  obtain hx | rfl := List.mem_or_eq_of_mem_set hx
  · exact hall x hx
  · exact hv

theorem Tables.Good.setPreset {t : Tables} (h : t.Good) (i : Nat) {q : Preset} (hq : q.inDomain = true) :
    Tables.Good { t with presets := t.presets.set i q } := by
  refine { h with presetCount := by simp [h.presetCount], presets := fun p hp => ?_ }
  obtain hp | rfl := List.mem_or_eq_of_mem_set hp
  · exact h.presets p hp
  · exact hq

theorem Tables.Good.setLadder {t : Tables} (h : t.Good) (i : Nat) {l : Ladder} (hl : l.inDomain = true) :
    Tables.Good { t with ladders := t.ladders.set i l } := by
  refine { h with ladderCount := by simp [h.ladderCount], ladders := fun p hp => ?_ }
  obtain hp | rfl := List.mem_or_eq_of_mem_set hp
  · exact h.ladders p hp
  · exact hl

theorem Tables.Good.setStep {t : Tables} (h : t.Good) (i : Nat) {st : Step} (hst : st.inDomain = true)
    (hc : Tables.chainsValid { t with steps := t.steps.set i st } = true) :
    Tables.Good { t with steps := t.steps.set i st } := by
  refine { h with stepCount := by simp [h.stepCount], steps := fun p hp => ?_, chains := hc }
  obtain hp | rfl := List.mem_or_eq_of_mem_set hp
  · exact h.steps p hp
  · exact hst

/-- A program write that leaves the auto-defrost program valid on LOWER (R137, 3). -/
theorem Tables.autoValid_setProgram {t : Tables} {i : Nat} {g : Program} (h : t.Good) (hg : t.losesAuto i g = false) :
    Tables.autoValid { t with programs := t.programs.set i g } = true := by
  have ha := h.auto
  simp only [Tables.autoValid, Bool.and_eq_true, decide_eq_true_eq] at ha ⊢
  obtain ⟨⟨h7, hv⟩, hp⟩ := ha
  have hlen : t.autoProgram < t.programs.length := by rw [h.programCount]; omega
  by_cases hi : i = t.autoProgram
  · subst hi
    simp only [Tables.losesAuto, decide_true, Bool.true_and, Bool.or_eq_false_iff, Bool.not_eq_false', decide_eq_false_iff_not] at hg
    have hpath : g.path = .lower := by
      cases hgp : g.path
      · exact absurd hgp hg.2
      · rfl
    simp [Tables.program, List.getD_eq_getElem?_getD, hlen, h7, hg.1, hpath]
  · have hsame : Tables.program { t with programs := t.programs.set i g } t.autoProgram = t.program t.autoProgram := by
      simp [Tables.program, List.getD_eq_getElem?_getD, hi]
    rw [hsame]
    exact ⟨⟨h7, hv⟩, hp⟩

theorem Tables.Good.setProgram {t : Tables} (h : t.Good) (i : Nat) {g : Program} (hd : g.inDomain = true)
    (ha : t.losesAuto i g = false) (hc : g.chainsValid t.steps = true) :
    Tables.Good { t with programs := t.programs.set i g } := by
  have hmem : ∀ x ∈ t.programs.set i g, x ∈ t.programs ∨ x = g := fun x hx => List.mem_or_eq_of_mem_set hx
  refine { h with programCount := by simp [h.programCount], programs := fun x hx => ?_, chains := ?_,
                  auto := Tables.autoValid_setProgram h ha }
  · obtain hx | rfl := hmem x hx
    · exact h.programs x hx
    · exact hd
  · have hold := h.chains
    simp only [Tables.chainsValid, List.all_eq_true] at hold ⊢
    intro x hx
    obtain hx | rfl := hmem x hx
    · exact hold x hx
    · exact hc

theorem Tables.Good.setGlobal {t u : Tables} (h : t.Good) {i v : Nat} (hw : t.writeGlobal i v = some u) :
    u.Good ∧ u.presets = t.presets := by
  unfold Tables.writeGlobal at hw
  split at hw
  · split at hw
    · cases hw; exact ⟨{ h with gain := ‹_› }, rfl⟩
    · cases hw
  · split at hw
    · cases hw; exact ⟨{ h with weight := ‹_› }, rfl⟩
    · cases hw
  · split at hw
    · cases hw; exact ⟨{ h with auto := ‹_› }, rfl⟩
    · cases hw
  · cases hw

/-! ## The image (R168) -/

theorem allSome_eq_some {α : Type} {l : List (Option α)} {xs : List α} (h : allSome l = some xs) : l = xs.map some := by
  induction l generalizing xs with
  | nil => cases h; rfl
  | cons o l ih =>
    unfold allSome at h
    split at h
    · cases h; rw [ih ‹_›]; rfl
    · cases h

/-- Entries read from an area are as many as were asked for, and each is one the reader gives. -/
theorem readEntries_some {α : Type} {read : List Byte → Option α} {l : List Byte} {k size n : Nat} {xs : List α}
    (h : readEntries read l k size n = some xs) : xs.length = n ∧ ∀ x ∈ xs, ∃ area, read area = some x := by
  have hm := allSome_eq_some h
  refine ⟨by simpa using (congrArg List.length hm).symm, fun x hx => ?_⟩
  have hx' : some x ∈ xs.map some := List.mem_map_of_mem hx
  rw [← hm, List.mem_map] at hx'
  obtain ⟨i, -, hi⟩ := hx'
  exact ⟨_, hi⟩

theorem Preset.read_inDomain {l : List Byte} {p : Preset} (h : Preset.read l = some p) : p.inDomain = true :=
  (Option.filter_eq_some_iff.mp h).2

theorem Ladder.read_inDomain {l : List Byte} {p : Ladder} (h : Ladder.read l = some p) : p.inDomain = true := by
  unfold Ladder.read at h
  split at h
  · exact (Option.filter_eq_some_iff.mp h).2
  · cases h

theorem Step.read_inDomain {l : List Byte} {p : Step} (h : Step.read l = some p) : p.inDomain = true :=
  (Option.filter_eq_some_iff.mp h).2

theorem Program.read_inDomain {l : List Byte} {p : Program} (h : Program.read l = some p) : p.inDomain = true :=
  (Option.filter_eq_some_iff.mp h).2

/-- An accepted image has good tables, with a preset for every zone (R7, R23, R138, R168). -/
theorem acceptImage_good {header body : List Byte} {v : Nat} {t : Tables} (h : acceptImage header body = some (v, t)) :
    t.Good ∧ t.zonesServed = true := by
  unfold acceptImage at h
  split at h
  · split at h
    · rename_i u hu
      cases h
      obtain ⟨hb, hv⟩ := Option.filter_eq_some_iff.mp hu
      simp only [Tables.valid, Bool.and_eq_true, decide_eq_true_eq] at hv
      obtain ⟨⟨⟨⟨⟨hconv, hserved⟩, hchains⟩, hauto⟩, hgain⟩, hweight⟩ := hv
      refine ⟨?_, hserved⟩
      unfold readBody at hb
      split at hb
      · rename_i ps ls ss gs hps hls hss hgs
        cases hb
        obtain ⟨hpn, hpd⟩ := readEntries_some hps
        obtain ⟨hln, hld⟩ := readEntries_some hls
        obtain ⟨hsn, hsd⟩ := readEntries_some hss
        obtain ⟨hgn, hgd⟩ := readEntries_some hgs
        exact ⟨by simp, hconv, hpn, fun p hp => (hpd p hp).elim fun _ => Preset.read_inDomain, hln,
          fun p hp => (hld p hp).elim fun _ => Ladder.read_inDomain, hsn,
          fun p hp => (hsd p hp).elim fun _ => Step.read_inDomain, hgn,
          fun p hp => (hgd p hp).elim fun _ => Program.read_inDomain, hchains, hauto, hgain, hweight⟩
      · cases hb
    · cases h
  · cases h

theorem builtInTables_good : builtInTables.Good := by
  refine ⟨?_, ?_, ?_, ?_, ?_, ?_, ?_, ?_, ?_, ?_, ?_, ?_, ?_, ?_⟩ <;> decide

theorem builtInTables_served : builtInTables.zonesServed = true := by decide

/-! ## The choice of a preset (R18, R45) -/

theorem Tables.defaultPreset_serves {t : Tables} (hn : t.presets.length = 16) (h : t.zonesServed = true) (z : Zone) :
    t.defaultPreset z < 16 ∧ (t.preset (t.defaultPreset z)).mask.get z = true := by
  have hany : ∃ p ∈ t.presets, p.mask.get z = true := by
    simp only [Tables.zonesServed, Bool.and_eq_true, List.any_eq_true] at h
    obtain ⟨⟨⟨h0, h1⟩, h2⟩, h3⟩ := h
    cases z
    · exact h0
    · exact h1
    · exact h2
    · exact h3
  obtain ⟨p, hp, hz⟩ := hany
  obtain ⟨k, hk, rfl⟩ := List.mem_iff_getElem.mp hp
  unfold Tables.defaultPreset
  split
  · rename_i hf; exact ⟨by cases z <;> decide, hf⟩
  · cases hfind : (List.range 16).find? (fun i => (t.preset i).mask.get z) with
    | none =>
      rw [List.find?_eq_none] at hfind
      refine absurd ?_ (hfind k (List.mem_range.mpr (hn ▸ hk)))
      simpa [Tables.preset, List.getD_eq_getElem?_getD, hk] using hz
    | some i => exact ⟨List.mem_range.mp (List.mem_of_find?_eq_some hfind), List.find?_some (p := fun i => (t.preset i).mask.get z) hfind⟩

/-- A zone at the end of the settings load has a preset that contains it, and a setpoint in its range (R45). -/
theorem Tables.settleZone_choice {t : Tables} (hg : t.Good) (h : t.zonesServed = true) (z : Zone) (stored : Option (Nat × Int))
    (r : ZoneRecord) :
    (t.settleZone z stored r).preset < 16 ∧ (t.preset (t.settleZone z stored r).preset).mask.get z = true
      ∧ (t.preset (t.settleZone z stored r).preset).minSetpoint ≤ (t.settleZone z stored r).setpoint
      ∧ (t.settleZone z stored r).setpoint ≤ (t.preset (t.settleZone z stored r).preset).maxSetpoint := by
  obtain ⟨hd, hm⟩ := Tables.defaultPreset_serves hg.presetCount h z
  unfold Tables.settleZone
  dsimp only
  split
  · exact ⟨hd, hm, hg.preset_range hd⟩
  · split
    · rename_i i v hi
      obtain ⟨hlo, hhi⟩ := hg.preset_range hi.1
      exact ⟨hi.1, hi.2, clampInt_range (hlo.trans hhi) v⟩
    · exact ⟨hd, hm, hg.preset_range hd⟩

/-! ## What leaves the configuration as it is -/

theorem State.SetpointInRange.of_same {s t : State} {z : Zone} (h : s.SetpointInRange z)
    (hp : (t.zones.get z).preset = (s.zones.get z).preset) (hv : (t.zones.get z).setpoint = (s.zones.get z).setpoint)
    (ht : t.tables.presets = s.tables.presets) : t.SetpointInRange z := by
  have hq : t.tablePreset z = s.tablePreset z := by simp [State.tablePreset, Tables.preset, hp, ht]
  simpa only [State.SetpointInRange, hp, hv, hq] using h

theorem State.Configured.of_touches {l : List OwnedRecord} {s t : State} (h : Touches l s t) (hs : s.Configured)
    (hl : OwnedRecord.ready ∉ l ∧ OwnedRecord.tables ∉ l ∧ OwnedRecord.choices ∉ l ∧ OwnedRecord.loads ∉ l := by simp) :
    t.Configured := by
  obtain ⟨h1, h2, h3, h4⟩ := hl
  have hready : t.ready = s.ready := h .ready h1
  have htab : t.tables = s.tables := h .tables h2
  obtain ⟨hi, hset⟩ := h .loads h4
  have hch := h .choices h3
  refine ⟨?_, ?_, ?_, ?_, ?_⟩
  · rw [hi, hset]; exact hs.order
  · rw [hready, hset]; exact hs.served
  · rw [htab]; exact hs.tables
  · rw [htab, hset]; exact hs.choices
  · intro hset' z
    exact (hs.setpoints (hset ▸ hset') z).of_same (hch z).1 (hch z).2 (by rw [htab])

/-- Tables in their domains with the same presets replace the working ones. -/
theorem State.Configured.setTables {s : State} {t : Tables} (hs : s.Configured) (ht : t.Good)
    (hp : t.presets = s.tables.presets) : (s.setTables t).Configured := by
  refine ⟨hs.order, hs.served, ht, fun h => ?_, fun h z => (hs.setpoints h z).of_same rfl rfl hp⟩
  have hz := hs.choices h
  rw [Tables.zonesServed] at hz ⊢
  rwa [show (s.setTables t).tables.presets = s.tables.presets from hp]

/-- While the loads have ended, the configuration is the tables and each zone's setpoint. -/
theorem State.Configured.of_loaded {s t : State} (hs : s.Configured) (hl : s.store.settingsLoaded = true)
    (h : Touches [.tables, .zones, .choices] s t) (ht : t.tables.Good) (hz : ∀ z, t.SetpointInRange z) : t.Configured := by
  obtain ⟨hi, hset⟩ := h .loads (by simp)
  have hl' : t.store.settingsLoaded = true := hset.trans hl
  exact ⟨fun _ => hi.trans (hs.order hl), fun _ => hl', ht, fun hn => absurd hl' (by simp [hn]), fun _ => hz⟩

/-! ## Requests -/

/-- A request but IDENTIFY that passes steps 1 to 7 finds the part READY (R154, R155). -/
theorem State.ready_of_admitted {s : State} {p : Port} {f : Frame} {c : Command} (h : s.refusal p f = none)
    (hc : f.command = some c) (hi : c ≠ .identify) : s.ready = true := by
  by_contra hr
  have hn : s.ready = false ∧ c ≠ .identify := ⟨by simpa using hr, hi⟩
  simp only [State.refusal, hc, State.commandRefusal, if_pos hn] at h
  repeat' split at h
  all_goals cases h

/-- A request keeps the configuration where its rule does in a READY part. -/
theorem State.request_configured {s : State} (e : Ending) {mine : Frame → Bool} {rule : State → Port → Frame → Answer}
    (c : Command) (hs : s.Configured) (hi : c ≠ .identify) (hm : ∀ f, mine f = true → f.command = some c)
    (h : ∀ u p f, u.Configured → u.ready = true → u.store.settingsLoaded = true → (rule u p f).state.Configured) :
    (s.request e mine rule).Configured := by
  obtain k | ⟨t, -, hmine, ⟨st, -, k⟩ | ⟨hn, x, k⟩⟩ := s.request_cases e mine rule <;> rw [k]
  · exact hs
  · exact hs.of_touches ((s.afterTaking_touches t).trans (State.respond_touches _ _ _))
  · have hu : (s.afterTaking t).Configured := hs.of_touches (s.afterTaking_touches t)
    have hr := State.ready_of_admitted hn (hm _ hmine) hi
    exact (h _ t.port t.frame hu hr (hu.served hr)).of_touches (State.respond_touches _ _ _)

theorem Frame.command_of_names {f : Frame} {c : Command} (h : f.names c = true) : f.command = some c := by
  simpa [Frame.names] using h

theorem Frame.command_of_writes {f : Frame} {k : TableKind} (h : f.writes k = true) : f.command = some .writeTable := by
  simp only [Frame.writes, Bool.and_eq_true] at h
  exact Frame.command_of_names h.1

theorem Frame.command_of_writesGlobal {f : Frame} (h : f.writesGlobal = true) : f.command = some .writeTable := by
  simp only [Frame.writesGlobal, Bool.and_eq_true] at h
  exact Frame.command_of_names h.1

/-! ## Setpoints and modes (R41, R42) -/

/-- A zone's record is replaced by one with a setpoint in the range of its preset. -/
theorem State.setZone_inRange {s : State} {z : Zone} {r : ZoneRecord} (h : ∀ y, s.SetpointInRange y)
    (hr : r.preset < 16 ∧ (s.tables.preset r.preset).mask.get z = true ∧ (s.tables.preset r.preset).minSetpoint ≤ r.setpoint
      ∧ r.setpoint ≤ (s.tables.preset r.preset).maxSetpoint) : ∀ y, (s.setZone z r).SetpointInRange y := by
  intro y
  by_cases hy : y = z
  · subst hy
    simpa [State.SetpointInRange, State.tablePreset, State.setZone] using hr
  · exact (h y).of_same (by simp [State.setZone, hy]) (by simp [State.setZone, hy]) rfl

theorem State.storeSetpoint_zones (s : State) (p : Port) (z : Zone) (v : Int) :
    (s.storeSetpoint p z v).zones = (s.setZone z { s.zones.get z with setpoint := v }).zones := by
  unfold State.storeSetpoint
  dsimp only
  split <;> rfl

theorem State.storeSetpoint_tables (s : State) (p : Port) (z : Zone) (v : Int) : (s.storeSetpoint p z v).tables = s.tables :=
  s.storeSetpoint_touches p z v .tables (by simp)

theorem ruleSetSetpoint_configured {s : State} (p : Port) (f : Frame) (hs : s.Configured) (hl : s.store.settingsLoaded = true) :
    (ruleSetSetpoint s p f).state.Configured := by
  have hz := hs.setpoints hl
  unfold ruleSetSetpoint
  split
  · exact hs
  · rename_i z _
    obtain ⟨hi, hm, hlo, hhi⟩ := hz z
    refine hs.of_loaded hl ((s.storeSetpoint_touches p z _).mono (by simp)) ?_ fun y => ?_
    · rw [State.storeSetpoint_tables]; exact hs.tables
    · have h := State.setZone_inRange (z := z) (r := { s.zones.get z with
        setpoint := clampInt (s.tablePreset z).minSetpoint (s.tablePreset z).maxSetpoint (f.argInt 1) }) hz
        ⟨hi, hm, clampInt_range (hlo.trans hhi) _⟩ y
      exact h.of_same (by rw [State.storeSetpoint_zones]) (by rw [State.storeSetpoint_zones])
        (by rw [State.storeSetpoint_tables]; rfl)

theorem ruleSetMode_configured {s : State} (p : Port) (f : Frame) (hs : s.Configured) (hl : s.store.settingsLoaded = true) :
    (ruleSetMode s p f).state.Configured := by
  unfold ruleSetMode
  dsimp only
  split
  · exact hs
  · rename_i z _
    split
    · exact hs
    · rename_i hn
      obtain ⟨hi, hm⟩ := not_or.mp hn
      split
      · exact hs
      · have hi' : f.arg 1 < 16 := Nat.lt_of_not_le hi
        have hq : Touches [] (s.setZone z ((s.zones.get z).flushed (f.arg 1) (s.tables.preset (f.arg 1))))
            (s.changeMode p z (f.arg 1)) := (State.demandChanged_quiet _ _ _ _ _).trans (State.settingsChanged_quiet _ p)
        have hr := State.setZone_inRange (z := z) (r := (s.zones.get z).flushed (f.arg 1) (s.tables.preset (f.arg 1)))
          (hs.setpoints hl) ⟨hi', by simpa [ZoneRecord.flushed] using hm, hs.tables.preset_range hi'⟩
        have ht := (s.setZone_touches z (r := (s.zones.get z).flushed (f.arg 1) (s.tables.preset (f.arg 1))) rfl)
        exact (hs.of_loaded hl (ht.mono (by simp)) hs.tables hr).of_touches hq

/-! ## Table writes (R6, R19, R22, R137) -/

theorem ruleWriteConversion_configured {s : State} (p : Port) (f : Frame) (hs : s.Configured) :
    (ruleWriteConversion s p f).state.Configured := by
  unfold ruleWriteConversion
  dsimp only
  split
  · exact hs
  · rename_i hn
    simp only [not_or, Bool.not_eq_false] at hn
    obtain ⟨hi, hv, hf⟩ := hn
    exact hs.setTables (hs.tables.setConv (Nat.lt_of_not_le hi) hv hf) rfl

theorem ruleWriteStep_configured {s : State} (p : Port) (f : Frame) (hs : s.Configured) :
    (ruleWriteStep s p f).state.Configured := by
  unfold ruleWriteStep
  dsimp only
  split
  · exact hs
  · rename_i st hst
    repeat' split
    · exact hs
    · exact hs
    · rename_i hc
      exact hs.setTables (hs.tables.setStep _ (Step.read_inDomain hst) (by simpa using hc)) rfl

theorem ruleWriteProgram_configured {s : State} (p : Port) (f : Frame) (hs : s.Configured) :
    (ruleWriteProgram s p f).state.Configured := by
  unfold ruleWriteProgram
  dsimp only
  split
  · exact hs
  · rename_i g hg
    repeat' split
    · exact hs
    · exact hs
    · exact hs
    · exact hs
    · rename_i ha hc
      exact hs.setTables (hs.tables.setProgram _ (Program.read_inDomain hg) (by simpa using ha) (by simpa using hc)) rfl

theorem ruleWriteGlobal_configured {s : State} (p : Port) (f : Frame) (hs : s.Configured) :
    (ruleWriteGlobal s p f).state.Configured := by
  unfold ruleWriteGlobal
  split
  · split
    · rename_i t ht
      obtain ⟨hg, hp⟩ := hs.tables.setGlobal ht
      exact hs.setTables hg hp
    · exact hs
  · exact hs

theorem ruleWriteLadder_configured {s : State} (p : Port) (f : Frame) (hs : s.Configured) :
    (ruleWriteLadder s p f).state.Configured := by
  have hk : ∀ (u : State) z, Touches [.zones] u (u.ladderReaches f.tableIndex z) := fun u z => u.ladderReaches_touches _ z
  unfold ruleWriteLadder
  dsimp only
  split
  · exact hs
  · rename_i l hl
    split
    · exact hs
    · have hq := (((hk s .fresh).trans (hk _ .flex)).trans (hk _ .freezer)).trans (hk _ .ice)
      have h := hs.of_touches hq
      exact h.setTables (h.tables.setLadder _ (Ladder.read_inDomain hl)) rfl

/-! ## A preset write (R19) -/

/-- What a preset write leaves of a zone's record: the kept entries and the clamped setpoint of a zone that names the entry. -/
def State.zoneAfterPreset (s : State) (i : Nat) (q : Preset) (z : Zone) : ZoneRecord :=
  if (s.zones.get z).preset = i then
    { s.zones.get z with
      setpoint := clampInt q.minSetpoint q.maxSetpoint (s.zones.get z).setpoint, kept := some (s.presetOf z, s.ladderOf z) }
  else s.zones.get z

theorem State.presetReaches_zone (s : State) (p : Port) (i : Nat) (q : Preset) (z : Zone) :
    (s.presetReaches p i q z).zones.get z = s.zoneAfterPreset i q z := by
  unfold State.presetReaches State.zoneAfterPreset
  split
  · rw [State.storeSetpoint_zones]; simp [State.setZone, State.keepEntries]
  · rfl

theorem State.presetReaches_other (s : State) (p : Port) (i : Nat) (q : Preset) {y z : Zone} (h : y ≠ z) :
    (s.presetReaches p i q z).zones.get y = s.zones.get y := by
  unfold State.presetReaches
  split
  · rw [State.storeSetpoint_zones]; simp [State.setZone, State.keepEntries, h]
  · rfl

/-- What a preset write does at one zone is no part of what it does at another. -/
theorem State.zoneAfterPreset_other (s : State) (p : Port) (i : Nat) (q : Preset) {y z : Zone} (h : y ≠ z) :
    (s.presetReaches p i q z).zoneAfterPreset i q y = s.zoneAfterPreset i q y := by
  have ht : (s.presetReaches p i q z).tables = s.tables := s.presetReaches_touches p i q z .tables (by simp)
  have hz := s.presetReaches_other p i q h
  simp only [State.zoneAfterPreset, State.presetOf, State.ladderOf, State.tablePreset, hz, ht]

theorem State.writePreset_zone (s : State) (p : Port) (i : Nat) (q : Preset) (z : Zone) :
    (s.writePreset p i q).zones.get z = s.zoneAfterPreset i q z := by
  unfold State.writePreset
  simp only [State.setTables]
  cases z <;> simp [State.presetReaches_zone, State.presetReaches_other, State.zoneAfterPreset_other]

theorem State.writePreset_tables (s : State) (p : Port) (i : Nat) (q : Preset) :
    (s.writePreset p i q).tables = { s.tables with presets := s.tables.presets.set i q } := by
  have h : ∀ (u : State) z, (u.presetReaches p i q z).tables = u.tables :=
    fun u z => u.presetReaches_touches p i q z .tables (by simp)
  simp [State.writePreset, State.setTables, h]

theorem ruleWritePreset_configured {s : State} (p : Port) (f : Frame) (hs : s.Configured) (hl : s.store.settingsLoaded = true) :
    (ruleWritePreset s p f).state.Configured := by
  unfold ruleWritePreset
  dsimp only
  split
  · exact hs
  · rename_i q hq
    split
    · exact hs
    · rename_i hn
      obtain ⟨hi, hmask⟩ := not_or.mp hn
      have hi' : f.tableIndex < s.tables.presets.length := by rw [hs.tables.presetCount]; omega
      have hd := Preset.read_inDomain hq
      obtain ⟨hlo, hhi⟩ := Preset.inDomain_range hd
      refine hs.of_loaded hl (s.writePreset_touches p _ q) ?_ fun z => ?_
      · simp only [Answer.ok, State.writePreset_tables]; exact hs.tables.setPreset _ hd
      · simp only [State.SetpointInRange, State.tablePreset, Answer.ok, State.writePreset_zone, State.writePreset_tables,
          State.zoneAfterPreset]
        obtain ⟨h16, hm, hr⟩ := hs.setpoints hl z
        split
        · rename_i hz
          have hkeep : q.mask.get z = true := by
            simp only [State.maskKeepsUsers, Bool.not_eq_false, List.all_eq_true] at hmask
            have := hmask z (by cases z <;> simp)
            simpa [hz] using this
          rw [hz] at h16
          simp [Tables.preset, List.getD_eq_getElem?_getD, hz, hi', hkeep, h16, clampInt_range (hlo.trans hhi)]
        · rename_i hz
          have hsame : Tables.preset { s.tables with presets := s.tables.presets.set f.tableIndex q } (s.zones.get z).preset
              = s.tablePreset z := by
            simp [State.tablePreset, Tables.preset, List.getD_eq_getElem?_getD, Ne.symm hz]
          rw [hsame]
          exact ⟨h16, hm, hr⟩

/-! ## The loads and READY (R168 to R170) -/

theorem State.loadImage_configured {s : State} (header body : List Byte) (hs : s.Configured)
    (hn : s.store.imageLoaded = false) : (s.loadImage header body).Configured := by
  have hset : s.store.settingsLoaded = false := by
    by_contra h
    rw [hs.order (by simpa using h)] at hn
    cases hn
  have hready : s.ready = false := by
    by_contra h
    rw [hs.served (by simpa using h)] at hset
    cases hset
  have hall : ∀ (t : Tables) (x : StoreRecord), t.Good → t.zonesServed = true → x.settingsLoaded = false →
      State.Configured { s with tables := t, store := x } := by
    intro t x hg hz hx
    refine ⟨fun h => ?_, fun h => ?_, hg, fun _ => hz, fun h => ?_⟩
    · rw [show x.settingsLoaded = true from h] at hx; cases hx
    · rw [show s.ready = true from h] at hready; cases hready
    · rw [show x.settingsLoaded = true from h] at hx; cases hx
  unfold State.loadImage
  split
  · rename_i v t ht
    obtain ⟨hg, hz⟩ := acceptImage_good ht
    exact hall t _ hg hz hset
  · refine State.Configured.of_touches (Touches.raise _ _) ?_
    exact hall _ _ builtInTables_good builtInTables_served hset

theorem State.loadSettings_configured {s : State} (record : List Byte) (hs : s.Configured)
    (hi : s.store.imageLoaded = true) (hn : s.store.settingsLoaded = false) : (s.loadSettings record).Configured := by
  have hall : ∀ (c : Option (PerZone (Nat × Int))) (pm : PerZone Bool) (a : Accounting) (x : StoreRecord),
      x.imageLoaded = true → x.settingsLoaded = true →
      State.Configured { s.settleZones c with panel := pm, acct := a, store := x } := by
    intro c pm a x h1 h2
    refine ⟨fun _ => h1, fun _ => h2, hs.tables, fun h => ?_, fun _ z => ?_⟩
    · rw [show x.settingsLoaded = false from h] at h2; cases h2
    · cases z <;> exact Tables.settleZone_choice hs.tables (hs.choices hn) _ _ _
  unfold State.loadSettings
  split
  · exact hall _ _ _ _ hi rfl
  · refine State.Configured.of_touches (Touches.raise _ _) ?_
    exact hall none s.panel s.acct _ hi rfl

theorem State.riseReady_configured {s : State} (hs : s.Configured) (hl : s.store.settingsLoaded = true) :
    s.riseReady.Configured := by
  have h : State.Configured { s with ready := true } := ⟨hs.order, fun _ => hl, hs.tables, hs.choices, hs.setpoints⟩
  exact h.of_touches (State.dueTest_quiet _)

/-! ## Every step -/

theorem State.Configured.finish {s u t : State} (h : s.finish u = .next t) (hu : u.Configured) : t.Configured :=
  hu.of_touches (State.finish_quiet h)

theorem exec_configured {c : Instr} {s t : State} (h : exec c s = .next t) (hr : c.resets = false) (hs : s.Configured) :
    t.Configured := by
  by_cases hm : .ready ∈ touchedBy c ∨ .tables ∈ touchedBy c ∨ .choices ∈ touchedBy c ∨ .loads ∈ touchedBy c
  case neg =>
    simp only [not_or] at hm
    exact hs.of_touches (exec_touches h hr) hm
  cases c
  case imageLoadComplete =>
    obtain rfl | ⟨hn, h⟩ := execImageLoadComplete_next h
    · exact hs
    · exact (s.loadImage_configured _ _ hs hn).finish h
  case settingsLoadComplete =>
    obtain rfl | ⟨hi, hn, h⟩ := execSettingsLoadComplete_next h
    · exact hs
    · exact (s.loadSettings_configured _ hs hi hn).finish h
  case ready =>
    replace h : (if s.due .ready then s.finish s.riseReady else .next s) = .next t := h
    split at h
    · rename_i hd
      simp only [State.due, State.readyDue, Bool.and_eq_true] at hd
      obtain ⟨⟨⟨-, -⟩, hl⟩, -⟩ := hd
      exact (s.riseReady_configured hs hl).finish h
    · cases h; exact hs
  case setSetpoint e =>
    exact (s.request_configured e .setSetpoint hs (by simp) (fun _ => Frame.command_of_names)
      fun u p f hu _ hl => ruleSetSetpoint_configured p f hu hl).finish h
  case setMode e =>
    exact (s.request_configured e .setMode hs (by simp) (fun _ => Frame.command_of_names)
      fun u p f hu _ hl => ruleSetMode_configured p f hu hl).finish h
  case writeTableConversion e =>
    exact (s.request_configured e .writeTable hs (by simp) (fun _ => Frame.command_of_writes)
      fun u p f hu _ _ => ruleWriteConversion_configured p f hu).finish h
  case writeTablePreset e =>
    exact (s.request_configured e .writeTable hs (by simp) (fun _ => Frame.command_of_writes)
      fun u p f hu _ hl => ruleWritePreset_configured p f hu hl).finish h
  case writeTableLadder e =>
    exact (s.request_configured e .writeTable hs (by simp) (fun _ => Frame.command_of_writes)
      fun u p f hu _ _ => ruleWriteLadder_configured p f hu).finish h
  case writeTableStep e =>
    exact (s.request_configured e .writeTable hs (by simp) (fun _ => Frame.command_of_writes)
      fun u p f hu _ _ => ruleWriteStep_configured p f hu).finish h
  case writeTableProgram e =>
    exact (s.request_configured e .writeTable hs (by simp) (fun _ => Frame.command_of_writes)
      fun u p f hu _ _ => ruleWriteProgram_configured p f hu).finish h
  case writeTableGlobal e =>
    exact (s.request_configured e .writeTable hs (by simp) (fun _ => Frame.command_of_writesGlobal)
      fun u p f hu _ _ => ruleWriteGlobal_configured p f hu).finish h
  all_goals simp [touchedBy] at hm

theorem State.reset_configured : State.reset.Configured :=
  ⟨(nomatch ·), (nomatch ·), builtInTables_good, fun _ => builtInTables_served, (nomatch ·)⟩

/-- 10 ms leave what configures the part. -/
theorem State.tick_configured {s : State} (hs : s.Configured) : s.tick.Configured := by
  have hsec : s.tickSecond.Configured := by
    refine ⟨hs.order, hs.served, hs.tables, hs.choices, fun hl z => ?_⟩
    obtain ⟨n, hn⟩ := s.tickSecond_zone z
    exact (hs.setpoints hl z).of_same (by rw [hn]) (by rw [hn]) rfl
  have hfine : ∀ u : State, u.Configured → u.tickFine.Configured := by
    intro u hu
    have hst : u.tickFine.store.imageLoaded = u.store.imageLoaded ∧ u.tickFine.store.settingsLoaded = u.store.settingsLoaded := by
      simp only [State.tickFine, StoreRecord.tick]; split <;> exact ⟨rfl, rfl⟩
    refine ⟨?_, ?_, hu.tables, ?_, fun hl z => ?_⟩
    · rw [hst.1, hst.2]; exact hu.order
    · rw [hst.2]; exact hu.served
    · rw [hst.2]; exact hu.choices
    · exact (hu.setpoints (hst.2 ▸ hl) z).of_same (by simp [State.tickFine]) (by simp [State.tickFine]) rfl
  have he : s.elapse.Configured := by
    unfold State.elapse
    split
    · exact hfine _ hsec
    · exact hfine _ hs
  exact (he.of_touches (State.settle_quiet _)).of_touches (State.queueDue_touches _)

theorem State.deviceReset_configured (s : State) (raw : DoorLevels) : (s.deviceReset raw).Configured :=
  State.reset_configured.of_touches (s.deviceReset_quiet raw)

theorem configured_step {s t : State} (hs : s.Configured) (h : step s = .next t) : t.Configured := by
  refine step_induction (P := State.Configured) (fun s l hs => ⟨hs.order, hs.served, hs.tables, hs.choices, hs.setpoints⟩)
    (fun s => State.tick_configured) (fun s raw _ => s.deviceReset_configured raw) ?_ (fun c s t => exec_configured) h hs
  intro e s t h hs
  obtain rfl | rfl | ⟨x, y, -, rfl⟩ := execFullRestart_next h
  · exact (s.deviceReset_configured s.rawLevels).of_touches (State.settle_quiet _)
  · exact hs.of_touches (State.settle_quiet _)
  · exact (hs.of_touches ((s.afterTaking_touches x).trans (State.respond_touches _ _ _))).of_touches (State.settle_quiet _)

end Sys2Proof.Machine

namespace Sys2Proof

open Sys2Proof.Machine

/-- Settles O57: a table write is checked against the domains, a change of a setpoint clamps it, and the loads bring good tables. -/
theorem tablesAndSetpointsStayInDomain : Obligations.TablesAndSetpointsStayInDomain := fun _ _ => configured_step

end Sys2Proof
end

section
/-!
How the part stands as a device reset ends: its outputs, its doors and its zones, whatever the doors read (spec/00, R45, R48), and
the invariants there.
-/
namespace Sys2Proof.Machine

/-- The part as after reset but for its doors, its zones and the queue. -/
def State.resetWith (l : List Instr) (n : Nat) (d : PerDoor DoorRecord) (z : PerZone ZoneRecord) : State :=
  { State.reset with pending := l, free := n, doors := d, zones := z }

/-- As a reset ends no door stops anything, as nothing runs: the outputs stand. -/
theorem State.resetWith_settled (l : List Instr) (n : Nat) (d : PerDoor DoorRecord) {z : PerZone ZoneRecord}
    (hz : z.flex.heat = false) : (State.resetWith l n d z).Settled := by
  have hu : (State.resetWith l n d z).upperDuty = 0 := rfl
  have hl : (State.resetWith l n d z).lowerDuty = 0 := by
    unfold State.lowerDuty
    split
    · contradiction
    · split <;> rfl
  have hc : (State.resetWith l n d z).condenserDuty = 0 := rfl
  have hd : ∀ x, (State.resetWith l n d z).damperOpen x = false := by intro x; cases x <;> rfl
  have hr : (State.resetWith l n d z).lowerHeaterRequest = false := rfl
  have hf : (State.resetWith l n d z).flexHeaterRequest = false := by
    show (z.flex.heat && _) = false
    rw [hz]; rfl
  have hact : (State.resetWith l n d z).settledActuators = State.reset.act := by
    unfold State.settledActuators
    rw [hu, hl, hc, hd, hd, hd, hr, hf]
    rfl
  show ({ State.resetWith l n d z with act := (State.resetWith l n d z).settledActuators } : State) = _
  rw [hact]
  rfl

theorem State.reset_settled : State.reset.Settled :=
  State.resetWith_settled [] 0 State.reset.doors (z := State.reset.zones) rfl

theorem State.reset_speedBounded : State.reset.SpeedBounded where
  flag := ⟨(nomatch ·), fun h => by obtain h | h | ⟨h, -⟩ := h <;> cases h⟩
  stopped _ := rfl
  running := (nomatch ·)
  caps _ := (nomatch ·)
  forced := (nomatch ·)
  transfer := (nomatch ·)

theorem State.reset_offTimeKept : State.reset.OffTimeKept := by
  rintro (h | h | h) <;> cases h

theorem State.reset_oneEntryEach : State.reset.OneEntryEach := by
  intro z; cases z <;> rfl

theorem State.reset_countsInRange : State.reset.CountsInRange :=
  State.reset.countsInRange_iff.mpr fun r _ => r.inRange_reset

theorem State.reset_doorViewsAgree : State.reset.DoorViewsAgree := by
  intro z; cases z <;> rfl

/-! ## The records of reset, one by one -/

theorem State.reset_channel (c : Channel) : State.reset.channels.get c
    = { state := .unseeded, lastCode := none, temperature := none, faultKind := .none, debounce := 0 } := by cases c <;> rfl

theorem State.reset_zone (z : Zone) :
    (State.reset.zones.get z).estimate = none ∧ (State.reset.zones.get z).seeded = false
      ∧ (State.reset.zones.get z).band = none ∧ (State.reset.zones.get z).demand = .idle
      ∧ (State.reset.zones.get z).heat = false ∧ (State.reset.zones.get z).alarm = .none
      ∧ (State.reset.zones.get z).alarmTimer = 0 ∧ (State.reset.zones.get z).boost = none
      ∧ (State.reset.zones.get z).fallbackStart = none := by
  cases z <;> exact ⟨rfl, rfl, rfl, rfl, rfl, rfl, rfl, rfl, rfl⟩

theorem State.reset_path (p : Path) : (State.reset.arb.paths.get p).state = .available
    ∧ (State.reset.arb.paths.get p).count = 0 ∧ (State.reset.arb.paths.get p).timer = none := by cases p <;> exact ⟨rfl, rfl, rfl⟩

theorem State.reset_fan (f : Fan) : (State.reset.act.fans.get f).duty = 0 ∧ (State.reset.act.fans.get f).spinUp = 0
    ∧ (State.reset.act.fans.get f).low = 0 ∧ (State.reset.act.fans.get f).good = 0 := by cases f <;> exact ⟨rfl, rfl, rfl, rfl⟩

theorem State.reset_damper (d : Damper) : (State.reset.act.dampers.get d).motion = .homing
    ∧ (State.reset.act.dampers.get d).position = none ∧ (State.reset.act.dampers.get d).target = 0 := by
  cases d <;> exact ⟨rfl, rfl, rfl⟩

theorem State.reset_answer (p : Port) : State.reset.answer p = { status := .none, echo := 0, data := [] } := by cases p <;> rfl

theorem State.reset_events (p : Port) : State.reset.events.get p = { set := 0, mask := 0xFFFF } := by cases p <;> rfl

/-! ## What a device reset reads from the doors (R16, R48) -/

theorem DoorRecord.read_raw (l : PinLevel) : (DoorRecord.read l).raw = l := by cases l <;> rfl

/-- A door starts open, its timer at 0, exactly where its input reads HIGH (R48). -/
theorem DoorRecord.read_opening (l : PinLevel) :
    (DoorRecord.read l).openAge = (if (DoorRecord.read l).raw = .high then some 0 else none) ∧ (DoorRecord.read l).run = none
      ∧ (DoorRecord.read l).longReported = false ∧ (DoorRecord.read l).lapsed = false ∧ (DoorRecord.read l).minutes = 0 := by
  cases l <;> exact ⟨rfl, rfl, rfl, rfl, rfl⟩

/-- The doors as a reset reads them. -/
def readDoors (raw : DoorLevels) : PerDoor DoorRecord :=
  { leftFresh := .read raw.leftFresh, rightFresh := .read raw.rightFresh, flexDrawer := .read raw.flexDrawer,
    freezerDrawer := .read raw.freezerDrawer }

/-- A zone with no door hold timer takes the doors as they stand: its timer is at 0 while one of its doors is open. -/
theorem State.viewDoors_fresh (s : State) (z : Zone) (h : (s.zones.get z).doorHold = none) :
    s.viewDoors z = { s.zones.get z with
      doorHold := if z.doors.any (fun d => (s.doors.get d).isOpen) then some 0 else none } := by
  unfold State.viewDoors
  dsimp only
  split
  · simp [ZoneRecord.doorOpens, h]
  · rfl

theorem State.viewAllDoors_zone (s : State) (z : Zone) : s.viewAllDoors.zones.get z = s.viewDoors z := by
  cases z <;> rfl

theorem State.reset_doorHold (z : Zone) : (State.reset.zones.get z).doorHold = none := by cases z <;> rfl

theorem State.resetWith_viewDoors (l : List Instr) (n : Nat) (d : PerDoor DoorRecord) (z : Zone) :
    (State.resetWith l n d State.reset.zones).viewDoors z = { State.reset.zones.get z with
      doorHold := if z.doors.any (fun x => (d.get x).isOpen) then some 0 else none } :=
  State.viewDoors_fresh _ z (State.reset_doorHold z)

/-- A device reset leaves the values of reset but for the doors and the zones' views of them. -/
theorem State.deviceReset_eq (s : State) (raw : DoorLevels) :
    s.deviceReset raw
      = State.resetWith s.pending s.free (readDoors raw) (State.resetWith s.pending s.free (readDoors raw) State.reset.zones).viewAllDoors.zones :=
  State.resetWith_settled s.pending s.free (readDoors raw) (z := (State.viewAllDoors _).zones) (by
    show ((State.resetWith s.pending s.free (readDoors raw) State.reset.zones).viewDoors .flex).heat = false
    rw [State.resetWith_viewDoors]
    rfl)

theorem State.deviceReset_zone (s : State) (raw : DoorLevels) (z : Zone) :
    (s.deviceReset raw).zones.get z = { State.reset.zones.get z with
      doorHold := if z.doors.any (fun d => ((s.deviceReset raw).doors.get d).isOpen) then some 0 else none } := by
  rw [State.deviceReset_eq]
  show (State.viewAllDoors _).zones.get z = _
  rw [State.viewAllDoors_zone, State.resetWith_viewDoors]
  rfl

theorem State.deviceReset_doors (s : State) (raw : DoorLevels) : (s.deviceReset raw).doors = (readDoors raw) := rfl

theorem State.deviceReset_settled (s : State) (raw : DoorLevels) : (s.deviceReset raw).Settled := State.settle_settled _

/-- A full restart that is admitted is a device reset (R159). -/
theorem execFullRestart_admitted {s : State} {e : Ending} {p : Port} {f : Frame} {q : Ports} (h : Admitted s e .restart p f q)
    (h2 : f.arg 0 = 2) : exec (.fullRestart e) s = exec (.deviceReset s.rawLevels) s := by
  obtain ⟨hq, hr, -⟩ := id h
  have hf : f.fullRestart = true := by simp [Frame.fullRestart, h.names, h2]
  have hr' : (s.afterTaking { port := p, frame := f, ports := q }).refusal p f = none := hr
  have hs : s.fullRestart e = s.deviceReset s.rawLevels := by simp [State.fullRestart, hq, hf, hr']
  show Host.Outcome.next (s.fullRestart e).settle = .next (s.deviceReset s.rawLevels)
  rw [hs, (s.deviceReset_settled s.rawLevels : State.settle _ = _)]

end Sys2Proof.Machine

namespace Sys2Proof

open Sys2Proof.Machine

/-- Settles O59: the records after reset are inside every range, with nothing running, calling or on. -/
theorem invariantsHoldAtReset : Obligations.InvariantsHoldAtReset :=
  ⟨State.reset_settled, State.reset_speedBounded, State.reset_offTimeKept, State.reset_oneEntryEach, State.reset_configured,
    State.reset_countsInRange, OwnedRecord.acct.inRange_reset, State.reset_unseededEmpty, State.reset_doorViewsAgree⟩

/-- Settles O4: the records of reset read off, and a device reset differs from them by what it reads at the doors alone. -/
theorem resetValues : Obligations.ResetValues := by
  refine ⟨?_, fun raw s => ⟨s.deviceReset raw, rfl, ?_, ?_⟩, fun s e p f q h h2 =>
    ⟨execFullRestart_admitted h h2, s.deviceReset s.rawLevels, execFullRestart_admitted h h2, rfl, rfl, ?_⟩⟩
  · exact ⟨rfl, rfl, rfl, State.reset_channel, State.reset_zone, rfl, rfl, rfl, rfl, rfl, rfl, rfl, State.reset_path,
      rfl, rfl, rfl, rfl, rfl, rfl, rfl, rfl, rfl, rfl, rfl, rfl, rfl, rfl, rfl, rfl, rfl, rfl, rfl, rfl, rfl, rfl, rfl,
      State.reset_fan, rfl, rfl, rfl, State.reset_damper, rfl, rfl, rfl, rfl, rfl, rfl, rfl, rfl, rfl, rfl, rfl, rfl, rfl, rfl,
      State.reset_answer, State.reset_events, rfl, rfl, rfl, rfl, rfl⟩
  · rw [State.deviceReset_eq]; rfl
  · rw [State.deviceReset_doors]
    exact ⟨DoorRecord.read_raw _, DoorRecord.read_raw _, DoorRecord.read_raw _, DoorRecord.read_raw _,
      fun d => by cases d <;> exact DoorRecord.read_opening _, s.deviceReset_zone raw⟩
  · exact State.reset_answer

end Sys2Proof
end

section
/-!
SUPPORT. How the event sets grow (R163): what a raise adds to each port's set, and which kinds each operation can raise. Between
acknowledgements no operation removes a kind.
-/
namespace Sys2Proof.Machine

/-! ## Sets of kinds -/

theorem EventKind.bit_lt (k : EventKind) : k.bit < 16 := by cases k <;> decide

theorem EventKind.bit_inj {k j : EventKind} (h : k.bit = j.bit) : k = j := by
  cases k <;> cases j <;> first | rfl | cases h

@[simp] theorem holdsKind_withKind (w : Word16) (k j : EventKind) :
    holdsKind (withKind w k) j = (holdsKind w j || decide (j = k)) := by
  have hb : decide (k.bit = j.bit) = decide (j = k) := by
    rw [decide_eq_decide]
    exact ⟨fun h => (EventKind.bit_inj h).symm, fun h => by rw [h]⟩
  simp only [holdsKind, withKind, BitVec.getLsbD_or, BitVec.getLsbD_twoPow, k.bit_lt, decide_true, Bool.true_and, hb]

theorem State.raise_holds (s : State) (k j : EventKind) (p : Port) :
    holdsKind ((s.raise k).events.get p).set j = (holdsKind (s.events.get p).set j || decide (j = k)) := by
  simp [State.raise, EventRecord.add]

/-! ## Growing by some kinds -/

/-- The event sets lose no kind, and gain none that the list lacks. -/
structure EventsGrow (l : List EventKind) (s t : State) : Prop where
  keeps : ∀ p k, holdsKind (s.events.get p).set k = true → holdsKind (t.events.get p).set k = true
  only : ∀ p k, k ∉ l → holdsKind (t.events.get p).set k = holdsKind (s.events.get p).set k

theorem EventsGrow.of_events {l : List EventKind} {s t : State} (h : t.events = s.events) : EventsGrow l s t :=
  ⟨fun p k hk => by rw [h]; exact hk, fun p k _ => by rw [h]⟩

theorem EventsGrow.refl (l : List EventKind) (s : State) : EventsGrow l s s := .of_events rfl

theorem EventsGrow.trans {l : List EventKind} {s t u : State} (h : EventsGrow l s t) (k : EventsGrow l t u) : EventsGrow l s u :=
  ⟨fun p j hj => k.keeps p j (h.keeps p j hj), fun p j hj => (k.only p j hj).trans (h.only p j hj)⟩

theorem EventsGrow.mono {l m : List EventKind} {s t : State} (h : EventsGrow l s t) (hl : l ⊆ m) : EventsGrow m s t :=
  ⟨h.keeps, fun p k hk => h.only p k fun hm => hk (hl hm)⟩

theorem EventsGrow.raise {l : List EventKind} (s : State) {k : EventKind} (hk : k ∈ l) : EventsGrow l s (s.raise k) := by
  refine ⟨fun p j hj => ?_, fun p j hj => ?_⟩
  · rw [s.raise_holds, hj, Bool.true_or]
  · have hne : j ≠ k := fun h => hj (h ▸ hk)
    rw [s.raise_holds, decide_eq_false hne, Bool.or_false]

theorem EventsGrow.ite {l : List EventKind} {s t u : State} (b : Prop) [Decidable b] (h : EventsGrow l s t)
    (k : EventsGrow l s u) : EventsGrow l s (if b then t else u) := by
  split
  · exact h
  · exact k

theorem TurnOnly.grow {s t : State} (h : TurnOnly s t) (l : List EventKind) : EventsGrow l s t := .of_events h.events

theorem State.raiseAll_grow (s : State) (ks : List EventKind) : EventsGrow ks s (s.raiseAll ks) := by
  have h : ∀ (l : List EventKind) (u : State), l ⊆ ks → EventsGrow ks u (u.raiseAll l) := by
    intro l
    induction l with
    | nil => intro u _; exact .refl _ u
    | cons k l ih =>
      intro u hl
      have hk : k ∈ ks := hl List.mem_cons_self
      exact (EventsGrow.raise u hk).trans (ih (u.raise k) fun j hj => hl (List.mem_cons_of_mem k hj))
  exact h ks s (List.Subset.refl ks)

/-- A kind of the list stands in every set after the raise. -/
theorem State.raiseAll_holds (s : State) {ks : List EventKind} {k : EventKind} (hk : k ∈ ks) (p : Port) :
    holdsKind ((s.raiseAll ks).events.get p).set k = true := by
  induction ks generalizing s with
  | nil => cases hk
  | cons j l ih =>
    show holdsKind (((s.raise j).raiseAll l).events.get p).set k = true
    obtain rfl | hl := List.mem_cons.mp hk
    · exact ((s.raise k).raiseAll_grow l).keeps p k (by simp [State.raise_holds])
    · exact ih (s.raise j) hl

theorem State.raiseAll_append (s : State) (ks l : List EventKind) : s.raiseAll (ks ++ l) = (s.raiseAll ks).raiseAll l :=
  List.foldl_append

theorem State.setZone_raiseAll (s : State) (z : Zone) (r : ZoneRecord) (ks : List EventKind) :
    (s.raiseAll ks).setZone z r = (s.setZone z r).raiseAll ks := by
  induction ks generalizing s with
  | nil => rfl
  | cons k l ih => exact ih (s.raise k)

/-! ## A hand-over of the cycle state to the manager (R131 to R133) -/

/-- What a hand-over leaves: the image store, and the event sets but for DEFROST_BEGIN; the last outcome as well. -/
structure Reacts (s t : State) : Prop where
  grow : EventsGrow [.defrostBegin] s t
  store : t.store = s.store
  outcome : t.mgr.lastOutcome = s.mgr.lastOutcome

theorem Reacts.refl (s : State) : Reacts s s := ⟨.refl _ s, rfl, rfl⟩

theorem Reacts.trans {s t u : State} (h : Reacts s t) (k : Reacts t u) : Reacts s u :=
  ⟨h.grow.trans k.grow, k.store.trans h.store, k.outcome.trans h.outcome⟩

theorem TurnOnly.reacts {s t : State} (h : TurnOnly s t) : Reacts s t := ⟨h.grow _, h.store, by rw [h.mgr]⟩

/-- The manager's record moves, but for its last outcome. -/
theorem Reacts.mgr (s : State) (m : Manager) (h : m.lastOutcome = s.mgr.lastOutcome) : Reacts s { s with mgr := m } :=
  ⟨.of_events rfl, rfl, h⟩

theorem State.beginProgram_reacts (s : State) (g : Program) : Reacts s (s.beginProgram g) := by
  unfold State.beginProgram
  extract_lets m s1 s2 a s3 s4
  have h1 : Reacts s s1 := Reacts.mgr s _ rfl
  have h2 : Reacts s s2 := h1.trans (State.block_turn s1 g.path).reacts
  have h3 : Reacts s s3 := by
    unfold s3; split
    · exact h2.trans (TurnOnly.arb s2 _).reacts
    · exact h2
  have h4 : Reacts s s4 := by
    unfold s4; split
    · exact h3.trans ⟨.of_events rfl, rfl, rfl⟩
    · exact h3.trans ⟨.of_events rfl, rfl, rfl⟩
  exact h4.trans ⟨(EventsGrow.raise s4 (by simp)).trans (.of_events rfl), rfl, rfl⟩

theorem State.beginTest_reacts (s : State) : Reacts s s.beginTest := by
  unfold State.beginTest
  split
  · split
    · exact s.beginProgram_reacts _
    · exact .refl s
  · exact .refl s

theorem State.askRelease_reacts (s : State) (p : Path) : Reacts s (s.askRelease p) :=
  (Reacts.mgr s { s.mgr with releaseAsked := true } rfl).trans (State.release_turn _ p).reacts

theorem State.managerReact_reacts (s : State) : Reacts s s.managerReact := by
  unfold State.managerReact
  split
  · split
    · exact (s.askRelease_reacts _).trans (State.beginTest_reacts _)
    · exact s.beginTest_reacts
  · exact .refl s

theorem State.handOver_reacts (s t : State) : Reacts t (State.handOver s t) := by
  unfold State.handOver
  split
  · exact t.managerReact_reacts
  · exact .refl t

theorem State.beginWait_reacts (s : State) (n : Nat) : Reacts s (s.beginWait n) :=
  (Reacts.mgr s { s.mgr with waitStart := some n } rfl).trans (State.managerReact_reacts _)

theorem State.enterDue_reacts (s : State) : Reacts s s.enterDue := by
  unfold State.enterDue
  extract_lets m t
  have h : Reacts s t := Reacts.mgr s _ rfl
  split
  · exact h
  · exact h.trans (State.beginWait_reacts _ _)

theorem State.dueTest_reacts (s : State) : Reacts s s.dueTest := by
  unfold State.dueTest
  split
  · exact s.enterDue_reacts
  · exact .refl s

/-! ## The end of a step (R140 to R144) -/

/-- The kinds that the defrost manager raises at the end of a step. -/
def managerKinds : List EventKind := [.defrostBegin, .defrostEnd, .programStep, .stepTimeout]

theorem Reacts.manages {s t : State} (h : Reacts s t) : EventsGrow managerKinds s t := h.grow.mono (by simp [managerKinds])

/-- The end of a program is handed to the others; the manager's record stands, and no kind is raised. -/
theorem State.programEnded_keeps (s : State) (g : Program) :
    (s.programEnded g).events = s.events ∧ (s.programEnded g).mgr = s.mgr := by
  have ht : ∀ {u v : State}, TurnOnly u v → u.events = s.events ∧ u.mgr = s.mgr → v.events = s.events ∧ v.mgr = s.mgr :=
    fun h k => ⟨h.events.trans k.1, h.mgr.trans k.2⟩
  unfold State.programEnded
  extract_lets h a s1 b s2 s3
  have h2 : s2.events = s.events ∧ s2.mgr = s.mgr := by unfold s2; split <;> exact ⟨rfl, rfl⟩
  have h3 : s3.events = s.events ∧ s3.mgr = s.mgr := ht (State.unblock_turn s2 g.path) h2
  split
  · exact ht s3.endCompressorHold_turn h3
  · exact h3

theorem State.programEnded_grow (s : State) (g : Program) : EventsGrow managerKinds s ((s.programEnded g).raise .defrostEnd) :=
  (EventsGrow.of_events (s.programEnded_keeps g).1).trans (.raise _ (by simp [managerKinds]))

theorem State.complete_grow (s : State) (g : Program) : EventsGrow managerKinds s (s.complete g) := by
  unfold State.complete
  extract_lets s1 s2 s3
  have h2 : EventsGrow managerKinds s s2 := by
    unfold s2; split
    · exact .of_events rfl
    · exact .of_events rfl
  have h3 : EventsGrow managerKinds s s3 := h2.trans (s2.programEnded_grow g)
  have h4 : EventsGrow managerKinds s { s3 with mgr := s3.mgr.atRest .idle } := h3.trans (.of_events rfl)
  exact h4.trans (State.dueTest_reacts _).manages

theorem State.exitEnded_grow (s : State) (g : Program) : EventsGrow managerKinds s (s.exitEnded g) :=
  have h1 : EventsGrow managerKinds s (s.recordOutcome .aborted) := .of_events rfl
  (h1.trans (State.programEnded_grow _ g)).trans (.of_events rfl)

theorem State.noteStepEnd_grow (s : State) (st : Step) (c : EndCause) : EventsGrow managerKinds s (s.noteStepEnd st c) := by
  unfold State.noteStepEnd
  extract_lets s1 s2
  have h1 : EventsGrow managerKinds s s1 := EventsGrow.ite _ (.raise s (by simp [managerKinds])) (.refl _ s)
  have h2 : EventsGrow managerKinds s s2 := EventsGrow.ite _ (h1.trans (.raise s1 (by simp [managerKinds]))) h1
  exact EventsGrow.ite _ (h2.trans (.of_events rfl)) h2

theorem State.endStep_grow (s : State) (g : Program) (st : Step) (c : EndCause) : EventsGrow managerKinds s (s.endStep g st c) := by
  unfold State.endStep
  extract_lets t
  have ht : EventsGrow managerKinds s t := s.noteStepEnd_grow st c
  split
  · exact ht.trans (.of_events rfl)
  · split
    · split
      · exact ht.trans (t.complete_grow g)
      · exact ht.trans (t.exitEnded_grow g)
    · exact ht.trans (.of_events rfl)

theorem State.stepReport_grow (s : State) (r : Report) : EventsGrow managerKinds s (s.stepReport r) := by
  unfold State.stepReport
  split
  · split
    · exact s.endStep_grow _ _ _
    · exact .refl _ s
  · exact .refl _ s

/-! ## What a report raises -/

theorem alarmEvents_sub (a b : AlarmState) : alarmEvents a b ⊆ [.zoneAlarm] := by
  unfold alarmEvents
  split <;> simp

/-- An evaluation raises BOOST_END and ZONE_ALARM alone (R30, R40). -/
theorem Evaluation.run_kinds (x : Evaluation) (z : ZoneRecord) : (x.run z).2 ⊆ [.boostEnd, .zoneAlarm] := by
  unfold Evaluation.run
  dsimp only
  refine List.append_subset.mpr ⟨?_, List.Subset.trans (alarmEvents_sub _ _) (by simp)⟩
  split <;> simp

/-- The kinds that a channel report can raise at its consumers (R12). -/
def reportKinds : List EventKind := .boostEnd :: .zoneAlarm :: managerKinds

theorem State.evaluateZone_grow (s : State) (z : Zone) (r : Report) : EventsGrow reportKinds s (s.evaluateZone z r) := by
  have hk : ∀ (u : State) (x : Evaluation) (v : ZoneRecord), EventsGrow reportKinds u (u.raiseAll (x.run v).2) := fun u x v =>
    (u.raiseAll_grow _).mono (List.Subset.trans (x.run_kinds v) (by simp [reportKinds]))
  refine EventsGrow.trans ?_ ((State.demandEvaluated_turn _ _ _ _ _).grow _)
  refine EventsGrow.trans ?_ (hk _ _ _)
  exact .of_events rfl

theorem TurnOnly.ite {s t u : State} (b : Prop) [Decidable b] (h : TurnOnly s t) (k : TurnOnly s u) :
    TurnOnly s (if b then t else u) := by
  split
  · exact h
  · exact k

theorem State.evaporatorReport_turn (s : State) (r : Report) : TurnOnly s (s.evaporatorReport r) := by
  unfold State.evaporatorReport
  split
  · exact TurnOnly.ite _ ⟨_, _, _, _, _, _, _, rfl⟩ (.refl s)
  · exact TurnOnly.ite _ ⟨_, _, _, _, _, _, _, rfl⟩ (.refl s)
  · exact .refl s

theorem State.takeReport_grow (s : State) (r : Report) : EventsGrow reportKinds s (s.takeReport r) := by
  unfold State.takeReport
  split
  · exact s.evaluateZone_grow _ r
  · exact ((s.evaporatorReport_turn r).grow _).trans ((State.stepReport_grow _ r).mono (by simp [reportKinds]))

end Sys2Proof.Machine
end

section
/-!
The sensor front end (R3 to R12): the channel record and the report in each case of a sample, what a completed sample hands on, and
the conversion.
-/
namespace Sys2Proof.Machine

/-! ## Classes -/

theorem classify_inRange {code : Nat} (lo : 16 ≤ code) (hi : code ≤ 4079) : classify code = .inRange := by
  unfold classify
  rw [if_neg (by omega), if_neg (by omega)]

theorem classify_out {code : Nat} (h : code ≤ 15 ∨ 4080 ≤ code) : classify code ≠ .inRange := by
  unfold classify
  split
  · simp
  · rw [if_pos (by omega)]; simp

theorem classify_faultKind {code : Nat} (h : code ≤ 15 ∨ 4080 ≤ code) :
    (classify code).faultKind = if code ≤ 15 then .short else .openLead := by
  unfold classify
  split
  · rfl
  · rw [if_pos (by omega)]; rfl

/-! ## The channel record after a completion (R8 to R10) -/

section record
variable {t : List Int} {code : Nat} {r : ChannelRecord}

theorem sampleRecord_good (hs : r.state ≠ .fault) (hc : classify code = .inRange) :
    sampleRecord t code r
      = { r with state := .ok, lastCode := some code, temperature := some (convert t code), debounce := 0 } := by
  unfold sampleRecord
  rw [hc]
  cases h : r.state
  case fault => exact absurd h hs
  all_goals rfl

theorem sampleRecord_out (hs : r.state ≠ .fault) (hc : classify code ≠ .inRange) :
    sampleRecord t code r = if r.debounce < 2 then { r with lastCode := some code, debounce := r.debounce + 1 }
      else { r with state := .fault, lastCode := some code, faultKind := (classify code).faultKind, debounce := 0 } := by
  unfold sampleRecord
  cases hk : classify code
  case inRange => exact absurd hk hc
  all_goals
    cases h : r.state
    case fault => exact absurd h hs
    all_goals rfl

theorem sampleRecord_fault_good (hs : r.state = .fault) (hc : classify code = .inRange) :
    sampleRecord t code r = if r.debounce < 2 then { r with lastCode := some code, debounce := r.debounce + 1 }
      else { r with state := .ok, lastCode := some code, temperature := some (convert t code), faultKind := .none, debounce := 0 } := by
  unfold sampleRecord
  simp only [hc, hs]

theorem sampleRecord_fault_out (hs : r.state = .fault) (hc : classify code ≠ .inRange) :
    sampleRecord t code r = { r with lastCode := some code, faultKind := (classify code).faultKind, debounce := 0 } := by
  unfold sampleRecord
  cases hk : classify code
  case inRange => exact absurd hk hc
  all_goals simp only [hs]

end record

/-! ## A completed sample -/

theorem exec_sampleCompletion {s : State} (hi : s.store.imageLoaded = true) (hl : s.store.settingsLoaded = true) (ch : Channel)
    (code : BitVec 12) : exec (.sampleCompletion ch code) s = s.finish (s.sample ch code.toNat) :=
  if_pos ⟨hi, hl⟩

/-- The state that a completed sample leaves, after the hand-over of the cycle state and with the outputs recomputed. -/
def State.sampled (s : State) (ch : Channel) (code : Nat) : State := (State.handOver s (s.sample ch code)).settle

theorem exec_sampled {s : State} (hi : s.store.imageLoaded = true) (hl : s.store.settingsLoaded = true) (ch : Channel)
    (code : BitVec 12) : exec (.sampleCompletion ch code) s = .next (s.sampled ch code.toNat) :=
  exec_sampleCompletion hi hl ch code

section handing
variable {s : State} {ch : Channel} {code : BitVec 12} {r : ChannelRecord} {x : Report}

/-- A sample that neither enters nor leaves FAULT hands on its record and its report (R11, R12). -/
theorem exec_sample_silent (hi : s.store.imageLoaded = true) (hl : s.store.settingsLoaded = true)
    (hr : sampleRecord s.tables.conv code.toNat (s.channels.get ch) = r)
    (hk : (s.channels.get ch).state = .fault ↔ r.state = .fault) (hx : makeReport ch code.toNat (s.channels.get ch) r = x) :
    exec (.sampleCompletion ch code) s = s.finish (State.takeReport { s with channels := s.channels.set ch r } x) := by
  have he : sensorEvents (s.channels.get ch) r = [] := if_pos (decide_eq_decide.mpr hk)
  rw [exec_sampleCompletion hi hl]
  subst hr hx
  unfold State.sample
  dsimp only
  rw [he]
  rfl

/-- A sample that enters or leaves FAULT raises SENSOR before its report (R11, R12). -/
theorem exec_sample_raises (hi : s.store.imageLoaded = true) (hl : s.store.settingsLoaded = true)
    (hr : sampleRecord s.tables.conv code.toNat (s.channels.get ch) = r)
    (hk : ¬ ((s.channels.get ch).state = .fault ↔ r.state = .fault)) (hx : makeReport ch code.toNat (s.channels.get ch) r = x) :
    exec (.sampleCompletion ch code) s
      = s.finish (State.takeReport
          { s with channels := s.channels.set ch r, events := s.events.map (·.add .sensor) } x) := by
  have he : sensorEvents (s.channels.get ch) r = [.sensor] := if_neg fun h => hk (decide_eq_decide.mp h)
  rw [exec_sampleCompletion hi hl]
  subst hr hx
  unfold State.sample
  dsimp only
  rw [he]
  rfl

end handing

theorem State.sampled_channels (s : State) (ch : Channel) (code : Nat) :
    (s.sampled ch code).channels = s.channels.set ch (sampleRecord s.tables.conv code (s.channels.get ch)) := by
  show (State.handOver s (s.sample ch code)).channels = _
  rw [State.handOver_channels, s.sample_channels]

/-- A completed sample raises SENSOR exactly where the channel enters or leaves FAULT (R11). -/
theorem State.sampled_sensor (s : State) (ch : Channel) (code : Nat) (p : Port) :
    holdsKind ((s.sampled ch code).events.get p).set .sensor
      = (holdsKind (s.events.get p).set .sensor
        || decide (decide ((s.channels.get ch).state = .fault)
            ≠ decide ((sampleRecord s.tables.conv code (s.channels.get ch)).state = .fault))) := by
  have ht : ∀ u : State, EventsGrow reportKinds u (State.handOver s u) := fun u =>
    (State.handOver_reacts s u).grow.mono (by simp [reportKinds, managerKinds])
  have hg : ∀ (u : State) (r : Report),
      holdsKind ((State.handOver s (u.takeReport r)).events.get p).set .sensor = holdsKind (u.events.get p).set .sensor :=
    fun u r => ((u.takeReport_grow r).trans (ht _)).only p .sensor (by simp [reportKinds, managerKinds])
  refine (hg _ _).trans ?_
  unfold sensorEvents
  split
  · rename_i h
    simp [State.raiseAll, h]
  · rename_i h
    simp only [State.raiseAll, List.foldl_cons, List.foldl_nil, State.raise_holds, ne_eq, h, not_false_eq_true, decide_true]

/-! ## Conversion (R4, R5) -/

theorem clampInt_eq {lo hi : Int} (h : lo ≤ hi) (v : Int) : clampInt lo hi v = max lo (min hi v) := by
  unfold clampInt
  split
  · omega
  · split <;> omega

theorem clampInt_mono {lo hi v w : Int} (h : lo ≤ hi) (hv : v ≤ w) : clampInt lo hi v ≤ clampInt lo hi w := by
  rw [clampInt_eq h, clampInt_eq h]
  omega

/-- The value on the segment from one point to the next, before the clamp (R4). -/
def segment (p q : Int) (r : Nat) : Int := p + ((q - p) * (r : Int)).fdiv 256

theorem convert_eq (t : List Int) (code : Nat) :
    convert t code = clampInt (-500) 700 (segment (convPoint t (code / 256)) (convPoint t (code / 256 + 1)) (code % 256)) := rfl

theorem fdiv_256 (x : Int) : x.fdiv 256 = x / 256 := Int.fdiv_eq_ediv_of_nonneg x (by omega)

/-- On a falling segment a later code gives no higher value. -/
theorem segment_anti {p q : Int} (h : q ≤ p) {r u : Nat} (hr : r ≤ u) : segment p q u ≤ segment p q r := by
  have hm : (q - p) * (u : Int) ≤ (q - p) * (r : Int) := Int.mul_le_mul_of_nonpos_left (by omega) (by omega)
  unfold segment
  rw [fdiv_256, fdiv_256]
  omega

/-- A falling segment runs between its points. -/
theorem segment_between {p q : Int} (h : q ≤ p) {r : Nat} (hr : r < 256) : q ≤ segment p q r ∧ segment p q r ≤ p := by
  have hlo := segment_anti h hr.le
  have hhi := segment_anti h r.zero_le
  simp only [segment, fdiv_256, Nat.cast_zero, mul_zero, Nat.cast_ofNat] at hlo hhi ⊢
  omega

/-- The points of a non-increasing table fall with their number (R5). -/
theorem convPoint_anti {t : List Int} (h : nonIncreasing t = true) {i j : Nat} (hij : i ≤ j) (hj : j < t.length) :
    convPoint t j ≤ convPoint t i := by
  induction j, hij using Nat.le_induction with
  | base => exact le_rfl
  | succ j _ ih =>
    have hstep : convPoint t (j + 1) ≤ convPoint t j := by
      rw [convPoint_eq hj, convPoint_eq (by omega)]
      exact (nonIncreasing_iff t).mp h j hj
    exact hstep.trans (ih (by omega))

theorem convert_anti {t : List Int} (h : nonIncreasing t = true) (hl : t.length = 17) {a b : Nat} (hab : a ≤ b) (hb : b ≤ 4079) :
    convert t b ≤ convert t a := by
  rw [convert_eq, convert_eq]
  refine clampInt_mono (by decide) ?_
  have hfall : ∀ k, k < 16 → convPoint t (k + 1) ≤ convPoint t k := fun k hk => convPoint_anti h (by omega) (by omega)
  by_cases hk : a / 256 = b / 256
  · rw [hk]
    exact segment_anti (hfall _ (by omega)) (by omega)
  · calc _ ≤ convPoint t (b / 256) := (segment_between (hfall _ (by omega)) (by omega)).2
      _ ≤ convPoint t (a / 256 + 1) := convPoint_anti h (by omega) (by omega)
      _ ≤ _ := (segment_between (hfall _ (by omega)) (by omega)).1

end Sys2Proof.Machine

namespace Sys2Proof

open Sys2Proof.Machine

/-- Settles O9: a conversion is its segment's value, and the segments of a good table fall. -/
theorem conversionFollowsTheTable : Obligations.ConversionFollowsTheTable :=
  ⟨fun t code => (convert_eq t code).trans (clampInt_eq (by decide) _), fun t _ _ hv hl hab hb =>
    convert_anti ((Bool.and_eq_true _ _).mp hv).2 hl hab hb⟩

/-- Settles O6: the record and the report of an in-range sample outside FAULT, from which SENSOR does not rise. -/
theorem goodSampleIsAccepted : Obligations.GoodSampleIsAccepted := by
  intro s ch code hi hl hs lo hi' temperature u
  have hc := classify_inRange lo hi'
  have hr := sampleRecord_good (t := s.tables.conv) hs hc
  refine ⟨_, exec_sampled hi hl ch code, exec_sample_silent hi hl hr (by simp [hs]) ?_, ?_, fun p => ?_⟩
  · cases h : (s.channels.get ch).state
    case fault => exact absurd h hs
    all_goals simp [makeReport, hc, h, temperature]
  · rw [State.sampled_channels, hr]
  · rw [State.sampled_sensor, hr]
    simp [hs]

/-- Settles O7: two out-of-range samples are counted and reported as held, the third enters FAULT. -/
theorem outOfRangeIsDebounced : Obligations.OutOfRangeIsDebounced := by
  intro s ch code hi hl hs hout hempty r
  have hc := classify_out hout
  have hr := sampleRecord_out (t := s.tables.conv) (r := s.channels.get ch) hs hc
  refine ⟨_, exec_sampled hi hl ch code, fun hd => ?_, fun hd => ?_⟩
  · have hd' : (s.channels.get ch).debounce < 2 := Nat.lt_of_le_of_lt hd (by decide)
    rw [if_pos hd'] at hr
    refine ⟨exec_sample_silent hi hl hr Iff.rfl ?_, ?_, fun p => ?_⟩
    · have ht : (s.channels.get ch).state = .unseeded → (s.channels.get ch).temperature = none := hempty ch
      cases h : (s.channels.get ch).state
      case fault => exact absurd h hs
      case unseeded => simp [makeReport, h, ht h, r]
      case ok => simp [makeReport, h, hc, r]
    · rw [State.sampled_channels, hr]
    · rw [State.sampled_sensor, hr]
      simp
  · have hd' : ¬ (s.channels.get ch).debounce < 2 := by rw [show (s.channels.get ch).debounce = 2 from hd]; decide
    rw [if_neg hd', classify_faultKind hout] at hr
    refine ⟨exec_sample_raises hi hl hr (by simp [hs]) ?_, ?_, fun p => ?_⟩
    · simp [makeReport, hs, r]
    · rw [State.sampled_channels, hr]
    · rw [State.sampled_sensor, hr]
      simp [hs]

/-- Settles O8: in FAULT two in-range samples are counted and the third ends it; an out-of-range one begins the count again. -/
theorem faultRecovers : Obligations.FaultRecovers := by
  intro s ch code hi hl hs r stale temperature
  have stays : ∀ x : ChannelRecord, x.state = .fault → x.temperature = (s.channels.get ch).temperature →
      makeReport ch code.toNat (s.channels.get ch) x = stale := by
    intro x h ht
    simp [makeReport, h, ht, stale, r, show (s.channels.get ch).state = .fault from hs]
  refine ⟨_, exec_sampled hi hl ch code, fun lo hi' hd => ?_, fun lo hi' hd => ?_, fun hout => ?_⟩
  · have hd' : (s.channels.get ch).debounce < 2 := Nat.lt_of_le_of_lt hd (by decide)
    have hr := sampleRecord_fault_good (t := s.tables.conv) (r := s.channels.get ch) hs (classify_inRange lo hi')
    rw [if_pos hd'] at hr
    exact ⟨exec_sample_silent hi hl hr Iff.rfl (stays _ hs rfl), by rw [State.sampled_channels, hr]⟩
  · have hd' : ¬ (s.channels.get ch).debounce < 2 := by rw [show (s.channels.get ch).debounce = 2 from hd]; decide
    have hc := classify_inRange lo hi'
    have hr := sampleRecord_fault_good (t := s.tables.conv) (r := s.channels.get ch) hs hc
    rw [if_neg hd'] at hr
    refine ⟨exec_sample_raises hi hl hr (by simp [hs]) ?_, by rw [State.sampled_channels, hr], fun p => ?_⟩
    · simp [makeReport, hc, hs, temperature]
    · rw [State.sampled_sensor, hr]
      simp [hs]
  · have hr := sampleRecord_fault_out (t := s.tables.conv) (r := s.channels.get ch) hs (classify_out hout)
    rw [classify_faultKind hout] at hr
    exact ⟨exec_sample_silent hi hl hr Iff.rfl (stays _ hs rfl), by rw [State.sampled_channels, hr]⟩

end Sys2Proof
end

section
/-!
What a completed sample does at its consumers: the evaluation of the zone of an air channel (R24, R28), and what an evaporator report
ends (R110, R111, R139 to R142).
-/
namespace Sys2Proof.Machine

/-! ## The evaluation of a zone (R24) -/

/-- The evaluation a report makes with the tables as they stand (R19, R22). -/
def State.freshEvaluation (s : State) (z : Zone) (r : Report) : Evaluation :=
  { zone := z, preset := s.tablePreset z, ladder := s.tables.ladder (s.tablePreset z).ladder, now := s.now,
    suspended := s.warmSuspended z, report := r }

/-- What that evaluation makes of the zone's record, and the events it raises. -/
def State.freshRun (s : State) (z : Zone) (r : Report) : ZoneRecord × List EventKind :=
  (s.freshEvaluation z r).run { s.zones.get z with kept := none }

theorem PerZone.set_set {α : Type} (m : PerZone α) (z : Zone) (v w : α) : (m.set z v).set z w = m.set z w := by cases z <;> rfl

theorem State.setZone_setZone (s : State) (z : Zone) (v w : ZoneRecord) : (s.setZone z v).setZone z w = s.setZone z w := by
  simp only [State.setZone, PerZone.set_set]

/-- An evaluation takes the tables as they stand, whatever entries the zone had kept (R19, R22). -/
theorem State.evaluateZone_eq (s : State) (z : Zone) (r : Report) :
    s.evaluateZone z r = ((s.setZone z (s.freshRun z r).1).raiseAll (s.freshRun z r).2).demandEvaluated z (s.zones.get z).demand
      (s.freshRun z r).1.demand (s.tablePreset z).pathSet := by
  have hz : (s.takeTables z).zones.get z = { s.zones.get z with kept := none } := by simp [State.takeTables, State.setZone]
  have hp : (s.takeTables z).presetOf z = s.tablePreset z := by
    simp only [State.presetOf, hz, State.tablePreset]
    rfl
  have hl : (s.takeTables z).ladderOf z = s.tables.ladder (s.tablePreset z).ladder := by
    simp only [State.ladderOf, hz, State.tablePreset]
    rfl
  have hx : (s.takeTables z).evaluationOf z r = s.freshEvaluation z r := by
    simp only [State.evaluationOf, hp, hl]
    rfl
  unfold State.evaluateZone State.evaluateWith
  simp only [hx, hz, hp]
  rw [State.takeTables, State.setZone_setZone]
  rfl

theorem State.freshRun_raiseAll (s : State) (ks : List EventKind) (z : Zone) (r : Report) :
    (s.raiseAll ks).freshRun z r = s.freshRun z r := by
  rw [State.raiseAll_eq]
  rfl

theorem State.tablePreset_raiseAll (s : State) (ks : List EventKind) (z : Zone) :
    (s.raiseAll ks).tablePreset z = s.tablePreset z := by
  rw [State.raiseAll_eq]
  rfl

theorem airZone_channel (z : Zone) : airZone z.channel = some z := by cases z <;> rfl

/-- What a sample of an air channel leaves of the channel's record. -/
def State.airAfter (s : State) (z : Zone) (code : Nat) : ChannelRecord :=
  sampleRecord s.tables.conv code (s.channels.get z.channel)

/-- What it makes of the zone's record, and the events the zone raises. -/
def State.airRun (s : State) (z : Zone) (code : Nat) : ZoneRecord × List EventKind :=
  s.freshRun z (makeReport z.channel code (s.channels.get z.channel) (s.airAfter z code))

/-- The state of the records and of the events before the arbiter hears of the zone's demand. -/
def State.airEvaluated (s : State) (z : Zone) (code : Nat) : State :=
  State.raiseAll { s with channels := s.channels.set z.channel (s.airAfter z code), zones := s.zones.set z (s.airRun z code).1 }
    (sensorEvents (s.channels.get z.channel) (s.airAfter z code) ++ (s.airRun z code).2)

theorem State.sample_air (s : State) (z : Zone) (code : Nat) :
    s.sample z.channel code = (s.airEvaluated z code).demandEvaluated z (s.zones.get z).demand (s.airRun z code).1.demand
      (s.tablePreset z).pathSet := by
  unfold State.sample State.takeReport
  dsimp only [makeReport]
  rw [airZone_channel]
  dsimp only
  rw [State.evaluateZone_eq, State.freshRun_raiseAll, State.tablePreset_raiseAll, State.setZone_raiseAll, ← State.raiseAll_append,
    State.raiseAll_zones]
  rfl

/-- Without a change of demand to or from CALLING the arbiter hears nothing (R28). -/
theorem State.demandEvaluated_idle (s : State) (z : Zone) (ps : PathSet) : s.demandEvaluated z .idle .idle ps = s := rfl

/-! ## What a report tells (R12, R110, R140) -/

/-- The temperature a sample's report tells as current or held: the conversion of an in-range sample outside FAULT or at the end of
one, and the last good temperature at the first two out-of-range samples. -/
def ChannelRecord.told (t : List Int) (code : Nat) (r : ChannelRecord) : Option Int :=
  if 16 ≤ code ∧ code ≤ 4079 then (if r.state ≠ .fault ∨ 2 ≤ r.debounce then some (convert t code) else none)
  else if r.state ≠ .fault ∧ r.debounce < 2 then r.temperature else none

/-- The channel enters FAULT at this sample. -/
abbrev ChannelRecord.fails (code : Nat) (r : ChannelRecord) : Prop :=
  ¬ (16 ≤ code ∧ code ≤ 4079) ∧ r.state ≠ .fault ∧ 2 ≤ r.debounce

theorem Report.trusted_stale {r : Report} {x : Option Int} (h : r.temperature = x.map (·, .stale)) : r.trusted = none := by
  unfold Report.trusted
  rw [h]
  cases x <;> rfl

theorem Report.trusted_held {r : Report} {x : Option Int} (h : r.temperature = x.map (·, .held)) : r.trusted = x := by
  unfold Report.trusted
  rw [h]
  cases x <;> rfl

theorem Report.trusted_current {r : Report} {x : Option Int} (h : r.temperature = x.map (·, .current)) : r.trusted = x := by
  unfold Report.trusted
  rw [h]
  cases x <;> rfl

section told
variable {t : List Int} {code : Nat} {r : ChannelRecord}

theorem ChannelRecord.told_inRange (h : 16 ≤ code ∧ code ≤ 4079) :
    r.told t code = if r.state ≠ .fault ∨ 2 ≤ r.debounce then some (convert t code) else none := if_pos h

theorem ChannelRecord.told_out (h : ¬ (16 ≤ code ∧ code ≤ 4079)) :
    r.told t code = if r.state ≠ .fault ∧ r.debounce < 2 then r.temperature else none := if_neg h

theorem ChannelRecord.not_fails_inRange (h : 16 ≤ code ∧ code ≤ 4079) : ¬ r.fails code := fun k => k.1 h

/-- What the report of a completed sample tells, and whether it reports the entry to FAULT. -/
theorem makeReport_sample (ch : Channel) (t : List Int) (code : Nat) (r : ChannelRecord) :
    (makeReport ch code r (sampleRecord t code r)).trusted = r.told t code
      ∧ ((makeReport ch code r (sampleRecord t code r)).enteredFault = true ↔ r.fails code) := by
  by_cases hin : 16 ≤ code ∧ code ≤ 4079
  · have hc := classify_inRange hin.1 hin.2
    rw [ChannelRecord.told_inRange hin, iff_false_right (ChannelRecord.not_fails_inRange hin)]
    by_cases hs : r.state = .fault
    · rw [sampleRecord_fault_good hs hc]
      by_cases hd : r.debounce < 2
      · rw [if_pos hd, if_neg fun h => h.elim (· hs) hd.not_ge]
        refine ⟨Report.trusted_stale (x := r.temperature) ?_, ?_⟩
        · simp [makeReport, hs]
        · simp [makeReport, hs, Report.enteredFault]
      · rw [if_neg hd, if_pos (.inr (not_lt.mp hd))]
        refine ⟨Report.trusted_current ?_, ?_⟩
        · simp [makeReport, hc]
        · simp [makeReport, Report.enteredFault]
    · rw [sampleRecord_good hs hc, if_pos (.inl hs)]
      refine ⟨Report.trusted_current ?_, ?_⟩
      · simp [makeReport, hc]
      · simp [makeReport, Report.enteredFault]
  · have hc := classify_out (code := code) (by omega)
    rw [ChannelRecord.told_out hin]
    by_cases hs : r.state = .fault
    · rw [sampleRecord_fault_out hs hc, if_neg fun h => h.1 hs]
      refine ⟨Report.trusted_stale (x := r.temperature) ?_, ?_⟩
      · simp [makeReport, hs]
      · simp [makeReport, hs, Report.enteredFault, ChannelRecord.fails]
    · rw [sampleRecord_out hs hc]
      by_cases hd : r.debounce < 2
      · rw [if_pos hd, if_pos ⟨hs, hd⟩]
        refine ⟨Report.trusted_held ?_, ?_⟩
        · simp [makeReport, hs, hc]
        · simp [makeReport, hs, Report.enteredFault, ChannelRecord.fails, hd]
      · rw [if_neg hd, if_neg fun h => hd h.2]
        refine ⟨Report.trusted_stale (x := r.temperature) ?_, ?_⟩
        · simp [makeReport]
        · simp [makeReport, hs, Report.enteredFault, ChannelRecord.fails, hin, not_lt.mp hd]

end told

/-! ## What an evaporator report ends (R110, R111) -/

theorem State.evaporatorReport_upper (s : State) {r : Report} (h : r.channel = .ch4) :
    (s.evaporatorReport r).act = { s.act with
      afterRun := if r.trusted.any (fun x => decide (10 ≤ x)) = true ∨ (r.enteredFault = true ∧ 300 ≤ s.act.afterRun.getD 0) then none
        else s.act.afterRun } := by
  unfold State.evaporatorReport
  rw [h]
  dsimp only
  cases r.trusted with
  | none =>
    by_cases hl : r.enteredFault = true ∧ 300 ≤ s.act.afterRun.getD 0
    · simp [hl, State.endAfterRun]
    · simp [hl]
  | some t =>
    by_cases ht : 10 ≤ t
    · simp [ht, State.endAfterRun]
    · by_cases hl : r.enteredFault = true ∧ 300 ≤ s.act.afterRun.getD 0
      · simp [ht, hl, State.endAfterRun]
      · simp [ht, hl]

theorem State.evaporatorReport_lower (s : State) {r : Report} (h : r.channel = .ch5) :
    (s.evaporatorReport r).act = { s.act with
      fanDelay := if r.trusted.any (fun x => decide (x < -50)) = true ∧ s.act.fanDelay = .active then .disarmed
        else s.act.fanDelay } := by
  unfold State.evaporatorReport
  rw [h]
  dsimp only
  cases r.trusted with
  | none => simp
  | some t =>
    by_cases hc : t < -50 ∧ s.act.fanDelay = .active
    · simp [hc, State.endFanDelay]
    · simp [hc]

/-- An evaporator report moves nothing of the cycle controller, of the manager or of the clock. -/
theorem State.evaporatorReport_keeps (s : State) (r : Report) :
    (s.evaporatorReport r).cyc = s.cyc ∧ (s.evaporatorReport r).mgr = s.mgr ∧ (s.evaporatorReport r).tables = s.tables
      ∧ (s.evaporatorReport r).now = s.now := by
  have ht := s.evaporatorReport_turn r
  refine ⟨?_, ht.mgr, ht.tables, ht.now⟩
  unfold State.evaporatorReport
  have hi : ∀ (b : Prop) [Decidable b] (u : State), u.cyc = s.cyc → (if b then u else s).cyc = s.cyc := by
    intro b _ u hu
    split
    · exact hu
    · rfl
  split
  · exact hi _ s.endAfterRun rfl
  · exact hi _ s.endFanDelay rfl
  · rfl

/-! ## What an evaporator report does to the program that runs (R140 to R142) -/

theorem State.stepReport_other {s : State} {r : Report} (h : ∀ g, s.runningProgram = some g → r.channel ≠ evaporatorChannel g.path) :
    s.stepReport r = s := by
  unfold State.stepReport
  split
  · rename_i g st t hg hst ht
    rw [if_neg fun k => h g hg k.1]
  · rfl

/-- A report of the program's evaporator channel ends the running step exactly where what it tells meets the step's condition. -/
theorem State.stepReport_running {s : State} {r : Report} {g : Program} {st : Step} (hg : s.runningProgram = some g)
    (hst : s.runningStep = some st) (hc : r.channel = evaporatorChannel g.path) :
    s.stepReport r = if r.trusted.any st.met = true then s.endStep g st .condition else s := by
  unfold State.stepReport
  rw [hg, hst]
  cases r.trusted with
  | none => rfl
  | some t => simp [hc]

theorem Step.met_any (st : Step) (x : Option Int) :
    x.any st.met = true ↔ (st.endKind = .evapAbove ∧ x.any (fun t => decide (st.threshold < t)) = true)
      ∨ (st.endKind = .evapBelow ∧ x.any (fun t => decide (t < st.threshold)) = true) := by
  cases x with
  | none => simp
  | some t => cases h : st.endKind <;> simp [Step.met, h]

/-- A step that ends by its condition notes its events and its measurement; nothing else of the manager moves (R141). -/
theorem State.noteStepEnd_condition (s : State) (st : Step) :
    (s.noteStepEnd st .condition).cyc = s.cyc ∧ (s.noteStepEnd st .condition).now = s.now
      ∧ (s.noteStepEnd st .condition).mgr = { s.mgr with
          runMeasurement := if st.measure then some { elapsed := s.mgr.stepTimer.getD 0, cause := .condition } else s.mgr.runMeasurement,
          lastMeasurement := if st.measure
            then s.mgr.program.map fun i => (i, { elapsed := s.mgr.stepTimer.getD 0, cause := .condition })
            else s.mgr.lastMeasurement } := by
  unfold State.noteStepEnd
  cases st.notify <;> cases st.measure <;> exact ⟨rfl, rfl, rfl⟩

theorem State.endStep_condition_next (s : State) (g : Program) {st : Step} (h : st.last = false) :
    s.endStep g st .condition = (s.noteStepEnd st .condition).beginStep st.next := by
  simp [State.endStep, h]

theorem State.endStep_condition_last {s : State} (hs : s.mgr.state = .running) (g : Program) {st : Step} (h : st.last = true) :
    s.endStep g st .condition = (s.noteStepEnd st .condition).complete g := by
  simp [State.endStep, h, hs]

/-- A completion records its outcome, which no later act of the same event moves (R142). -/
theorem State.complete_outcome (s : State) (g : Program) :
    (s.complete g).mgr.lastOutcome = s.mgr.program.map fun i => (i, .completed, s.now) := by
  unfold State.complete
  extract_lets s1 s2 s3
  have h2 : s2.mgr = s1.mgr := by unfold s2; split <;> rfl
  have h3 : s3.mgr = s1.mgr := (s2.programEnded_keeps g).2.trans h2
  refine (State.dueTest_reacts _).outcome.trans ?_
  show s3.mgr.lastOutcome = _
  rw [h3]
  rfl

/-! ## A completed sample of an evaporator channel -/

/-- The report of a completed sample. -/
def State.sampleReport (s : State) (ch : Channel) (code : Nat) : Report :=
  makeReport ch code (s.channels.get ch) (sampleRecord s.tables.conv code (s.channels.get ch))

/-- The state with the channel's record and events, before the report is taken. -/
def State.sensed (s : State) (ch : Channel) (code : Nat) : State :=
  State.raiseAll { s with channels := s.channels.set ch (sampleRecord s.tables.conv code (s.channels.get ch)) }
    (sensorEvents (s.channels.get ch) (sampleRecord s.tables.conv code (s.channels.get ch)))

/-- The state after the actuator block has taken the report, before the manager does. -/
def State.reported (s : State) (ch : Channel) (code : Nat) : State :=
  (s.sensed ch code).evaporatorReport (s.sampleReport ch code)

theorem State.sampleReport_told (s : State) (ch : Channel) (code : Nat) :
    (s.sampleReport ch code).trusted = (s.channels.get ch).told s.tables.conv code
      ∧ ((s.sampleReport ch code).enteredFault = true ↔ (s.channels.get ch).fails code) :=
  makeReport_sample ch s.tables.conv code (s.channels.get ch)

theorem State.reported_keeps (s : State) (ch : Channel) (code : Nat) :
    (s.reported ch code).cyc = s.cyc ∧ (s.reported ch code).mgr = s.mgr ∧ (s.reported ch code).tables = s.tables
      ∧ (s.reported ch code).now = s.now := by
  obtain ⟨hc, hm, ht, hn⟩ := (s.sensed ch code).evaporatorReport_keeps (s.sampleReport ch code)
  exact ⟨hc.trans (State.raiseAll_cyc _ _), hm.trans (State.raiseAll_mgr _ _), ht.trans (State.raiseAll_tables _ _),
    hn.trans (congrArg (· / 100) (State.raiseAll_clock _ _))⟩

/-- The same program and the same step of it run as before the sample. -/
theorem State.reported_running (s : State) (ch : Channel) (code : Nat) :
    (s.reported ch code).runningProgram = s.runningProgram ∧ (s.reported ch code).runningStep = s.runningStep := by
  obtain ⟨-, hm, ht, -⟩ := s.reported_keeps ch code
  simp only [State.runningProgram, State.runningStep, State.programRecord, hm, ht, and_self]

theorem State.sample_evaporator (s : State) {ch : Channel} (h : airZone ch = none) (code : Nat) :
    s.sample ch code = (s.reported ch code).stepReport (s.sampleReport ch code) := by
  show State.takeReport (s.sensed ch code) (s.sampleReport ch code) = _
  unfold State.takeReport
  rw [show airZone (s.sampleReport ch code).channel = none from h]
  rfl

/-- A sample that moves nothing of the cycle hands nothing over. -/
theorem State.sampled_settle {s : State} {ch : Channel} {code : Nat} (h : (s.sample ch code).cyc = s.cyc) :
    s.sampled ch code = (s.sample ch code).settle := by
  unfold State.sampled
  rw [State.handOver_same (congrArg CycleRecord.state h) (congrArg CycleRecord.path h)]

/-- Where the report ends no step, the manager's record stands, and the outputs are those after the evaporator report. -/
theorem State.sampled_quiet {s : State} {ch : Channel} {code : Nat} (h : s.sample ch code = s.reported ch code) :
    s.sampled ch code = (s.reported ch code).settle ∧ (s.sampled ch code).mgr = s.mgr := by
  obtain ⟨hc, hm, -⟩ := s.reported_keeps ch code
  have hs : s.sampled ch code = (s.reported ch code).settle := by rw [State.sampled_settle (by rw [h, hc]), h]
  exact ⟨hs, by rw [hs, State.settle_mgr, hm]⟩

/-- A sample of an evaporator channel that is not the running program's ends no step. -/
theorem State.sample_other {s : State} {ch : Channel} {code : Nat} (hair : airZone ch = none)
    (h : ∀ g, s.runningProgram = some g → ch ≠ evaporatorChannel g.path) : s.sample ch code = s.reported ch code := by
  rw [State.sample_evaporator s hair, State.stepReport_other]
  intro g hg
  rw [(s.reported_running ch code).1] at hg
  exact h g hg

/-- What a sample of CH4 ends at the actuator block (R110). -/
theorem State.sampled_upper {s : State} {code : Nat} (h : ∀ g, s.runningProgram = some g → g.path = .lower) :
    (s.sampled .ch4 code).act.afterRun
        = (if ((s.channels.get .ch4).told s.tables.conv code).any (fun x => decide (10 ≤ x)) = true
              ∨ ((s.channels.get .ch4).fails code ∧ 300 ≤ s.act.afterRun.getD 0) then none
           else s.act.afterRun)
      ∧ (s.sampled .ch4 code).act.fanDelay = s.act.fanDelay ∧ (s.sampled .ch4 code).mgr = s.mgr := by
  obtain ⟨hs, hm⟩ := State.sampled_quiet (State.sample_other (s := s) (ch := .ch4) (code := code) rfl fun g hg => by
    rw [h g hg]; nofun)
  obtain ⟨ht, hf⟩ := s.sampleReport_told .ch4 code
  have ha : (s.reported .ch4 code).act = _ := (s.sensed .ch4 code).evaporatorReport_upper (r := s.sampleReport .ch4 code) rfl
  rw [show (s.sensed .ch4 code).act = s.act from State.raiseAll_act _ _, ht] at ha
  refine ⟨?_, ?_, hm⟩
  · rw [hs]
    refine (congrArg Actuators.afterRun ha).trans ?_
    exact if_congr (or_congr Iff.rfl (and_congr hf Iff.rfl)) rfl rfl
  · rw [hs]
    exact (congrArg Actuators.fanDelay ha).trans rfl

/-- What a sample of CH5 ends at the actuator block (R111). -/
theorem State.sampled_lower {s : State} {code : Nat} (h : ∀ g, s.runningProgram = some g → g.path = .upper) :
    (s.sampled .ch5 code).act.fanDelay
        = (if ((s.channels.get .ch5).told s.tables.conv code).any (fun x => decide (x < -50)) = true ∧ s.act.fanDelay = .active
           then .disarmed else s.act.fanDelay)
      ∧ (s.sampled .ch5 code).act.afterRun = s.act.afterRun ∧ (s.sampled .ch5 code).mgr = s.mgr := by
  obtain ⟨hs, hm⟩ := State.sampled_quiet (State.sample_other (s := s) (ch := .ch5) (code := code) rfl fun g hg => by
    rw [h g hg]; nofun)
  have ha : (s.reported .ch5 code).act = _ := (s.sensed .ch5 code).evaporatorReport_lower (r := s.sampleReport .ch5 code) rfl
  rw [show (s.sensed .ch5 code).act = s.act from State.raiseAll_act _ _, (s.sampleReport_told .ch5 code).1] at ha
  refine ⟨?_, ?_, hm⟩
  · rw [hs]
    exact (congrArg Actuators.fanDelay ha).trans rfl
  · rw [hs]
    exact (congrArg Actuators.afterRun ha).trans rfl

/-! ## The sample that a running step waits for -/

/-- Step j of program i runs, n seconds into it. -/
structure State.AtStep (s : State) (i j n : Nat) : Prop where
  running : s.mgr.state = .running
  program : s.mgr.program = some i
  step : s.mgr.step = some j
  timer : s.mgr.stepTimer = some n

section step
variable {s : State} {i j n code : Nat} {ch : Channel}

/-- A sample of the program's evaporator channel ends its step exactly where what it tells meets the step's condition (R140). -/
theorem State.AtStep.sample_eq (h : s.AtStep i j n) (hch : ch = evaporatorChannel (s.tables.program i).path) (code : Nat) :
    s.sample ch code = if ((s.channels.get ch).told s.tables.conv code).any (s.tables.step j).met = true
      then (s.reported ch code).endStep (s.tables.program i) (s.tables.step j) .condition else s.reported ch code := by
  have hg : s.runningProgram = some (s.tables.program i) := by
    simp [State.runningProgram, State.programRecord, Manager.inProgram, h.running, h.program]
  have hst : s.runningStep = some (s.tables.step j) := by simp [State.runningStep, Manager.inProgram, h.running, h.step]
  have hair : airZone ch = none := by rw [hch]; cases (s.tables.program i).path <;> rfl
  obtain ⟨rg, rst⟩ := s.reported_running ch code
  rw [State.sample_evaporator s hair, State.stepReport_running (rg.trans hg) (rst.trans hst) hch, (s.sampleReport_told ch code).1]

/-- The condition is met and the step is not the last: the next one begins, with the measurement noted (R141). -/
theorem State.AtStep.sampled_next (h : s.AtStep i j n) (hch : ch = evaporatorChannel (s.tables.program i).path)
    (hmet : ((s.channels.get ch).told s.tables.conv code).any (s.tables.step j).met = true)
    (hlast : (s.tables.step j).last = false) :
    (s.sampled ch code).mgr = { s.mgr with
      step := some (s.tables.step j).next, stepTimer := some 0,
      runMeasurement := if (s.tables.step j).measure then some { elapsed := n, cause := .condition } else s.mgr.runMeasurement,
      lastMeasurement :=
        if (s.tables.step j).measure then some (i, { elapsed := n, cause := .condition }) else s.mgr.lastMeasurement } := by
  have hs := h.sample_eq hch code
  rw [if_pos hmet, State.endStep_condition_next _ _ hlast] at hs
  obtain ⟨hc, hm, -⟩ := s.reported_keeps ch code
  obtain ⟨nc, -, nm⟩ := (s.reported ch code).noteStepEnd_condition (s.tables.step j)
  rw [State.sampled_settle (by rw [hs]; exact nc.trans hc), hs, State.settle_mgr]
  refine (congrArg (fun m : Manager => { m with step := some (s.tables.step j).next, stepTimer := some 0 }) nm).trans ?_
  simp only [hm, h.program, h.timer, Option.getD_some, Option.map_some]

/-- The condition is met at the last step: the program completes (R142). -/
theorem State.AtStep.sampled_last (h : s.AtStep i j n) (hch : ch = evaporatorChannel (s.tables.program i).path)
    (hmet : ((s.channels.get ch).told s.tables.conv code).any (s.tables.step j).met = true)
    (hlast : (s.tables.step j).last = true) : (s.sampled ch code).mgr.lastOutcome = some (i, .completed, s.now) := by
  obtain ⟨-, hm, -, hn⟩ := s.reported_keeps ch code
  obtain ⟨-, nn, nm⟩ := (s.reported ch code).noteStepEnd_condition (s.tables.step j)
  have hs := h.sample_eq hch code
  rw [if_pos hmet, State.endStep_condition_last (by rw [hm]; exact h.running) _ hlast] at hs
  refine (State.handOver_reacts s _).outcome.trans ?_
  rw [hs, State.complete_outcome, nm, hm, h.program, nn, hn]
  rfl

end step

end Sys2Proof.Machine

namespace Sys2Proof

open Sys2Proof.Machine

/-- Settles O10: the evaluation runs with the tables as they stand, and what follows at the arbiter and the manager touches no record
but theirs. -/
theorem sampleEvaluatesItsZone : Obligations.SampleEvaluatesItsZone := by
  intro s z code hi hl before after x ran evaluated
  have hsample := s.sample_air z code.toNat
  have hturn := (s.airEvaluated z code.toNat).demandEvaluated_turn z (s.zones.get z).demand (s.airRun z code.toNat).1.demand
    (s.tablePreset z).pathSet
  rw [← hsample] at hturn
  have hreact := State.handOver_reacts s (s.sample z.channel code.toNat)
  have htouch : Touches [.channels, .zones] s (s.sampled z.channel code.toNat) := by
    refine Touches.before ?_ ((State.handOver_quiet s _).trans (State.settle_quiet _))
    refine Touches.trans (t := s.sensed z.channel code.toNat) ?_ ?_
    · exact ((Touches.channels s _).before (State.raiseAll_quiet _ _)).mono (by simp)
    · show Touches _ _ (State.takeReport _ _)
      unfold State.takeReport
      rw [show airZone (makeReport z.channel _ _ _).channel = some z from airZone_channel z]
      exact (State.evaluateZone_touches _ _ _).mono (by simp)
  refine ⟨?_, _, exec_sampled hi hl z.channel code, s.sampled_channels _ _, ?_, fun p k hk => ?_, fun hb ha => ?_,
    htouch .doors (by simp), htouch .tables (by simp), htouch .panel (by simp), htouch .ports (by simp), htouch .cap (by simp),
    htouch .link (by simp), htouch .acct (by simp), ?_, htouch .ready (by simp), htouch .clock (by simp),
    htouch .pending (by simp)⟩
  · rw [exec_sampleCompletion hi hl, hsample]
    rfl
  · show (State.handOver s (s.sample z.channel code.toNat)).zones = _
    rw [State.handOver_zones, hturn.zones, State.airEvaluated, State.raiseAll_zones]
    rfl
  · refine hreact.grow.keeps p k ?_
    rw [hturn.events]
    exact State.raiseAll_holds _ (List.mem_append_right _ hk) p
  · have he : s.sample z.channel code.toNat = s.airEvaluated z code.toNat := by
      rw [hsample, hb, show (s.airRun z code.toNat).1.demand = .idle from ha]
      rfl
    have hc : (s.airEvaluated z code.toNat).cyc = s.cyc := State.raiseAll_cyc _ _
    have hs : s.sampled z.channel code.toNat = (s.airEvaluated z code.toNat).settle := by
      unfold State.sampled
      rw [he, State.handOver_same (congrArg CycleRecord.state hc) (congrArg CycleRecord.path hc)]
    rw [hs]
    exact ⟨State.raiseAll_arb _ _, State.raiseAll_cyc _ _⟩
  · exact hreact.store.trans (hturn.store.trans (State.raiseAll_store _ _))

/-- Settles O31: what a report tells, and what that ends at the actuator block and in the program that runs. -/
theorem evaporatorReportsAct : Obligations.EvaporatorReportsAct := by
  intro s code hi hl inRange told fails
  refine ⟨fun h => ⟨_, exec_sampled hi hl .ch4 code, State.sampled_upper h⟩,
    fun h => ⟨_, exec_sampled hi hl .ch5 code, State.sampled_lower h⟩, ?_⟩
  intro ch i j n hrunning hprogram hstep htimer hch st met
  have hat : s.AtStep i j n := ⟨hrunning, hprogram, hstep, htimer⟩
  have hev : ch = evaporatorChannel (s.tables.program i).path := by
    rw [hch]
    cases (s.tables.program i).path <;> rfl
  have hmet : met ↔ (told ch).any st.met = true := (st.met_any _).symm
  refine ⟨_, exec_sampled hi hl ch code, fun hno => ?_, fun hyes => hat.sampled_next hev (hmet.mp hyes),
    fun hyes => hat.sampled_last hev (hmet.mp hyes)⟩
  exact (State.sampled_quiet ((hat.sample_eq hev code.toNat).trans (if_neg fun h => hno (hmet.mpr h)))).2

end Sys2Proof
end

section
/-!
The views field by field (R44, R79, R105, R124, R147, R158, R167, R174), the transactions on Port A and Port B (R151) and the attention
lines (R166).
-/
namespace Sys2Proof.Machine

/-! ## Fields (R174) -/

theorem seconds_eq : seconds = fun n => n / 100 := rfl

theorem be32_eq (n : Nat) : be32 n = be16 (n / 65536) ++ be16 n := by
  simp only [be32, be16, Nat.div_div_eq_div_mul, List.cons_append, List.nil_append, Nat.reduceMul]

@[simp] theorem v1_length (n : Nat) : (v1 n).length = 1 := rfl
@[simp] theorem vFlag_length (b : Bool) : (vFlag b).length = 1 := rfl
@[simp] theorem be16_length (n : Nat) : (be16 n).length = 2 := rfl
@[simp] theorem be32_length (n : Nat) : (be32 n).length = 4 := rfl
@[simp] theorem beInt16_length (i : Int) : (beInt16 i).length = 2 := rfl
@[simp] theorem v1o_length (x : Option Nat) : (v1o x).length = 1 := by cases x <;> rfl
@[simp] theorem v4o_length (x : Option Nat) : (v4o x).length = 4 := by cases x <;> rfl
@[simp] theorem vTemp_length (x : Option Int) : (vTemp x).length = 2 := by cases x <;> rfl

/-! ## Parts of a view -/

theorem State.zoneView_length (s : State) (z : Zone) : (s.zoneView z).length = 28 := by
  simp [State.zoneView]

theorem replyView_eq (x : Option DriveReply) :
    replyView x = v1o (x.map fun r => r.state.code) ++ v2o (x.map (·.units)) ++ v1o (x.map (·.code)) := by
  cases x <;> rfl

theorem lastFaultView_eq (x : Option (DriveFaultCause × Nat)) :
    lastFaultView x = v1o (x.map fun y => y.1.code) ++ v1o (x.map (·.2)) := by
  cases x <;> rfl

theorem measurementView_eq (x : Option (Nat × Measurement)) :
    measurementView x = v1o (x.map (·.1)) ++ v4o (x.map fun m => m.2.elapsed) ++ v1o (x.map fun m => m.2.cause.code) := by
  cases x <;> rfl

theorem outcomeView_eq (now : Nat) (x : Option (Nat × ProgramOutcome × Nat)) :
    outcomeView now x = v1o (x.map (·.1)) ++ v1o (x.map fun o => o.2.1.code) ++ v4o (x.map fun o => now - o.2.2) := by
  cases x <;> rfl

theorem State.managerStateView_eq (s : State) : s.managerStateView
    = if s.mgr.state = .due then
        be32 (s.now - s.mgr.dueMoment.getD s.now) ++ be32 (s.mgr.deferralEnd.getD 0 - s.now)
        ++ be32 ((s.mgr.waitStart.map fun w => w + 1800 - s.now).getD 0) ++ vFlag s.mgr.releaseAsked
      else if s.mgr.state = .running ∨ s.mgr.state = .exiting then v1o s.mgr.step ++ v4o s.mgr.stepTimer
      else if s.mgr.state = .holdoff then be32 (s.mgr.holdoffEnd.getD 0 - s.now)
      else [] := by
  unfold State.managerStateView
  cases s.mgr.state <;> simp

theorem StoreRecord.saveCode_eq (r : StoreRecord) :
    r.saveCode = (r.job.map fun j => if j.kind = .settings then 1 else 2).getD 0 := by
  unfold StoreRecord.saveCode
  cases r.job with
  | none => rfl
  | some j => cases h : j.kind <;> simp [h]

theorem flagBits_panel (m : PerZone Bool) : flagBits m.toList
    = (if m.fresh then 1 else 0) + (if m.flex then 2 else 0) + (if m.freezer then 4 else 0) + (if m.ice then 8 else 0) := by
  obtain ⟨a, b, c, d⟩ := m
  cases a <;> cases b <;> cases c <;> cases d <;> rfl

/-! ## Transactions on Port A and Port B (R151) -/

theorem Response.bytes_length (r : Response) : r.bytes.length = r.data.length + 5 := by
  simp [Response.bytes]
  omega

/-- The data stands behind the status, the echoed code and the length. -/
theorem Response.bytes_data (r : Response) {k : Nat} (h : k < r.data.length) : r.bytes[4 + k]? = r.data[k]? := by
  have hd : r.bytes = [byte r.status.code, r.echo] ++ be16 r.data.length ++ (r.data ++ [crc8 ([byte r.status.code, r.echo]
      ++ be16 r.data.length ++ r.data)]) := by simp [Response.bytes]
  rw [hd, List.getElem?_append_right (by simp)]
  simp [List.getElem?_append_left h]

theorem State.readByte_of_lt (s : State) (x : I2cPort) {k : Nat} (h : k < (s.answer x.port).bytes.length) :
    (s.answer x.port).bytes[k]? = some (s.readByte x k) := by
  have hr : s.readByte x k = (s.answer x.port).bytes.getD k 0xFF := rfl
  rw [hr, List.getD_eq_getElem?_getD, List.getElem?_eq_getElem h]
  rfl

theorem State.readByte_of_ge (s : State) (x : I2cPort) {k : Nat} (h : (s.answer x.port).bytes.length ≤ k) :
    s.readByte x k = 0xFF := List.getD_eq_default _ _ h

/-- A write transaction counts its bytes and keeps the first 24. -/
theorem I2cReceive.foldl_take {w : List Byte} (hw : w ≠ []) : w.foldl I2cReceive.take .idle = .writing w.length (w.take 24) := by
  induction w using List.reverseRecOn with
  | nil => exact absurd rfl hw
  | append_singleton l b ih =>
    rw [List.foldl_append, List.foldl_cons, List.foldl_nil]
    by_cases hl : l = []
    · subst hl; rfl
    · rw [ih hl, I2cReceive.take, List.length_append, List.length_singleton]
      congr 1
      by_cases h : l.length < 24
      · rw [if_pos (by simpa using h), List.take_of_length_le h.le, List.take_of_length_le (by simpa using h)]
      · rw [if_neg (by simpa using h), List.take_append_of_le_length (by omega)]

theorem port_ne_s (x : I2cPort) : x.port ≠ .s := by cases x <;> nofun

/-- A zone's view stands in the response that GET_ZONE leaves at its port. -/
theorem exec_getZone_answer {s : State} {e : Ending} {p : Port} {f : Frame} {q : Ports} {z : Zone} (hp : p ≠ .s)
    (h : Admitted s e .getZone p f q) (hz : f.zone = some z) :
    ∃ t, exec (.getZone e) s = .next t ∧ (t.answer p).data = s.zoneView z := by
  have hr := State.request_admitted h (mine := fun f => f.names .getZone) h.names ruleGetZone
  have hrule : ruleGetZone { s with ports := q } p f = { state := { s with ports := q }, status := .ok, data := s.zoneView z } := by
    simp only [ruleGetZone, hz]
    rfl
  rw [hrule] at hr
  refine ⟨_, (congrArg s.finish hr).trans (State.finish_same rfl rfl), ?_⟩
  show ((q.respond p _).responses.get p).data = _
  unfold Ports.respond
  rw [if_neg hp, PerPort.get_set_same]

/-! ## Attention lines (R166) -/

theorem EventKind.exists_bit {i : Nat} (h : i < 16) : ∃ k : EventKind, k.bit = i := by
  have hall : ∀ j : Fin 16, ∃ k ∈ [EventKind.zoneAlarm, .sensor, .doorLong, .defrostBegin, .defrostEnd, .programStep, .stepTimeout,
      .heaterLimit, .driveFault, .driveLost, .driveLockout, .fanFault, .boostEnd, .settingsChanged, .store, .serviceHoldEnd],
      k.bit = j.val := by decide
  obtain ⟨k, -, hk⟩ := hall ⟨i, h⟩
  exact ⟨k, hk⟩

/-- A set that is not empty holds one of the sixteen kinds. -/
theorem word_ne_zero_iff (w : Word16) : w ≠ 0 ↔ ∃ k, holdsKind w k = true := by
  constructor
  · intro h
    by_contra hno
    refine h (BitVec.eq_of_getLsbD_eq fun i hi => ?_)
    obtain ⟨k, rfl⟩ := EventKind.exists_bit hi
    have hk : holdsKind w k = false := by simpa using fun hk => hno ⟨k, hk⟩
    exact hk.trans (by simp)
  · rintro ⟨k, hk⟩ rfl
    simp [holdsKind] at hk

theorem holdsKind_and (v w : Word16) (k : EventKind) : holdsKind (v &&& w) k = (holdsKind v k && holdsKind w k) :=
  BitVec.getLsbD_and

theorem holdsKind_not (w : Word16) (k : EventKind) : holdsKind (~~~w) k = !holdsKind w k := by
  simp [holdsKind, k.bit_lt]

theorem State.attn_iff (s : State) (x : I2cPort) : s.attn x = true
    ↔ ∃ k, holdsKind (s.events.get x.port).set k = true ∧ holdsKind (s.events.get x.port).mask k = true := by
  unfold State.attn
  rw [decide_eq_true_iff, word_ne_zero_iff]
  simp only [holdsKind_and, Bool.and_eq_true]

theorem State.attn_congr {s t : State} {x : I2cPort} (h : t.events.get x.port = s.events.get x.port) : t.attn x = s.attn x := by
  unfold State.attn
  rw [h]

theorem State.raise_mask (s : State) (k : EventKind) (p : Port) : ((s.raise k).events.get p).mask = (s.events.get p).mask := by
  simp [State.raise, EventRecord.add]

/-- A raise asserts the line of a port whose mask holds the kind. -/
theorem State.raise_attn (s : State) (k : EventKind) (x : I2cPort) :
    (s.raise k).attn x = (s.attn x || holdsKind (s.events.get x.port).mask k) := by
  rw [Bool.eq_iff_iff, Bool.or_eq_true, State.attn_iff, State.attn_iff, State.raise_mask]
  simp only [State.raise_holds, Bool.or_eq_true, decide_eq_true_eq]
  constructor
  · rintro ⟨j, hj | rfl, hm⟩
    · exact .inl ⟨j, hj, hm⟩
    · exact .inr hm
  · rintro (⟨j, hj, hm⟩ | hm)
    · exact ⟨j, .inl hj, hm⟩
    · exact ⟨k, .inr rfl, hm⟩

theorem State.raiseSettingsChanged_get (s : State) (p q : Port) : (s.raiseSettingsChanged p).events.get q
    = if q = p then s.events.get q else (s.raise .settingsChanged).events.get q := by
  unfold State.raiseSettingsChanged
  by_cases h : q = p
  · subst h; simp
  · simp [h, State.raise]

theorem State.raiseSettingsChanged_attn (s : State) (p : Port) (x : I2cPort) : (s.raiseSettingsChanged p).attn x
    = (s.attn x || (decide (x.port ≠ p) && holdsKind (s.events.get x.port).mask .settingsChanged)) := by
  by_cases h : x.port = p
  · rw [State.attn_congr (s := s) (by rw [State.raiseSettingsChanged_get, if_pos h])]
    simp [h]
  · rw [State.attn_congr (s := s.raise .settingsChanged) (by rw [State.raiseSettingsChanged_get, if_neg h]), State.raise_attn]
    simp [h]

/-- After an acknowledgement the line follows the kinds that it leaves. -/
theorem State.acknowledge_attn (s : State) (x : I2cPort) (w : Word16) : (s.acknowledge x.port w).attn x = true
    ↔ ∃ k, holdsKind (s.events.get x.port).set k = true ∧ holdsKind w k = false
      ∧ holdsKind (s.events.get x.port).mask k = true := by
  rw [State.attn_iff]
  simp [State.acknowledge, holdsKind_and, holdsKind_not, and_assoc]

theorem State.setMask_attn (s : State) (x : I2cPort) (w : Word16) : (s.setMask x.port w).attn x = true
    ↔ ∃ k, holdsKind (s.events.get x.port).set k = true ∧ holdsKind w k = true := by
  rw [State.attn_iff]
  simp [State.setMask]

/-- Another port's acknowledgement or mask leaves a line as it is. -/
theorem State.attn_other (s : State) {x : I2cPort} {p : Port} (w : Word16) (h : p ≠ x.port) :
    (s.acknowledge p w).attn x = s.attn x ∧ (s.setMask p w).attn x = s.attn x :=
  ⟨State.attn_congr (PerPort.get_set_other _ h.symm _), State.attn_congr (PerPort.get_set_other _ h.symm _)⟩

end Sys2Proof.Machine

namespace Sys2Proof

open Sys2Proof.Machine

/-- Settles O42: the views are their fields in order, a read returns the response, a line is what set and mask share. -/
theorem viewsAndLinesShowTheState : Obligations.ViewsAndLinesShowTheState := by
  refine ⟨?_, ?_, ?_, ?_, ?_⟩
  · refine ⟨fun n => ⟨rfl, rfl, rfl, rfl, rfl, be32_eq n⟩, rfl, rfl, rfl, rfl, rfl, rfl, fun t => rfl, rfl, rfl, rfl, rfl, rfl, rfl, rfl,
      rfl, rfl, rfl, rfl, rfl, rfl, rfl, rfl, rfl, rfl, rfl, rfl, rfl, rfl, rfl, rfl, rfl, rfl, fun d n => rfl⟩
  · intro s entries path
    refine ⟨fun z => ⟨?_, s.zoneView_length z⟩, fun c => rfl, fun d => ?_, ?_, ?_⟩
    · simp only [State.zoneView, ZoneRecord.reported, ZoneRecord.doorOpen, seconds_eq]
    · simp only [DoorRecord.view, DoorRecord.isOpen, DoorRecord.openTimer, seconds_eq]
    · simp only [State.arbiterView, entryList, PathRecord.view, entries, path]
    · unfold State.cycleView
      rw [replyView_eq, lastFaultView_eq]
      simp only [List.append_assoc]
  · intro s fan damper h x
    refine ⟨?_, ?_, fun r => ?_, ?_⟩
    · simp only [State.actuatorView, heaterView, FanRecord.view, DamperRecord.view, State.serviceHold, fan, damper, h, x,
        Option.isSome_none, List.append_assoc]
      cases s.act.forced
      case none => rfl
      case some g => simp only [Forced.view, Option.map_some, Option.getD_some, Option.isSome_some, List.append_assoc]
    · simp only [State.managerView, State.managerStateView_eq, measurementView_eq, outcomeView_eq, List.append_assoc]
    · simp only [StoreRecord.view, StoreRecord.saveCode_eq]
    · simp only [State.systemView, panelByte, flagBits_panel]
      rfl
  · refine ⟨fun s x k => ⟨s.readByte_of_lt x, s.readByte_of_ge x, Response.bytes_length _⟩, fun s x n k a => ⟨fun ha => if_neg ha, ?_⟩,
      fun x a w => ⟨rfl, rfl, fun ha => ⟨?_, if_neg ha⟩⟩, fun w hw => I2cReceive.foldl_take hw, ?_⟩
    · exact ⟨_, rfl, by simp, fun hk => by simp [hk]⟩
    · simp only [acknowledges, targetAddress, ha, decide_false]
    · intro s e x f q z k ha hz hk
      obtain ⟨t, ht, hd⟩ := exec_getZone_answer (port_ne_s x) ha hz
      refine ⟨t, ht, ?_⟩
      have hlen : k < (t.answer x.port).data.length := by rw [hd, State.zoneView_length]; exact hk
      rw [← hd, ← Response.bytes_data _ hlen]
      exact t.readByte_of_lt x (by rw [Response.bytes_length]; omega)
  · intro s x r
    exact ⟨s.attn_iff x, fun k => s.raise_attn k x, fun p => s.raiseSettingsChanged_attn p x, s.acknowledge_attn x, s.setMask_attn x,
      fun p w h => s.attn_other w h, by cases x <;> decide⟩

end Sys2Proof
end

section
/-!
The writes of the conversion table, the presets and the ladders (R6, R19, R22, R43): how an admitted request is answered, and what an
accepted write leaves of the zones, the settings and the tables.
-/
namespace Sys2Proof.Machine

/-! ## The answer of an admitted WRITE_TABLE -/

/-- What WRITE_TABLE's responses leave: a state, and a status with no data (R160). -/
def State.answerWrite (s : State) (p : Port) (st : Status) : State :=
  State.settle (State.respond s p { status := st, echo := 0x30, data := [] })

theorem State.answerWrite_zones (s : State) (p : Port) (st : Status) : (s.answerWrite p st).zones = s.zones := rfl
theorem State.answerWrite_store (s : State) (p : Port) (st : Status) : (s.answerWrite p st).store = s.store := rfl
theorem State.answerWrite_events (s : State) (p : Port) (st : Status) : (s.answerWrite p st).events = s.events := rfl

theorem Frame.echo_writeTable {f : Frame} (h : f.command = some .writeTable) : f.echo = 0x30 := by
  unfold Frame.command at h
  unfold Frame.echo
  split at h
  · cases h
  · rename_i b hb
    rw [hb]
    have hn : b.toNat = 0x30 := by
      unfold Command.ofCode at h
      split at h <;> first | assumption | cases h
    exact BitVec.eq_of_toNat_eq hn

/-- An admitted write is answered by its rule; where the rule has no data and moves nothing of the cycle, the outputs follow at
once. -/
theorem finish_write {s : State} {e : Ending} {p : Port} {f : Frame} {q : Ports} (h : Admitted s e .writeTable p f q)
    {mine : Frame → Bool} (hm : mine f = true) {rule : State → Port → Frame → Answer} {a : Answer}
    (ha : rule { s with ports := q } p f = a) (hd : a.data = []) (hc : a.state.cyc = s.cyc) :
    s.finish (s.request e mine rule) = .next (a.state.answerWrite p a.status) := by
  have hr := State.request_admitted h hm rule
  rw [ha, hd, Frame.echo_writeTable h.2.2] at hr
  rw [hr]
  exact State.finish_same (congrArg CycleRecord.state hc) (congrArg CycleRecord.path hc)

theorem Frame.writes_of {s : State} {e : Ending} {p : Port} {f : Frame} {q : Ports} (h : Admitted s e .writeTable p f q)
    {k : TableKind} (hk : f.tableKind = some k) : f.writes k = true := by
  simp [Frame.writes, h.names, hk]

/-! ## Points (R6) -/

/-- A point is accepted where it lies in its domain and between its neighbours. -/
theorem pointAccepted_iff (t : List Int) (i : Nat) (v : Int) :
    ¬ (17 ≤ i ∨ pointInDomain v = false ∨ pointFits t i v = false)
      ↔ i ≤ 16 ∧ -1000 ≤ v ∧ v ≤ 1000 ∧ (i = 0 ∨ v ≤ t.getD (i - 1) 0) ∧ (i = 16 ∨ t.getD (i + 1) 0 ≤ v) := by
  have h16 : ¬ 17 ≤ i ↔ i ≤ 16 := by omega
  show _ ↔ i ≤ 16 ∧ -1000 ≤ v ∧ v ≤ 1000 ∧ (i = 0 ∨ v ≤ convPoint t (i - 1)) ∧ (i = 16 ∨ convPoint t (i + 1) ≤ v)
  simp only [not_or, Bool.not_eq_false, pointInDomain, pointFits, Bool.and_eq_true, Bool.or_eq_true, decide_eq_true_iff,
    h16, and_assoc]

/-! ## What an accepted write leaves -/

/-- Two states differ at most in the zones, the image store's record and the events: what setpoints and kept entries move. -/
def SettingsOnly (s t : State) : Prop := ∃ z r v, t = { s with zones := z, store := r, events := v }

theorem SettingsOnly.refl (s : State) : SettingsOnly s s := ⟨_, _, _, rfl⟩

theorem SettingsOnly.trans {s t u : State} (h : SettingsOnly s t) (k : SettingsOnly t u) : SettingsOnly s u := by
  obtain ⟨_, _, _, rfl⟩ := h
  obtain ⟨_, _, _, rfl⟩ := k
  exact ⟨_, _, _, rfl⟩

theorem State.storeSetpoint_settings (s : State) (p : Port) (z : Zone) (v : Int) : SettingsOnly s (s.storeSetpoint p z v) := by
  unfold State.storeSetpoint
  dsimp only
  split
  · exact ⟨_, _, _, rfl⟩
  · exact ⟨_, _, _, rfl⟩

theorem State.presetReaches_settings (s : State) (p : Port) (i : Nat) (q : Preset) (z : Zone) :
    SettingsOnly s (s.presetReaches p i q z) := by
  unfold State.presetReaches
  split
  · exact SettingsOnly.trans ⟨_, _, _, rfl⟩ ((s.keepEntries z).storeSetpoint_settings p z _)
  · exact .refl s

/-- An accepted preset write replaces the entry, and moves what setpoints and kept entries move (R19). -/
theorem State.writePreset_eq (s : State) (p : Port) (i : Nat) (q : Preset) :
    s.writePreset p i q = { s with
      zones := (s.writePreset p i q).zones, store := (s.writePreset p i q).store, events := (s.writePreset p i q).events,
      tables := { s.tables with presets := s.tables.presets.set i q } } := by
  have h : ∀ (u : State) z, SettingsOnly u (u.presetReaches p i q z) := fun u z => u.presetReaches_settings p i q z
  obtain ⟨zs, st, ev, hu⟩ := (((h s .fresh).trans (h _ .flex)).trans (h _ .freezer)).trans (h _ .ice)
  unfold State.writePreset
  dsimp only
  rw [hu]
  rfl

theorem State.writePreset_answer (s : State) (p : Port) (q : Ports) (i : Nat) (r : Preset) :
    (State.writePreset { s with ports := q } p i r).answerWrite p .ok
      = State.answerWrite { s with
          ports := q, zones := (State.writePreset { s with ports := q } p i r).zones,
          store := (State.writePreset { s with ports := q } p i r).store,
          events := (State.writePreset { s with ports := q } p i r).events,
          tables := { s.tables with presets := s.tables.presets.set i r } } p .ok := by
  conv_lhs => rw [State.writePreset_eq]

/-- Replacing the settings marks them and tells the two other ports where something changed, and nothing else (R43). -/
def MarksIf (b : Prop) (p : Port) (s t : State) : Prop :=
  (b → t.store = { s.store with dirty := true, quiet := some 30 }
      ∧ ∀ x, x ≠ p → holdsKind (t.events.get x).set .settingsChanged = true)
    ∧ (¬ b → t.store = s.store ∧ t.events = s.events)

theorem MarksIf.trans {a b : Prop} {p : Port} {s t u : State} (h : MarksIf a p s t) (k : MarksIf b p t u) :
    MarksIf (a ∨ b) p s u := by
  obtain ⟨ha, hna⟩ := h
  obtain ⟨kb, knb⟩ := k
  refine ⟨fun hab => ?_, fun hno => ?_⟩
  · by_cases hb : b
    · obtain ⟨hst, hev⟩ := kb hb
      refine ⟨?_, hev⟩
      rw [hst]
      by_cases h1 : a
      · rw [(ha h1).1]
      · rw [(hna h1).1]
    · obtain ⟨hst, hev⟩ := knb hb
      rw [hst, hev]
      exact ha (hab.resolve_right hb)
  · obtain ⟨n1, n2⟩ := not_or.mp hno
    exact ⟨(knb n2).1.trans (hna n1).1, (knb n2).2.trans (hna n1).2⟩

theorem State.settingsChanged_marks (s : State) (p : Port) :
    (s.settingsChanged p).store = { s.store with dirty := true, quiet := some 30 }
      ∧ ∀ x, x ≠ p → holdsKind ((s.settingsChanged p).events.get x).set .settingsChanged = true := by
  refine ⟨rfl, fun x hx => ?_⟩
  show holdsKind ((s.markDirty.raiseSettingsChanged p).events.get x).set .settingsChanged = true
  rw [State.raiseSettingsChanged_get, if_neg hx, State.raise_holds]
  simp

/-- A preset write changes the setpoint of a zone that names the entry and stands outside the new range (R19). -/
def State.presetMoves (s : State) (i : Nat) (q : Preset) (z : Zone) : Prop :=
  (s.zones.get z).preset = i ∧ clampInt q.minSetpoint q.maxSetpoint (s.zones.get z).setpoint ≠ (s.zones.get z).setpoint

theorem State.presetReaches_marks (s : State) (p : Port) (i : Nat) (q : Preset) (z : Zone) :
    MarksIf (s.presetMoves i q z) p s (s.presetReaches p i q z) := by
  unfold State.presetReaches State.presetMoves
  split
  · rename_i hi
    have hset : ((s.keepEntries z).zones.get z).setpoint = (s.zones.get z).setpoint := by simp [State.keepEntries, State.setZone]
    unfold State.storeSetpoint
    dsimp only
    rw [hset]
    split
    · rename_i hv
      exact ⟨fun h => absurd hv.symm h.2, fun _ => ⟨rfl, rfl⟩⟩
    · rename_i hv
      exact ⟨fun _ => State.settingsChanged_marks _ p, fun h => absurd ⟨hi, fun k => hv k.symm⟩ h⟩
  · rename_i hi
    exact ⟨fun h => absurd h.1 hi, fun _ => ⟨rfl, rfl⟩⟩

theorem State.presetMoves_other (s : State) (p : Port) (i : Nat) (q : Preset) {y z : Zone} (h : y ≠ z) :
    (s.presetReaches p i q z).presetMoves i q y ↔ s.presetMoves i q y := by
  unfold State.presetMoves
  rw [State.presetReaches_other s p i q h]

theorem Preset.setpoints_le {l : List Byte} {r : Preset} (h : Preset.read l = some r) : r.minSetpoint ≤ r.maxSetpoint := by
  obtain ⟨hlo, hhi⟩ := Preset.inDomain_range (Preset.read_inDomain h)
  exact hlo.trans hhi

theorem Zone.exists_iff {P : Zone → Prop} : (∃ z, P z) ↔ ((P .fresh ∨ P .flex) ∨ P .freezer) ∨ P .ice := by
  constructor
  · rintro ⟨z, hz⟩
    cases z
    · exact .inl (.inl (.inl hz))
    · exact .inl (.inl (.inr hz))
    · exact .inl (.inr hz)
    · exact .inr hz
  · rintro (((h | h) | h) | h) <;> exact ⟨_, h⟩

/-- A preset write marks the settings where it changes a setpoint, at whichever zone (R19, R43). -/
theorem State.writePreset_marks (s : State) (p : Port) (i : Nat) (q : Preset) :
    MarksIf (∃ z, s.presetMoves i q z) p s (s.writePreset p i q) := by
  have h : ∀ (u : State) z, MarksIf (u.presetMoves i q z) p u (u.presetReaches p i q z) := fun u z => u.presetReaches_marks p i q z
  have hall := (((h s .fresh).trans (h _ .flex)).trans (h _ .freezer)).trans (h _ .ice)
  simp only [State.presetMoves_other, ne_eq, reduceCtorEq, not_false_eq_true, ← Zone.exists_iff] at hall
  exact hall

theorem State.maskKeepsUsers_iff (s : State) (i : Nat) (m : PerZone Bool) :
    s.maskKeepsUsers i m = true ↔ ∀ z, (s.zones.get z).preset = i → m.get z = true := by
  have hz : ∀ z : Zone, z ∈ [Zone.fresh, .flex, .freezer, .ice] := by intro z; cases z <;> simp
  simp only [State.maskKeepsUsers, List.all_eq_true, hz, forall_const, Bool.or_eq_true, decide_eq_true_eq, ne_eq, ← imp_iff_not_or]

/-! ## A ladder write (R22) -/

/-- What a ladder write leaves of a zone's record: the kept entries of a zone whose preset names the ladder. -/
def State.zoneAfterLadder (s : State) (i : Nat) (z : Zone) : ZoneRecord :=
  if (s.tablePreset z).ladder = i then { s.zones.get z with kept := some (s.presetOf z, s.ladderOf z) } else s.zones.get z

theorem State.ladderReaches_eq (s : State) (i : Nat) (z : Zone) :
    s.ladderReaches i z = s.setZone z (s.zoneAfterLadder i z) := by
  unfold State.ladderReaches State.zoneAfterLadder
  split
  · rfl
  · simp only [State.setZone]
    rw [show s.zones.set z (s.zones.get z) = s.zones by cases z <;> rfl]

theorem State.zoneAfterLadder_other (s : State) (i : Nat) (r : ZoneRecord) {y z : Zone} (h : y ≠ z) :
    (s.setZone z r).zoneAfterLadder i y = s.zoneAfterLadder i y := by
  have hz : (s.setZone z r).zones.get y = s.zones.get y := PerZone.get_set_other _ h r
  have ht : (s.setZone z r).tables = s.tables := rfl
  have htp : (s.setZone z r).tablePreset y = s.tablePreset y := by simp only [State.tablePreset, hz, ht]
  have hp : (s.setZone z r).presetOf y = s.presetOf y := by simp only [State.presetOf, hz, htp]
  have hl : (s.setZone z r).ladderOf y = s.ladderOf y := by simp only [State.ladderOf, hz, htp, ht]
  unfold State.zoneAfterLadder
  rw [htp, hp, hl, hz]

/-- An accepted ladder write replaces the entry, and the zones that use it keep what they use. -/
theorem State.writeLadder_eq (s : State) (i : Nat) (l : Ladder) :
    s.writeLadder i l = { s with
      zones := { fresh := s.zoneAfterLadder i .fresh, flex := s.zoneAfterLadder i .flex, freezer := s.zoneAfterLadder i .freezer,
                 ice := s.zoneAfterLadder i .ice },
      tables := { s.tables with ladders := s.tables.ladders.set i l } } := by
  unfold State.writeLadder
  simp only [State.ladderReaches_eq, State.zoneAfterLadder_other, ne_eq, reduceCtorEq, not_false_eq_true]
  rfl

/-! ## The three rules, case by case -/

section rules
variable {s : State} {p : Port} {f : Frame}

theorem ruleWriteConversion_refused
    (h : 17 ≤ f.tableIndex ∨ pointInDomain (int16At (f.entry .conversion) 0) = false
      ∨ pointFits s.tables.conv f.tableIndex (int16At (f.entry .conversion) 0) = false) :
    ruleWriteConversion s p f = .refuse s .badArgument := if_pos h

theorem ruleWriteConversion_accepted
    (h : ¬ (17 ≤ f.tableIndex ∨ pointInDomain (int16At (f.entry .conversion) 0) = false
      ∨ pointFits s.tables.conv f.tableIndex (int16At (f.entry .conversion) 0) = false)) :
    ruleWriteConversion s p f = .ok (s.setTables { s.tables with
      conv := s.tables.conv.set f.tableIndex (int16At (f.entry .conversion) 0) }) := if_neg h

theorem ruleWritePreset_refused (h : ∀ r, Preset.read (f.entry .preset) = some r →
      16 ≤ f.tableIndex ∨ ∃ z, (s.zones.get z).preset = f.tableIndex ∧ r.mask.get z = false) :
    ruleWritePreset s p f = .refuse s .badArgument := by
  unfold ruleWritePreset
  dsimp only
  split
  · rfl
  · rename_i r hr
    refine if_pos ((h r hr).imp_right ?_)
    rintro ⟨z, hz, hm⟩
    rw [← Bool.not_eq_true, State.maskKeepsUsers_iff]
    intro hall
    rw [hall z hz] at hm
    cases hm

theorem ruleWritePreset_accepted {r : Preset} (hr : Preset.read (f.entry .preset) = some r) (hi : f.tableIndex < 16)
    (hm : ∀ z, (s.zones.get z).preset = f.tableIndex → r.mask.get z = true) :
    ruleWritePreset s p f = .ok (s.writePreset p f.tableIndex r) := by
  have hk := (s.maskKeepsUsers_iff f.tableIndex r.mask).mpr hm
  unfold ruleWritePreset
  rw [hr]
  exact if_neg (by simp [hk, hi])

theorem ruleWriteLadder_refused (h : Ladder.read (f.entry .ladder) = none ∨ 12 ≤ f.tableIndex) :
    ruleWriteLadder s p f = .refuse s .badArgument := by
  unfold ruleWriteLadder
  dsimp only
  split
  · rfl
  · rename_i l hl
    exact if_pos (h.resolve_left (by rw [hl]; nofun))

theorem ruleWriteLadder_accepted {l : Ladder} (hl : Ladder.read (f.entry .ladder) = some l) (hi : f.tableIndex < 12) :
    ruleWriteLadder s p f = .ok (s.writeLadder f.tableIndex l) := by
  unfold ruleWriteLadder
  rw [hl]
  exact if_neg (Nat.not_le.mpr hi)

end rules

end Sys2Proof.Machine

namespace Sys2Proof

open Sys2Proof.Machine

/-- Settles O49: each write is refused by its checks, and an accepted one reaches the zones that use the entry. -/
theorem sensorAndZoneTableWrites : Obligations.SensorAndZoneTableWrites := by
  intro s e p f q h i answered
  refine ⟨?_, ?_, ?_⟩
  · intro hk v fits
    have hw := Frame.writes_of h (k := .conversion) (congrArg TableKind.ofCode hk)
    have hiff := pointAccepted_iff s.tables.conv i v
    refine ⟨fun hfits => ?_, fun hno => ?_⟩
    · exact finish_write h hw (ruleWriteConversion_accepted (hiff.mpr hfits)) rfl rfl
    · exact finish_write h hw (ruleWriteConversion_refused (not_not.mp fun k => hno (hiff.mp k))) rfl rfl
  · intro hk
    have hw := Frame.writes_of h (k := .preset) (congrArg TableKind.ofCode hk)
    refine ⟨fun hbad => ?_, fun r hr hi => ⟨fun hmask => ?_, ?_⟩⟩
    · refine finish_write h hw (ruleWritePreset_refused fun r hr => .inl (hbad.resolve_left ?_)) rfl rfl
      rw [show Preset.read (areaAt f.bytes 3 16) = some r from hr]
      nofun
    · refine finish_write h hw (ruleWritePreset_refused fun r' hr' => .inr ?_) rfl rfl
      obtain rfl : r = r' := Option.some.inj (hr.symm.trans hr')
      exact hmask
    · intro hmask put moved
      have hput : ∀ z, clampInt r.minSetpoint r.maxSetpoint (s.zones.get z).setpoint = put z := fun z =>
        clampInt_eq (Preset.setpoints_le hr) _
      have hexec : exec (.writeTablePreset e) s = .next ((State.writePreset { s with ports := q } p i r).answerWrite p .ok) :=
        finish_write h hw (ruleWritePreset_accepted hr hi hmask) rfl (by
          show (State.writePreset { s with ports := q } p i r).cyc = s.cyc
          rw [State.writePreset_eq])
      have hzone := State.writePreset_zone { s with ports := q } p i r
      have hmarks := State.writePreset_marks { s with ports := q } p i r
      have hmoved : (∃ z, State.presetMoves { s with ports := q } i r z) ↔ moved := by
        simp only [State.presetMoves, hput, moved]
      rw [hmoved] at hmarks
      refine ⟨_, hexec, fun z hz => ?_, fun z hz => ?_, fun hm => ?_, fun hm => ?_, ?_⟩
      · rw [State.answerWrite_zones, hzone, State.zoneAfterPreset, if_pos hz, ← hput]
        rfl
      · rw [State.answerWrite_zones, hzone, State.zoneAfterPreset, if_neg hz]
      · rw [State.answerWrite_store, State.answerWrite_events]
        exact hmarks.1 hm
      · rw [State.answerWrite_store, State.answerWrite_events]
        exact hmarks.2 hm
      · rw [State.answerWrite_zones, State.answerWrite_store, State.answerWrite_events, State.writePreset_answer]
        rfl
  · intro hk
    have hw := Frame.writes_of h (k := .ladder) (congrArg TableKind.ofCode hk)
    refine ⟨fun hbad => finish_write h hw (ruleWriteLadder_refused hbad) rfl rfl, fun l hl hi => ?_⟩
    have hrule := (ruleWriteLadder_accepted (s := { s with ports := q }) (p := p) hl hi).trans
      (congrArg Answer.ok (State.writeLadder_eq _ _ _))
    refine ⟨_, finish_write h hw hrule rfl rfl, fun z hz => ?_, fun z hz => ?_, rfl⟩
    · cases z <;> exact if_pos hz
    · cases z <;> exact if_neg hz

end Sys2Proof
end

section
/-!
SUPPORT. The calls that the arbiter holds: the zones of its entries with their levels, over the turn queue and the served set. The
operations of the arbiter, the cycle controller and the manager move entries between the two and write their times, and so permute
the calls; joins, leaves and level updates alone change them (R59, R61 to R63).
-/
namespace Sys2Proof.Machine

/-! ## The calls of the arbiter -/

/-- The zone and level of an entry. -/
def Entry.call (e : Entry) : Zone × CallLevel := (e.zone, e.level)

/-- The calls of the arbiter: the zones and levels of its entries, the queue's first. -/
def Arbiter.calls (a : Arbiter) : List (Zone × CallLevel) := (a.queue ++ a.served).map Entry.call

theorem Arbiter.levelsOf_eq (a : Arbiter) (z : Zone) :
    a.levelsOf z = (a.calls.filter fun c => decide (c.1 = z)).map (·.2) := by
  unfold Arbiter.levelsOf Arbiter.calls
  rw [List.filter_map, List.map_map]
  rfl

/-- Two states whose arbiters hold the same calls, each as often. -/
def SameCalls (s t : State) : Prop := t.arb.calls.Perm s.arb.calls

theorem SameCalls.refl (s : State) : SameCalls s s := List.Perm.refl _

theorem SameCalls.trans {s t u : State} (h : SameCalls s t) (k : SameCalls t u) : SameCalls s u := List.Perm.trans k h

theorem SameCalls.of_arb {s t : State} (h : t.arb = s.arb) : SameCalls s t := by
  unfold SameCalls
  rw [h]

theorem SameCalls.ite {s t u : State} (b : Prop) [Decidable b] (h : SameCalls s t) (k : SameCalls s u) :
    SameCalls s (if b then t else u) := by
  split
  · exact h
  · exact k

/-- An arbiter with the same entries: its paths and its turn record may differ. -/
theorem SameCalls.entries {s t : State} (hq : t.arb.queue = s.arb.queue) (hs : t.arb.served = s.arb.served) : SameCalls s t := by
  unfold SameCalls Arbiter.calls
  rw [hq, hs]

theorem SameCalls.levels {s t : State} (h : SameCalls s t) (z : Zone) : (t.arb.levelsOf z).Perm (s.arb.levelsOf z) := by
  rw [Arbiter.levelsOf_eq, Arbiter.levelsOf_eq]
  exact (List.Perm.filter _ h).map _

/-- A zone that calls once or not at all has the same levels in every order of the calls. -/
theorem SameCalls.levelsOf_eq {s t : State} (h : SameCalls s t) {z : Zone} {d : Demand} (hs : s.arb.levelsOf z = d.levels) :
    t.arb.levelsOf z = d.levels := by
  have hp := h.levels z
  rw [hs] at hp
  cases d with
  | idle => exact List.Perm.eq_nil hp
  | calling l => exact List.perm_singleton.mp hp

theorem map_call_time (l : List Entry) (n : Nat) : (l.map fun e => { e with time := n }).map Entry.call = l.map Entry.call := by
  rw [List.map_map]
  rfl

theorem Arbiter.select_calls (a : Arbiter) (p : Path) (n : Nat) : (a.select p n).calls.Perm a.calls := by
  unfold Arbiter.calls Arbiter.select
  dsimp only
  simp only [List.map_append, map_call_time]
  have hq : ((a.queue.filter fun e => e.pathSet.contains p).map Entry.call
      ++ (a.queue.filter fun e => !e.pathSet.contains p).map Entry.call).Perm (a.queue.map Entry.call) := by
    rw [← List.map_append]
    exact (List.filter_append_perm _ _).map _
  refine (List.perm_append_comm.trans ?_)
  rw [List.append_assoc]
  exact (hq.append_left _).trans List.perm_append_comm

theorem Arbiter.servedToFront_calls (a : Arbiter) (n : Nat) : (a.servedToFront n).calls.Perm a.calls := by
  unfold Arbiter.calls Arbiter.servedToFront
  simp only [List.map_append, map_call_time, List.append_nil]
  exact List.perm_append_comm

theorem Arbiter.servedToBack_calls (a : Arbiter) (n : Nat) : (a.servedToBack n).calls = a.calls := by
  unfold Arbiter.calls Arbiter.servedToBack
  simp only [List.map_append, map_call_time, List.append_nil]

/-! ## The cycle controller's orders leave the arbiter -/

theorem State.leaveRunning_arb (s : State) : s.leaveRunning.arb = s.arb := by
  unfold State.leaveRunning; split <;> rfl

theorem State.stopOrder_arb (s : State) : s.stopOrder.arb = s.arb := by
  unfold State.stopOrder; split
  · rfl
  · exact s.leaveRunning_arb

theorem State.enterOff_arb (s : State) : s.enterOff.arb = s.arb := s.leaveRunning_arb

theorem State.startOrder_arb (s : State) (p : Path) : (s.startOrder p).arb = s.arb := by
  unfold State.startOrder
  dsimp only; split <;> rfl

theorem State.transferOrder_arb (s : State) (q : Path) : (s.transferOrder q).arb = s.arb := s.leaveRunning_arb

theorem State.applyCaps_arb (s : State) : s.applyCaps.arb = s.arb := by
  unfold State.applyCaps; repeat' split
  all_goals rfl

theorem State.capLifted_arb (s : State) : s.capLifted.arb = s.arb := by
  unfold State.capLifted; repeat' split
  all_goals rfl

/-! ## The arbiter's operations -/

/-- The arbiter's entries move, and then an order that leaves the arbiter. -/
theorem SameCalls.ordered {s t : State} {a : Arbiter} (h : t.arb = a) (k : a.calls.Perm s.arb.calls) : SameCalls s t := by
  unfold SameCalls
  rw [h]
  exact k

theorem State.handStop_calls (s : State) : SameCalls s s.handStop :=
  .ordered (State.stopOrder_arb _) (List.Perm.refl _)

theorem State.handTransfer_calls (s : State) (q : Path) : SameCalls s (s.handTransfer q) :=
  .ordered (State.transferOrder_arb _ q) (Arbiter.select_calls _ q _)

theorem State.startCheck_calls (s : State) : SameCalls s s.startCheck := by
  unfold State.startCheck; split
  · dsimp only; split
    · exact .refl s
    · exact .ordered (State.startOrder_arb _ _) (Arbiter.select_calls _ _ _)
  · exact .refl s

theorem State.candidateCheck_calls (s : State) : SameCalls s s.candidateCheck := by
  unfold State.candidateCheck; split
  · split
    · exact .refl s
    · refine SameCalls.ite _ (s.handTransfer_calls _) (SameCalls.ite _ ?_ (.refl s))
      exact SameCalls.trans (.ordered rfl (.of_eq (s.arb.servedToBack_calls s.now))) (State.handTransfer_calls _ _)
  · exact .refl s

theorem State.arbiterCheck_calls (s : State) : SameCalls s s.arbiterCheck :=
  SameCalls.ite _ s.startCheck_calls s.candidateCheck_calls

theorem State.servedEmptied_calls (s : State) : SameCalls s s.servedEmptied := by
  unfold State.servedEmptied; split
  · exact s.handTransfer_calls _
  · exact SameCalls.ite _ s.handStop_calls (.entries rfl rfl)

theorem State.reportRunning_calls (s : State) : SameCalls s s.reportRunning :=
  SameCalls.ite _ s.servedEmptied_calls (.refl s)

theorem State.reportOff_calls (s : State) : SameCalls s s.reportOff :=
  SameCalls.trans (.entries rfl rfl) (State.startCheck_calls _)

theorem SameCalls.servedToFront (s : State) : SameCalls s { s with arb := s.arb.servedToFront s.now } :=
  .ordered rfl (s.arb.servedToFront_calls _)

theorem State.giveUp_calls (s : State) : SameCalls s s.giveUp := by
  have h := SameCalls.servedToFront s
  unfold State.giveUp
  refine SameCalls.ite _ ?_ (h.trans (State.handStop_calls _))
  split
  · exact h.trans (State.handTransfer_calls _ _)
  · exact h.trans (State.handStop_calls _)

theorem State.release_calls (s : State) (p : Path) : SameCalls s (s.release p) := SameCalls.ite _ s.giveUp_calls (.refl s)

theorem State.pathFault_calls (s : State) (p : Path) : SameCalls s (s.pathFault p) :=
  SameCalls.ite _ (SameCalls.trans (.entries rfl rfl) (State.giveUp_calls _)) (.entries rfl rfl)

theorem State.faultTimerOut_calls (s : State) (p : Path) : SameCalls s (s.faultTimerOut p) :=
  SameCalls.trans (.entries rfl rfl) (State.arbiterCheck_calls _)

theorem State.unblock_calls (s : State) (p : Path) : SameCalls s (s.unblock p) :=
  SameCalls.trans (.entries rfl rfl) (State.arbiterCheck_calls _)

theorem State.endCompressorHold_calls (s : State) : SameCalls s s.endCompressorHold :=
  SameCalls.trans (.entries rfl rfl) (State.startCheck_calls _)

theorem State.reportFailure_calls (s : State) : SameCalls s s.reportFailure := .ordered rfl (s.arb.servedToFront_calls s.now)

theorem State.compressorLost_calls (s : State) : SameCalls s s.compressorLost := by
  have h : SameCalls s s.markStopped.enterOff := .of_arb (State.enterOff_arb _)
  unfold State.compressorLost
  split
  · exact .refl s
  · exact h.trans (State.reportOff_calls _)
  all_goals exact h.trans (State.reportFailure_calls _)

theorem State.arbiterHoldEntry_calls (s : State) : SameCalls s s.arbiterHoldEntry :=
  SameCalls.ite _ ((SameCalls.servedToFront s).trans (State.handStop_calls _)) (.refl s)

theorem State.stopped_calls (s : State) : SameCalls s s.stopped :=
  SameCalls.trans (t := s.markStopped.enterOff) (.of_arb (State.enterOff_arb _)) (State.reportOff_calls _)

theorem State.completeTransfer_calls (s : State) : SameCalls s s.completeTransfer :=
  SameCalls.trans (t := s.enterRunningFromTransfer) (.of_arb rfl) (State.reportRunning_calls _)

theorem State.turnReport_calls (s : State) : SameCalls s s.turnReport :=
  SameCalls.trans (.entries rfl rfl) (State.candidateCheck_calls _)

theorem State.onTimeReport_calls (s : State) : SameCalls s s.onTimeReport :=
  SameCalls.ite _ (SameCalls.trans (.of_arb rfl) (State.handStop_calls _)) (.of_arb rfl)

theorem State.valveReport_calls (s : State) (p : Path) : SameCalls s (s.valveReport p) :=
  SameCalls.ite _ (.of_arb rfl) (SameCalls.ite _ s.completeTransfer_calls (.refl s))

theorem State.cycleReply_calls (s : State) (r : DriveReply) : SameCalls s (s.cycleReply r) :=
  SameCalls.ite _ (SameCalls.trans (t := s.enterRunningFromStart) (.of_arb rfl) (State.reportRunning_calls _))
    (SameCalls.ite _ s.stopped_calls (.refl s))

/-! ## The defrost manager's operations -/

theorem State.beginProgram_calls (s : State) (g : Program) : SameCalls s (s.beginProgram g) := by
  unfold State.beginProgram
  extract_lets m s1 s2 a s3 s4
  have h3 : SameCalls s s3 := SameCalls.ite _ (.entries rfl rfl) (.entries rfl rfl)
  have h4 : SameCalls s3 s4 := by unfold s4; split <;> exact .of_arb rfl
  exact (h3.trans h4).trans (.of_arb rfl)

theorem State.beginTest_calls (s : State) : SameCalls s s.beginTest := by
  unfold State.beginTest; split
  · exact SameCalls.ite _ (s.beginProgram_calls _) (.refl s)
  · exact .refl s

theorem State.askRelease_calls (s : State) (p : Path) : SameCalls s (s.askRelease p) :=
  SameCalls.trans (.of_arb rfl) (State.release_calls _ p)

theorem State.managerReact_calls (s : State) : SameCalls s s.managerReact := by
  unfold State.managerReact; split
  · exact SameCalls.ite _ ((s.askRelease_calls _).trans (State.beginTest_calls _)) s.beginTest_calls
  · exact .refl s

theorem State.handOver_calls (s t : State) : SameCalls t (State.handOver s t) :=
  SameCalls.ite _ t.managerReact_calls (.refl t)

theorem State.beginWait_calls (s : State) (n : Nat) : SameCalls s (s.beginWait n) :=
  SameCalls.trans (.of_arb rfl) (State.managerReact_calls _)

theorem State.dueTest_calls (s : State) : SameCalls s s.dueTest := by
  have h : SameCalls s s.enterDue := SameCalls.ite _ (.of_arb rfl) (SameCalls.trans (.of_arb rfl) (State.beginWait_calls _ _))
  exact SameCalls.ite _ h (.refl s)

theorem State.credit_calls (s : State) (n : Nat) : SameCalls s (s.credit n) :=
  SameCalls.trans (.of_arb rfl) (State.dueTest_calls _)

theorem State.programEnded_calls (s : State) (g : Program) : SameCalls s (s.programEnded g) := by
  unfold State.programEnded
  extract_lets h a s1 b s2 s3
  have h2 : SameCalls s s2 := by unfold s2; split <;> exact .of_arb rfl
  have h3 : SameCalls s s3 := h2.trans (s2.unblock_calls g.path)
  exact SameCalls.ite _ (h3.trans (State.endCompressorHold_calls _)) h3

theorem State.complete_calls (s : State) (g : Program) : SameCalls s (s.complete g) := by
  unfold State.complete
  extract_lets s1 s2 s3
  have h2 : SameCalls s s2 := by unfold s2; split <;> exact .of_arb rfl
  have h3 : SameCalls s s3 := (h2.trans (s2.programEnded_calls g)).trans (.of_arb rfl)
  exact SameCalls.trans (h3.trans (.of_arb rfl)) (State.dueTest_calls _)

theorem State.exitEnded_calls (s : State) (g : Program) : SameCalls s (s.exitEnded g) :=
  SameCalls.trans (t := s.recordOutcome .aborted) (.of_arb rfl) ((State.programEnded_calls _ g).trans (.of_arb rfl))

theorem State.cancelManager_calls (s : State) : SameCalls s s.cancelManager := by
  unfold State.cancelManager
  dsimp only; split
  · exact SameCalls.trans (t := s.recordOutcome .cancelled) (.of_arb rfl) ((State.programEnded_calls _ _).trans (.of_arb rfl))
  · exact .of_arb rfl

theorem State.noteStepEnd_arb (s : State) (st : Step) (c : EndCause) : (s.noteStepEnd st c).arb = s.arb := by
  unfold State.noteStepEnd
  dsimp only
  repeat' split
  all_goals rfl

theorem State.endStep_calls (s : State) (g : Program) (st : Step) (c : EndCause) : SameCalls s (s.endStep g st c) := by
  have h : SameCalls s (s.noteStepEnd st c) := .of_arb (s.noteStepEnd_arb st c)
  unfold State.endStep
  refine SameCalls.ite _ (h.trans (.of_arb rfl)) (SameCalls.ite _ (SameCalls.ite _ ?_ ?_) (h.trans (.of_arb rfl)))
  · exact h.trans (State.complete_calls _ g)
  · exact h.trans (State.exitEnded_calls _ g)

theorem State.stepReport_calls (s : State) (r : Report) : SameCalls s (s.stepReport r) := by
  unfold State.stepReport; split
  · exact SameCalls.ite _ (s.endStep_calls _ _ _) (.refl s)
  · exact .refl s

theorem State.stepEnds_calls (s : State) (c : EndCause) : SameCalls s (s.stepEnds c) := by
  unfold State.stepEnds; split
  · exact s.endStep_calls _ _ _
  · exact .refl s

theorem State.heaterLimitToManager_calls (s : State) : SameCalls s s.heaterLimitToManager := by
  unfold State.heaterLimitToManager; split <;> exact .of_arb rfl

theorem State.pathWaitOver_calls (s : State) : SameCalls s s.pathWaitOver := by
  unfold State.pathWaitOver; split
  · exact (s.askRelease_calls _).trans (State.beginTest_calls _)
  · exact .refl s

theorem State.valveArrives_calls (s : State) : SameCalls s s.valveArrives := by
  unfold State.valveArrives; split
  · exact .refl s
  · refine SameCalls.trans (SameCalls.trans ?_ (State.valveReport_calls _ _)) (State.beginTest_calls _)
    exact .of_arb rfl

/-! ## Drive faults, service hold, tach readings -/

theorem State.faultEvent_calls (s : State) (c : DriveFaultCause) (n : Nat) : SameCalls s (s.faultEvent c n) := by
  have h : SameCalls s (s.driveFault c n) :=
    SameCalls.ite _ (s.compressorLost_calls.trans (.of_arb rfl)) (s.compressorLost_calls.trans (.of_arb rfl))
  exact SameCalls.ite _ (h.trans (State.managerReact_calls _)) h

theorem State.driveReply_calls (s : State) (r : DriveReply) : SameCalls s (s.driveReply r) := by
  unfold State.driveReply
  extract_lets fault t u
  have ht : SameCalls s t := .of_arb rfl
  have hu : SameCalls s u := by
    unfold u
    clear_value t fault
    cases fault
    · exact ht.trans (State.cycleReply_calls _ _)
    · exact ht.trans (State.faultEvent_calls _ _ _)
  exact SameCalls.ite _ (hu.trans u.startCheck_calls) hu

theorem State.driveMissed_calls (s : State) : SameCalls s s.driveMissed := by
  unfold State.driveMissed
  extract_lets t
  have h : SameCalls s t.driveLoss := SameCalls.trans (t := t) (.of_arb rfl) (t.compressorLost_calls.trans (.of_arb rfl))
  exact SameCalls.ite _ (SameCalls.ite _ (h.trans (State.managerReact_calls _)) h) (.of_arb rfl)

theorem State.fanFaults_calls (s : State) (f : Fan) : SameCalls s (s.fanFaults f) := by
  cases f
  · exact SameCalls.trans (t := s.raise .fanFault) (.of_arb rfl) (State.pathFault_calls _ _)
  · exact SameCalls.trans (t := s.raise .fanFault) (.of_arb rfl) (State.pathFault_calls _ _)
  · exact SameCalls.ite _ (.of_arb rfl) (.of_arb (State.applyCaps_arb _))

theorem State.fanGood_calls (s : State) (f : Fan) (x y : FanRecord) : SameCalls s (s.fanGood f x y) := by
  cases f
  · exact SameCalls.ite _ (.entries rfl rfl) (.refl s)
  · exact SameCalls.ite _ (.entries rfl rfl) (.refl s)
  · exact SameCalls.ite _ (SameCalls.ite _ (.of_arb (State.capLifted_arb _)) (.of_arb rfl)) (.refl s)

theorem State.tach_calls (s : State) (f : Fan) (rpm : Nat) : SameCalls s (s.tach f rpm) :=
  SameCalls.ite _ (SameCalls.trans (.of_arb rfl) (State.fanFaults_calls _ f))
    (SameCalls.trans (.of_arb rfl) (State.fanGood_calls _ f _ _))

theorem State.endHold_calls (s : State) : SameCalls s s.endHold := by
  have hs : SameCalls s s.discardForced.stopForced := SameCalls.ite _ (.of_arb (State.stopOrder_arb _)) (.of_arb rfl)
  have ha : ∀ u : State, SameCalls u u.afterHold := by
    intro u
    unfold State.afterHold
    extract_lets t
    have ht : SameCalls u t := .of_arb rfl
    exact SameCalls.ite _ ((ht.trans t.startCheck_calls).trans (State.dueTest_calls _))
      ((ht.trans t.dueTest_calls).trans (State.startCheck_calls _))
  exact hs.trans (ha _)

theorem State.enterHold_calls (s : State) : SameCalls s s.enterHold := by
  unfold State.enterHold
  extract_lets a s1 s2
  exact SameCalls.trans (t := s1) (.of_arb rfl)
    ((s1.arbiterHoldEntry_calls.trans (State.cancelManager_calls _)).trans (.of_arb rfl))

theorem State.forceSpeed_calls (s : State) (v : Nat) : SameCalls s (s.forceSpeed v) := by
  unfold State.forceSpeed
  exact SameCalls.ite _ (.of_arb s.stopOrder_arb) (SameCalls.ite _ (.of_arb rfl) (SameCalls.ite _ (.of_arb rfl) (.refl s)))

theorem StoreOnly.calls {s t : State} (h : StoreOnly s t) : SameCalls s t := by
  obtain ⟨_, _, _, rfl⟩ := h
  exact .of_arb rfl

end Sys2Proof.Machine
end

section
/-!
Joins, leaves and level updates against the demands of the zones, the calls over every command, and the statement that every calling
zone keeps one entry (R28, R59, R61 to R63).
-/
namespace Sys2Proof.Machine

/-! ## Joins, leaves and level updates -/

theorem State.join_calls (s : State) (z : Zone) (ps : PathSet) (l : CallLevel) :
    (s.join z ps l).arb.calls.Perm ((z, l) :: s.arb.calls) := by
  have hback : ∀ e : Entry, ((s.arb.queue ++ [e] ++ s.arb.served).map Entry.call).Perm (e.call :: s.arb.calls) := fun e => by
    simp only [Arbiter.calls, List.append_assoc, List.map_append, List.map_cons, List.map_nil]
    exact List.perm_middle
  have hserved : ∀ e : Entry, ((s.arb.queue ++ (s.arb.served ++ [e])).map Entry.call).Perm (e.call :: s.arb.calls) := fun e => by
    simp only [Arbiter.calls, ← List.append_assoc, List.map_append, List.map_cons, List.map_nil]
    exact List.perm_append_singleton _ _
  unfold State.join
  extract_lets e rides
  by_cases hr : rides = true
  · rw [if_pos hr]
    exact hserved e
  · rw [if_neg hr]
    exact List.Perm.trans (State.arbiterCheck_calls _) (hback e)

theorem withoutZone_calls (z : Zone) (l : List Entry) :
    (withoutZone z l).map Entry.call = (l.map Entry.call).filter fun c => c.1 ≠ z := by
  unfold withoutZone
  rw [List.filter_map]
  rfl

theorem State.leave_calls (s : State) (z : Zone) : (s.leave z).arb.calls.Perm (s.arb.calls.filter fun c => c.1 ≠ z) := by
  have h : ∀ q : List Entry, q = withoutZone z s.arb.queue ++ withoutZone z s.arb.served →
      q.map Entry.call = s.arb.calls.filter fun c => c.1 ≠ z := by
    rintro q rfl
    rw [List.map_append, withoutZone_calls, withoutZone_calls, Arbiter.calls, List.map_append, List.filter_append]
  unfold State.leave
  extract_lets a t
  have ht : t.arb.calls = s.arb.calls.filter fun c => c.1 ≠ z := h _ rfl
  split
  · exact ht ▸ t.servedEmptied_calls
  · exact .of_eq ht

theorem withLevel_calls (z : Zone) (m : CallLevel) (l : List Entry) :
    (withLevel z m l).map Entry.call = (l.map Entry.call).map fun c => if c.1 = z then (z, m) else c := by
  unfold withLevel
  rw [List.map_map, List.map_map]
  refine List.map_congr_left fun e _ => ?_
  by_cases h : e.zone = z <;> simp [Entry.call, h]

theorem State.levelUpdate_calls (s : State) (z : Zone) (m : CallLevel) :
    (s.levelUpdate z m).arb.calls = s.arb.calls.map fun c => if c.1 = z then (z, m) else c := by
  show (withLevel z m s.arb.queue ++ withLevel z m s.arb.served).map Entry.call = _
  rw [List.map_append, withLevel_calls, withLevel_calls, Arbiter.calls, List.map_append, List.map_append]

/-! ## The arbiter against the demands -/

/-- The arbiter holds the calls that these demands make: one entry for a calling zone, at its level, none for an idle one. -/
def Arbiter.Holds (a : Arbiter) (d : Zone → Demand) : Prop := ∀ z, a.levelsOf z = (d z).levels

theorem State.oneEntryEach_iff (s : State) : s.OneEntryEach ↔ s.arb.Holds fun z => (s.zones.get z).demand := Iff.rfl

theorem SameCalls.holds {s t : State} (h : SameCalls s t) {d : Zone → Demand} (hs : s.arb.Holds d) : t.arb.Holds d :=
  fun z => h.levelsOf_eq (hs z)

theorem Arbiter.Holds.of_perm {a : Arbiter} {l : List (Zone × CallLevel)} {d : Zone → Demand} (h : a.calls.Perm l)
    (k : ∀ z, (l.filter fun c => decide (c.1 = z)).map (·.2) = (d z).levels) : a.Holds d := by
  intro z
  have hp : (a.levelsOf z).Perm (d z).levels := by
    rw [a.levelsOf_eq, ← k z]
    exact (h.filter _).map _
  cases hd : d z with
  | idle => rw [hd] at hp; exact List.Perm.eq_nil hp
  | calling l => rw [hd] at hp; exact List.perm_singleton.mp hp

theorem Arbiter.Holds.calls_of {a : Arbiter} {d : Zone → Demand} (h : a.Holds d) (z : Zone) :
    (a.calls.filter fun c => decide (c.1 = z)).map (·.2) = (d z).levels := by
  rw [← a.levelsOf_eq]
  exact h z

theorem State.join_holds {s : State} {d : Zone → Demand} (h : s.arb.Holds d) {z : Zone} (hz : d z = .idle) (ps : PathSet)
    (l : CallLevel) : (s.join z ps l).arb.Holds (Function.update d z (.calling l)) := by
  refine .of_perm (s.join_calls z ps l) fun y => ?_
  have hy := h.calls_of y
  by_cases hyz : y = z
  · subst hyz
    rw [hz] at hy
    simp only [List.filter_cons, decide_true, if_true, List.map_cons, hy, Function.update_self, Demand.levels]
  · rw [Function.update_of_ne hyz, ← hy, List.filter_cons_of_neg (by simpa using Ne.symm hyz)]

theorem State.leave_holds {s : State} {d : Zone → Demand} (h : s.arb.Holds d) (z : Zone) :
    (s.leave z).arb.Holds (Function.update d z .idle) := by
  refine .of_perm (s.leave_calls z) fun y => ?_
  rw [List.filter_filter]
  by_cases hyz : y = z
  · subst hyz
    simp [Demand.levels]
  · rw [Function.update_of_ne hyz, ← h.calls_of y]
    congr 1
    refine List.filter_congr fun c _ => ?_
    by_cases hc : c.1 = y <;> simp [hc, hyz]

theorem State.levelUpdate_holds {s : State} {d : Zone → Demand} (h : s.arb.Holds d) {z : Zone} {l : CallLevel}
    (hz : d z = .calling l) (m : CallLevel) : (s.levelUpdate z m).arb.Holds (Function.update d z (.calling m)) := by
  refine .of_perm (.of_eq (s.levelUpdate_calls z m)) fun y => ?_
  have hsame : ∀ c : Zone × CallLevel, decide ((if c.1 = z then (z, m) else c).1 = y) = decide (c.1 = y) := by
    intro c
    by_cases hc : c.1 = z <;> simp [hc]
  have hy := h.calls_of y
  rw [List.filter_map, List.map_map]
  simp only [Function.comp_def, hsame]
  by_cases hyz : y = z
  · subst hyz
    have hlen : (s.arb.calls.filter fun c => decide (c.1 = y)).length = 1 := by
      have := congrArg List.length hy
      rwa [List.length_map, hz] at this
    obtain ⟨c, hc⟩ := List.length_eq_one_iff.mp hlen
    have hcy : c.1 = y := by
      have : c ∈ s.arb.calls.filter fun c => decide (c.1 = y) := hc ▸ List.mem_singleton_self c
      simpa using (List.mem_filter.mp this).2
    simp [hc, hcy, Demand.levels]
  · rw [Function.update_of_ne hyz, ← hy]
    refine List.map_congr_left fun c hc => ?_
    have hcy : c.1 = y := by simpa using (List.mem_filter.mp hc).2
    rw [if_neg (hcy ▸ hyz)]

/-- The arbiter follows a change of a zone's demand (R28). -/
theorem State.demandChanged_holds {s : State} {d : Zone → Demand} (h : s.arb.Holds d) (z : Zone) (after : Demand) (ps : PathSet) :
    (s.demandChanged z (d z) after ps).arb.Holds (Function.update d z after) := by
  have hkeep : after = d z → s.arb.Holds (Function.update d z after) := by
    rintro rfl
    rwa [Function.update_eq_self]
  unfold State.demandChanged
  split
  · rename_i hb
    exact hkeep hb.symm
  · rename_i hb
    exact State.join_holds h hb ps _
  · exact State.leave_holds h z
  · rename_i l m hb
    split
    · rename_i hlm
      exact hkeep (by rw [hb, hlm])
    · exact State.levelUpdate_holds h hb m

theorem State.demandEvaluated_holds {s : State} {d : Zone → Demand} (h : s.arb.Holds d) (z : Zone) (after : Demand) (ps : PathSet) :
    (s.demandEvaluated z (d z) after ps).arb.Holds (Function.update d z after) := by
  have hc := State.demandChanged_holds h z after ps
  unfold State.demandEvaluated
  split
  · rename_i l m hb
    split
    · split
      · exact hb ▸ hc
      · have hl := State.leave_holds h z
        have hj := State.join_holds hl (z := z) (Function.update_self z .idle d) ps m
        rwa [Function.update_idem] at hj
    · exact hb ▸ hc
  · exact hc

/-! ## Zones whose demand changes -/

theorem State.setZone_demands (s : State) (z : Zone) (r : ZoneRecord) :
    (fun y => ((s.setZone z r).zones.get y).demand) = Function.update (fun y => (s.zones.get y).demand) z r.demand := by
  funext y
  by_cases hy : y = z
  · subst hy; simp [State.setZone]
  · simp [State.setZone, hy]

/-- A zone's record is replaced, and the arbiter then hears of the demand it had and the demand it has. -/
theorem State.OneEntryEach.demandChanged {s u : State} (hs : s.OneEntryEach) {z : Zone} {r : ZoneRecord} (ha : u.arb = s.arb)
    (hz : u.zones = (s.setZone z r).zones) (ps : PathSet) :
    (u.demandChanged z (s.zones.get z).demand r.demand ps).OneEntryEach := by
  have hu : u.arb.Holds fun y => (s.zones.get y).demand := ha ▸ hs
  rw [State.oneEntryEach_iff, (u.demandChanged_turn _ _ _ _).zones, hz, State.setZone_demands]
  exact State.demandChanged_holds hu z r.demand ps

theorem State.OneEntryEach.demandEvaluated {s u : State} (hs : s.OneEntryEach) {z : Zone} {r : ZoneRecord} (ha : u.arb = s.arb)
    (hz : u.zones = (s.setZone z r).zones) (ps : PathSet) :
    (u.demandEvaluated z (s.zones.get z).demand r.demand ps).OneEntryEach := by
  have hu : u.arb.Holds fun y => (s.zones.get y).demand := ha ▸ hs
  rw [State.oneEntryEach_iff, (u.demandEvaluated_turn _ _ _ _).zones, hz, State.setZone_demands]
  exact State.demandEvaluated_holds hu z r.demand ps

/-- The calls and every zone's demand stand. -/
theorem State.OneEntryEach.of_same {s t : State} (hs : s.OneEntryEach) (hc : SameCalls s t)
    (hz : ∀ z, (t.zones.get z).demand = (s.zones.get z).demand) : t.OneEntryEach := by
  rw [State.oneEntryEach_iff, funext hz]
  exact hc.holds hs

theorem State.OneEntryEach.of_zones {s t : State} (hs : s.OneEntryEach) (hc : SameCalls s t) (hz : t.zones = s.zones) :
    t.OneEntryEach := hs.of_same hc fun z => by rw [hz]

theorem State.OneEntryEach.evaluateZone {s : State} (hs : s.OneEntryEach) (z : Zone) (r : Report) :
    (s.evaluateZone z r).OneEntryEach := by
  rw [State.evaluateZone_eq]
  refine hs.demandEvaluated (z := z) (r := (s.freshRun z r).1) ?_ ?_ _
  · exact State.raiseAll_arb _ _
  · exact State.raiseAll_zones _ _

/-- A zone's record with a demand set outside an evaluation, and the heat that follows from it (R29). -/
def State.demanded (s : State) (z : Zone) (d : Demand) : ZoneRecord :=
  { s.zones.get z with
    demand := d,
    heat := heatState z (s.presetOf z) (s.zones.get z).mode ((s.zones.get z).band.map (s.ladderOf z).band) d (s.zones.get z).heat }

theorem State.setDemand_eq (s : State) (z : Zone) (d : Demand) :
    s.setDemand z d
      = (s.setZone z (s.demanded z d)).demandChanged z (s.zones.get z).demand d (s.presetOf z).pathSet := rfl

theorem State.OneEntryEach.setDemand {s : State} (hs : s.OneEntryEach) (z : Zone) (d : Demand) :
    (s.setDemand z d).OneEntryEach := by
  rw [State.setDemand_eq]
  exact hs.demandChanged (u := s.setZone z (s.demanded z d)) (r := s.demanded z d) rfl rfl _

/-- A zone's record is replaced by one of the same demand. -/
theorem State.OneEntryEach.setZone {s : State} (hs : s.OneEntryEach) (z : Zone) {r : ZoneRecord}
    (h : r.demand = (s.zones.get z).demand) : (s.setZone z r).OneEntryEach := by
  refine hs.of_same (.of_arb rfl) fun y => ?_
  have hy := congrFun (s.setZone_demands z r) y
  rwa [h, Function.update_eq_self] at hy

theorem State.OneEntryEach.removeBoost {s : State} (hs : s.OneEntryEach) (z : Zone) : (s.removeBoost z).OneEntryEach := by
  have h : (s.setZone z { s.zones.get z with boost := none }).OneEntryEach := hs.setZone z rfl
  have hr : ((s.setZone z { s.zones.get z with boost := none }).raise .boostEnd).OneEntryEach :=
    h.of_zones (.of_arb (State.raise_arb _ _)) (State.raise_zones _ _)
  exact hr.setDemand z _

theorem State.OneEntryEach.boost {s : State} (hs : s.OneEntryEach) (z : Zone) (m : Nat) (p : Port) :
    (s.boost z m p).OneEntryEach := by
  unfold State.boost
  refine State.OneEntryEach.setDemand (hs.setZone z ?_) z _
  rfl

theorem State.OneEntryEach.takeReport {s : State} (hs : s.OneEntryEach) (r : Report) : (s.takeReport r).OneEntryEach := by
  unfold State.takeReport
  split
  · exact hs.evaluateZone _ r
  · have he : SameCalls s (s.evaporatorReport r) := by
      unfold State.evaporatorReport
      split
      · exact SameCalls.ite _ (.of_arb rfl) (.refl s)
      · exact SameCalls.ite _ (.of_arb rfl) (.refl s)
      · exact .refl s
    refine hs.of_zones (he.trans (State.stepReport_calls _ r)) ?_
    exact (State.stepReport_manager _ r).zones.trans (s.evaporatorReport_turn r).zones

theorem State.OneEntryEach.sample {s : State} (hs : s.OneEntryEach) (ch : Channel) (code : Nat) :
    (s.sample ch code).OneEntryEach := by
  have h : (s.sensed ch code).OneEntryEach := hs.of_zones (.of_arb (State.raiseAll_arb _ _)) (State.raiseAll_zones _ _)
  exact h.takeReport (s.sampleReport ch code)

theorem State.OneEntryEach.changeMode {s : State} (hs : s.OneEntryEach) (p : Port) (z : Zone) (i : Nat) :
    (s.changeMode p z i).OneEntryEach := by
  have h : ((s.setZone z ((s.zones.get z).flushed i (s.tables.preset i))).demandChanged z (s.zones.get z).demand .idle
      (s.presetOf z).pathSet).OneEntryEach :=
    hs.demandChanged (u := s.setZone z ((s.zones.get z).flushed i (s.tables.preset i)))
      (r := (s.zones.get z).flushed i (s.tables.preset i)) rfl rfl _
  exact h.of_zones (.of_arb rfl) rfl

/-- After a cooling restart no zone calls and the arbiter holds no entry (R46, R81). -/
theorem State.coolingRestart_oneEntryEach (s : State) : s.coolingRestart.OneEntryEach := by
  have h0 : s.restartZones.restartArbiter.OneEntryEach := by
    intro z
    show [] = ((s.zones.map ZoneRecord.restarted).get z).demand.levels
    rw [PerZone.get_map]
    rfl
  have hc : ∀ u : State, SameCalls u u.restartCycle := fun u =>
    SameCalls.trans (t := u.restartCycleState) (SameCalls.ite _ (.of_arb u.enterOff_arb) (.of_arb u.stopOrder_arb)) (.of_arb rfl)
  have hz : ∀ u : State, u.restartCycle.zones = u.zones := fun u => u.restartCycle_touches .zones (by simp)
  unfold State.coolingRestart
  generalize s.restartZones.restartArbiter = u at h0
  have h1 : u.cancelManager.OneEntryEach := h0.of_zones u.cancelManager_calls u.cancelManager_manager.zones
  have h2 : u.cancelManager.restartCycle.OneEntryEach := h1.of_zones (hc _) (hz _)
  have h3 : u.cancelManager.restartCycle.restartActuators.OneEntryEach := h2.of_zones (.of_arb rfl) rfl
  exact h3.of_zones (State.dueTest_calls _) (State.dueTest_manager _).zones

/-! ## What leaves every zone's demand -/

/-- Every zone's demand stands. -/
def SameDemands (s t : State) : Prop := ∀ z, (t.zones.get z).demand = (s.zones.get z).demand

theorem SameDemands.trans {s t u : State} (h : SameDemands s t) (k : SameDemands t u) : SameDemands s u :=
  fun z => (k z).trans (h z)

theorem SameDemands.of_zones {s t : State} (h : t.zones = s.zones) : SameDemands s t := fun z => by rw [h]

theorem SameDemands.setZone (s : State) (z : Zone) {r : ZoneRecord} (h : r.demand = (s.zones.get z).demand) :
    SameDemands s (s.setZone z r) := fun y => by
  have hy := congrFun (s.setZone_demands z r) y
  rwa [h, Function.update_eq_self] at hy

theorem SameDemands.ite {s t u : State} (b : Prop) [Decidable b] (h : SameDemands s t) (k : SameDemands s u) :
    SameDemands s (if b then t else u) := by
  split
  · exact h
  · exact k

theorem SettingsOnly.sameCalls {s t : State} (h : SettingsOnly s t) : SameCalls s t := by
  obtain ⟨_, _, _, rfl⟩ := h
  exact .of_arb rfl

theorem State.storeSetpoint_demands (s : State) (p : Port) (z : Zone) (v : Int) : SameDemands s (s.storeSetpoint p z v) := by
  have h : SameDemands s (s.setZone z { s.zones.get z with setpoint := v }) := .setZone s z rfl
  exact SameDemands.ite _ h (h.trans (.of_zones rfl))

theorem State.presetReaches_demands (s : State) (p : Port) (i : Nat) (q : Preset) (z : Zone) :
    SameDemands s (s.presetReaches p i q z) := by
  have h : SameDemands s (s.keepEntries z) := .setZone s z rfl
  exact SameDemands.ite _ (h.trans (State.storeSetpoint_demands _ p z _)) (.of_zones rfl)

theorem State.writePreset_demands (s : State) (p : Port) (i : Nat) (q : Preset) : SameDemands s (s.writePreset p i q) := by
  have h : ∀ (u : State) z, SameDemands u (u.presetReaches p i q z) := fun u z => u.presetReaches_demands p i q z
  have h4 := (((h s .fresh).trans (h _ .flex)).trans (h _ .freezer)).trans (h _ .ice)
  exact h4.trans (.of_zones rfl)

theorem State.writePreset_arb (s : State) (p : Port) (i : Nat) (q : Preset) : (s.writePreset p i q).arb = s.arb := by
  rw [State.writePreset_eq]

theorem State.zoneAfterLadder_demand (s : State) (i : Nat) (z : Zone) :
    (s.zoneAfterLadder i z).demand = (s.zones.get z).demand := by
  unfold State.zoneAfterLadder
  split <;> rfl

theorem Tables.settleZone_demand (t : Tables) (z : Zone) (c : Option (Nat × Int)) (r : ZoneRecord) :
    (t.settleZone z c r).demand = r.demand := by
  unfold Tables.settleZone
  dsimp only
  repeat' split
  all_goals rfl

theorem State.loadSettings_same (s : State) (record : List Byte) :
    SameCalls s (s.loadSettings record) ∧ SameDemands s (s.loadSettings record) := by
  have h : ∀ c, SameDemands s (s.settleZones c) := fun c z => by cases z <;> exact Tables.settleZone_demand _ _ _ _
  unfold State.loadSettings
  split
  · exact ⟨.of_arb rfl, (h _).trans (.of_zones rfl)⟩
  · exact ⟨.of_arb rfl, (h _).trans (.of_zones rfl)⟩

theorem State.viewDoors_demand (s : State) (z : Zone) : (s.viewDoors z).demand = (s.zones.get z).demand := by
  unfold State.viewDoors
  dsimp only
  split <;> rfl

theorem State.doorTurn_same (s : State) (d : Door) : SameCalls s (s.doorTurn d) ∧ SameDemands s (s.doorTurn d) := by
  have hz : SameDemands s (s.setDoor d (s.doors.get d).turn).viewAllDoors := fun z => by
    rw [State.viewAllDoors_zone, State.viewDoors_demand]
    rfl
  exact ⟨SameCalls.ite _ (.of_arb rfl) (.of_arb rfl), SameDemands.ite _ (hz.trans (.of_zones rfl)) hz⟩

/-! ## The end of a command -/

theorem State.OneEntryEach.finish {s u t : State} (hf : s.finish u = .next t) (hu : u.OneEntryEach) : t.OneEntryEach := by
  rw [State.finish_eq] at hf
  cases hf
  exact hu.of_zones ((State.handOver_calls s u).trans (.of_arb rfl)) (State.handOver_zones s u)

theorem State.OneEntryEach.event {s t : State} {i : Instr} {f : State → State} (he : s.event i f = .next t) (hs : s.OneEntryEach)
    (h : (f s).OneEntryEach) : t.OneEntryEach := by
  unfold State.event at he
  split at he
  · exact h.finish he
  · cases he; exact hs

theorem State.finish_calls {s u t : State} (hf : s.finish u = .next t) (h : SameCalls s u) : SameCalls s t := by
  rw [State.finish_eq] at hf
  cases hf
  exact (h.trans (State.handOver_calls s u)).trans (.of_arb rfl)

theorem State.event_calls {s t : State} {i : Instr} {f : State → State} (he : s.event i f = .next t) (h : SameCalls s (f s)) :
    SameCalls s t := by
  unfold State.event at he
  split at he
  · exact State.finish_calls he h
  · cases he; exact .refl s

/-! ## Requests -/

theorem State.request_oneEntryEach {s : State} (e : Ending) (mine : Frame → Bool) {rule : State → Port → Frame → Answer}
    (hs : s.OneEntryEach) (h : ∀ u p f, u.OneEntryEach → (rule u p f).state.OneEntryEach) :
    (s.request e mine rule).OneEntryEach := by
  have ha : ∀ t, (s.afterTaking t).OneEntryEach := fun _ => hs
  obtain k | ⟨t, -, -, ⟨st, -, k⟩ | ⟨-, x, k⟩⟩ := s.request_cases e mine rule
  · rwa [k]
  · rw [k]; exact ha t
  · rw [k]; exact h _ _ _ (ha t)

theorem State.request_calls {s : State} (e : Ending) (mine : Frame → Bool) {rule : State → Port → Frame → Answer}
    (h : ∀ u p f, SameCalls u (rule u p f).state) : SameCalls s (s.request e mine rule) := by
  have ha : ∀ t, SameCalls s (s.afterTaking t) := fun _ => .of_arb rfl
  obtain k | ⟨t, -, -, ⟨st, -, k⟩ | ⟨-, x, k⟩⟩ := s.request_cases e mine rule
  · rw [k]; exact .refl s
  · rw [k]; exact (ha t).trans (.of_arb rfl)
  · rw [k]; exact ((ha t).trans (h _ _ _)).trans (.of_arb rfl)

/-- An answer that is one of two answers of a command rule. -/
theorem SameCalls.answer {s : State} {x y : Answer} (b : Prop) [Decidable b] (h : SameCalls s x.state) (k : SameCalls s y.state) :
    SameCalls s (if b then x else y).state := by
  split
  · exact h
  · exact k

theorem ruleGetZone_calls (s : State) (p : Port) (f : Frame) : SameCalls s (ruleGetZone s p f).state := by
  unfold ruleGetZone; split <;> exact .refl s

theorem ruleReadTable_calls (s : State) (p : Port) (f : Frame) : SameCalls s (ruleReadTable s p f).state := by
  unfold ruleReadTable; split <;> exact .refl s

theorem ruleLimitPower_calls (s : State) (p : Port) (f : Frame) : SameCalls s (ruleLimitPower s p f).state :=
  SameCalls.answer _ (.of_arb (State.capLifted_arb _)) (.of_arb (State.applyCaps_arb _))

theorem ruleRunProgram_calls (s : State) (p : Port) (f : Frame) : SameCalls s (ruleRunProgram s p f).state :=
  SameCalls.answer _ (.refl s) (SameCalls.answer _ (.refl s) (SameCalls.trans (.of_arb rfl) (State.beginWait_calls _ _)))

theorem ruleAbortProgram_calls (s : State) (p : Port) (f : Frame) : SameCalls s (ruleAbortProgram s p f).state := by
  unfold ruleAbortProgram
  split
  · split <;> exact .of_arb rfl
  all_goals exact .refl s

theorem ruleSetPanelMap_calls (s : State) (p : Port) (f : Frame) : SameCalls s (ruleSetPanelMap s p f).state :=
  SameCalls.answer _ (.refl s) (.of_arb rfl)

theorem ruleWriteConversion_calls (s : State) (p : Port) (f : Frame) : SameCalls s (ruleWriteConversion s p f).state :=
  SameCalls.answer _ (.refl s) (.of_arb rfl)

theorem ruleWriteStep_calls (s : State) (p : Port) (f : Frame) : SameCalls s (ruleWriteStep s p f).state := by
  unfold ruleWriteStep
  dsimp only
  split
  · exact .refl s
  · exact SameCalls.answer _ (.refl s) (SameCalls.answer _ (.refl s) (.of_arb rfl))

theorem ruleWriteProgram_calls (s : State) (p : Port) (f : Frame) : SameCalls s (ruleWriteProgram s p f).state := by
  unfold ruleWriteProgram
  dsimp only
  split
  · exact .refl s
  · exact SameCalls.answer _ (.refl s) (SameCalls.answer _ (.refl s) (SameCalls.answer _ (.refl s)
      (SameCalls.answer _ (.refl s) (.of_arb rfl))))

theorem ruleWriteGlobal_calls (s : State) (p : Port) (f : Frame) : SameCalls s (ruleWriteGlobal s p f).state := by
  unfold ruleWriteGlobal
  split
  · split <;> exact .of_arb rfl
  · exact .refl s

theorem ruleSaveTables_calls (s : State) (p : Port) (f : Frame) : SameCalls s (ruleSaveTables s p f).state :=
  SameCalls.answer _ (.of_arb rfl) (.refl s)

theorem ruleServiceHoldOn_calls (s : State) (p : Port) (f : Frame) : SameCalls s (ruleServiceHoldOn s p f).state :=
  SameCalls.answer _ (.refl s) s.enterHold_calls

theorem ruleServiceHoldOff_calls (s : State) (p : Port) (f : Frame) : SameCalls s (ruleServiceHoldOff s p f).state :=
  SameCalls.answer _ (.refl s) (SameCalls.answer _ s.endHold_calls (.refl s))

theorem forceOutput_calls (s : State) (g : Forced) (output v : Nat) : SameCalls s (forceOutput s g output v).state := by
  unfold forceOutput
  split
  · exact SameCalls.answer _ (.refl s) (SameCalls.trans (t := s.setForced _) (.of_arb rfl) (State.forceSpeed_calls _ _))
  all_goals exact .of_arb rfl

theorem ruleForceOutput_calls (s : State) (p : Port) (f : Frame) : SameCalls s (ruleForceOutput s p f).state := by
  unfold ruleForceOutput
  refine SameCalls.answer _ (.refl s) ?_
  split
  · exact .refl s
  · exact forceOutput_calls s _ _ _

/-! ## Every command -/

/-- A request row that leaves the zones leaves the calls of the arbiter. -/
theorem exec_request_calls {c : Instr} {s t : State} (h : exec c s = .next t) (hr : c.resets = false) (hc : c.row ≠ none)
    (hz : OwnedRecord.zones ∉ touchedBy c) : SameCalls s t := by
  cases c
  case fullRestart => cases hr
  case setSetpoint | setMode | startBoost | cancelBoost | coolingRestart | writeTablePreset | writeTableLadder =>
    simp [touchedBy] at hz
  case getZone => exact State.finish_calls h (s.request_calls _ _ ruleGetZone_calls)
  case readTable => exact State.finish_calls h (s.request_calls _ _ ruleReadTable_calls)
  case limitPower => exact State.finish_calls h (s.request_calls _ _ ruleLimitPower_calls)
  case runProgram => exact State.finish_calls h (s.request_calls _ _ ruleRunProgram_calls)
  case abortProgram => exact State.finish_calls h (s.request_calls _ _ ruleAbortProgram_calls)
  case setPanelMap => exact State.finish_calls h (s.request_calls _ _ ruleSetPanelMap_calls)
  case writeTableConversion => exact State.finish_calls h (s.request_calls _ _ ruleWriteConversion_calls)
  case writeTableStep => exact State.finish_calls h (s.request_calls _ _ ruleWriteStep_calls)
  case writeTableProgram => exact State.finish_calls h (s.request_calls _ _ ruleWriteProgram_calls)
  case writeTableGlobal => exact State.finish_calls h (s.request_calls _ _ ruleWriteGlobal_calls)
  case saveTables => exact State.finish_calls h (s.request_calls _ _ ruleSaveTables_calls)
  case serviceHoldOn => exact State.finish_calls h (s.request_calls _ _ ruleServiceHoldOn_calls)
  case serviceHoldOff => exact State.finish_calls h (s.request_calls _ _ ruleServiceHoldOff_calls)
  case forceOutput => exact State.finish_calls h (s.request_calls _ _ ruleForceOutput_calls)
  case unknownCommand | identify | getSystem | readEvents | ackEvents | setEventMask | deferDefrost =>
    exact State.finish_calls h (s.request_calls _ _ fun _ _ _ => .of_arb rfl)
  all_goals exact absurd rfl hc

/-- A command that leaves the zones leaves the calls of the arbiter, in whatever order. -/
theorem exec_calls {c : Instr} {s t : State} (h : exec c s = .next t) (hr : c.resets = false) (hz : OwnedRecord.zones ∉ touchedBy c) :
    SameCalls s t := by
  by_cases hc : c.row = none
  case neg => exact exec_request_calls h hr hc hz
  cases c
  case deviceReset => cases hr
  case fullRestart => cases hr
  case settingsLoadComplete | sampleCompletion | doorTransition | boostExpiry => simp [touchedBy] at hz
  case imageLoadComplete =>
    obtain rfl | ⟨-, h⟩ := execImageLoadComplete_next h
    · exact .refl _
    · refine State.finish_calls h (.of_arb ?_)
      unfold State.loadImage
      split <;> rfl
  case doorEdge =>
    obtain rfl | h := execDoorEdge_next h
    · exact .refl _
    · exact State.finish_calls h (.of_arb rfl)
  case driveStatus =>
    obtain rfl | ⟨r, h⟩ := execDriveStatus_next h
    · exact .refl _
    · exact State.finish_calls h (s.driveReply_calls r)
  case tachReading =>
    obtain rfl | h := execTachReading_next h
    · exact .refl _
    · exact State.finish_calls h (s.tach_calls _ _)
  case portSLengthReject =>
    obtain rfl | h := execPortSLengthReject_next h
    · exact .refl _
    · exact State.finish_calls h (.of_arb rfl)
  case portSByteReceived =>
    obtain rfl | ⟨x, h⟩ := execPortSByteReceived_next h
    · exact .refl _
    · exact State.finish_calls h (.of_arb rfl)
  case pageWriteComplete =>
    obtain rfl | ⟨j, h⟩ := execPageWriteComplete_next h
    · exact .refl _
    · exact State.finish_calls h (s.pageWritten_only j _).calls
  case portSFrameSent | writeTransactionByte => exact State.finish_calls h (.of_arb rfl)
  case ready => exact State.event_calls (show execReady s = _ from h) (SameCalls.trans (.of_arb rfl) (State.dueTest_calls _))
  case doorMinute => exact State.event_calls (show execDoorMinute _ s = _ from h) (SameCalls.trans (.of_arb rfl) (State.credit_calls _ _))
  case faultTimerExpiry => exact State.event_calls (show execFaultTimerExpiry _ s = _ from h) (s.faultTimerOut_calls _)
  case turnMaximum => exact State.event_calls (show execTurnMaximum s = _ from h) s.turnReport_calls
  case onTimerMinimum => exact State.event_calls (show execOnTimerMinimum s = _ from h) s.onTimeReport_calls
  case lowerRunMinute =>
    exact State.event_calls (show execLowerRunMinute s = _ from h)
      (SameCalls.trans (.of_arb rfl) (State.credit_calls _ _))
  case valveMoveComplete => exact State.event_calls (show execValveMoveComplete s = _ from h) s.valveArrives_calls
  case startWindowExpiry => exact State.event_calls (show execStartWindowExpiry s = _ from h) (s.faultEvent_calls _ _)
  case transferTimerExpiry => exact State.event_calls (show execTransferTimerExpiry s = _ from h) s.completeTransfer_calls
  case stopTimerExpiry => exact State.event_calls (show execStopTimerExpiry s = _ from h) s.stopped_calls
  case minimumOffTimeOver => exact State.event_calls (show execMinimumOffTimeOver s = _ from h) s.startCheck_calls
  case faultWaitEnd => exact State.event_calls (show execFaultWaitEnd s = _ from h) s.startCheck_calls
  case powerCapExpiry => exact State.event_calls (show execPowerCapExpiry s = _ from h) (.of_arb (State.capLifted_arb _))
  case driveMiss => exact State.event_calls (show execDriveMiss s = _ from h) s.driveMissed_calls
  case heaterLimit =>
    exact State.event_calls (show execHeaterLimit s = _ from h)
      (SameCalls.trans (.of_arb rfl) (State.heaterLimitToManager_calls _))
  case holdTimeout => exact State.event_calls (show execHoldTimeout s = _ from h) (s.endHold_calls.trans (.of_arb rfl))
  case defrostAgeLimit => exact State.event_calls (show execDefrostAgeLimit s = _ from h) s.dueTest_calls
  case deferralEnd => exact State.event_calls (show execDeferralEnd s = _ from h) (s.beginWait_calls _)
  case pathWaitExpiry => exact State.event_calls (show execPathWaitExpiry s = _ from h) s.pathWaitOver_calls
  case stepDurationExpiry => exact State.event_calls (show execStepDurationExpiry s = _ from h) (s.stepEnds_calls _)
  case stepTimeoutExpiry => exact State.event_calls (show execStepTimeoutExpiry s = _ from h) (s.stepEnds_calls _)
  case holdoffEnd => exact State.event_calls (show execHoldoffEnd s = _ from h) (SameCalls.trans (.of_arb rfl) (State.dueTest_calls _))
  case quietTimerExpiry =>
    exact State.event_calls (show execQuietTimerExpiry s = _ from h)
      ((StoreOnly.record s _).trans (State.settingsSaveDue_only _)).calls
  case hourlyMark =>
    refine State.event_calls (show execHourlyMark s = _ from h) (SameCalls.ite _ (.of_arb rfl) ?_)
    exact ((StoreOnly.record s _).trans (State.settingsSaveDue_only _)).calls
  case pageBusyTimeout => exact State.event_calls (show execPageBusyTimeout s = _ from h) s.pageTimedOut_only.calls
  case saveRetryExpiry => exact State.event_calls (show execSaveRetryExpiry _ s = _ from h) (s.retrySave_only _).calls
  case doorLong => exact State.event_calls (show execDoorLong _ s = _ from h) (.of_arb rfl)
  case lapse => exact State.event_calls (show execLapse _ s = _ from h) (.of_arb rfl)
  case defrostWindowClose => exact State.event_calls (show execDefrostWindowClose s = _ from h) (.of_arb rfl)
  case startHoldEnd => exact State.event_calls (show execStartHoldEnd s = _ from h) (.of_arb rfl)
  case speedUpdate => exact State.event_calls (show execSpeedUpdate s = _ from h) (.of_arb rfl)
  case driveCommand => exact State.event_calls (show execDriveCommand s = _ from h) (.of_arb rfl)
  case condenserRetryExpiry => exact State.event_calls (show execCondenserRetryExpiry s = _ from h) (.of_arb rfl)
  case condenserRunOnExpiry => exact State.event_calls (show execCondenserRunOnExpiry s = _ from h) (.of_arb rfl)
  case afterRunExpiry => exact State.event_calls (show execAfterRunExpiry s = _ from h) (.of_arb rfl)
  case fanDelayExpiry => exact State.event_calls (show execFanDelayExpiry s = _ from h) (.of_arb rfl)
  case damperMoveComplete => exact State.event_calls (show execDamperMoveComplete _ s = _ from h) (.of_arb rfl)
  case damperHomingComplete => exact State.event_calls (show execDamperHomingComplete _ s = _ from h) (.of_arb rfl)
  case flexHeaterLimit => exact State.event_calls (show execFlexHeaterLimit s = _ from h) (.of_arb rfl)
  case flexHeaterRestEnd => exact State.event_calls (show execFlexHeaterRestEnd s = _ from h) (.of_arb rfl)
  case portSGapTimeout => exact State.event_calls (show execPortSGapTimeout s = _ from h) (.of_arb rfl)
  all_goals cases hc

theorem State.OneEntryEach.storeSetpoint {s : State} (hs : s.OneEntryEach) (p : Port) (z : Zone) (v : Int) :
    (s.storeSetpoint p z v).OneEntryEach :=
  hs.of_same (s.storeSetpoint_settings p z v).sameCalls (s.storeSetpoint_demands p z v)

theorem ruleSetSetpoint_oneEntryEach {s : State} (p : Port) (f : Frame) (hs : s.OneEntryEach) :
    (ruleSetSetpoint s p f).state.OneEntryEach := by
  unfold ruleSetSetpoint
  split
  · exact hs
  · exact hs.storeSetpoint p _ _

theorem ruleSetMode_oneEntryEach {s : State} (p : Port) (f : Frame) (hs : s.OneEntryEach) :
    (ruleSetMode s p f).state.OneEntryEach := by
  unfold ruleSetMode
  dsimp only
  repeat' split
  · exact hs
  · exact hs
  · exact hs
  · exact hs.changeMode p _ _

theorem ruleStartBoost_oneEntryEach {s : State} (p : Port) (f : Frame) (hs : s.OneEntryEach) :
    (ruleStartBoost s p f).state.OneEntryEach := by
  unfold ruleStartBoost
  repeat' split
  · exact hs
  · exact hs
  · exact hs.boost _ _ p

theorem ruleCancelBoost_oneEntryEach {s : State} (p : Port) (f : Frame) (hs : s.OneEntryEach) :
    (ruleCancelBoost s p f).state.OneEntryEach := by
  unfold ruleCancelBoost
  repeat' split
  · exact hs
  · exact hs
  · exact hs.removeBoost _
  · exact hs

theorem ruleCoolingRestart_oneEntryEach {s : State} (p : Port) (f : Frame) (hs : s.OneEntryEach) :
    (ruleCoolingRestart s p f).state.OneEntryEach := by
  unfold ruleCoolingRestart
  split
  · exact s.coolingRestart_oneEntryEach
  · exact hs

theorem ruleWritePreset_oneEntryEach {s : State} (p : Port) (f : Frame) (hs : s.OneEntryEach) :
    (ruleWritePreset s p f).state.OneEntryEach := by
  unfold ruleWritePreset
  dsimp only
  repeat' split
  · exact hs
  · exact hs
  · exact hs.of_same (.of_arb (s.writePreset_arb p _ _)) (s.writePreset_demands p _ _)

theorem ruleWriteLadder_oneEntryEach {s : State} (p : Port) (f : Frame) (hs : s.OneEntryEach) :
    (ruleWriteLadder s p f).state.OneEntryEach := by
  unfold ruleWriteLadder
  dsimp only
  repeat' split
  · exact hs
  · exact hs
  · rw [Answer.ok, State.writeLadder_eq]
    exact hs.of_same (.of_arb rfl) fun z => by cases z <;> exact s.zoneAfterLadder_demand _ _

/-- Every command but a reset keeps one entry for each calling zone. -/
theorem exec_oneEntryEach {c : Instr} {s t : State} (h : exec c s = .next t) (hr : c.resets = false) (hs : s.OneEntryEach) :
    t.OneEntryEach := by
  by_cases hz : OwnedRecord.zones ∈ touchedBy c
  case neg => exact hs.of_zones (exec_calls h hr hz) (exec_stands h hr .zones hz)
  cases c
  case settingsLoadComplete =>
    obtain rfl | ⟨-, -, h⟩ := execSettingsLoadComplete_next h
    · exact hs
    · exact (hs.of_same (s.loadSettings_same _).1 (s.loadSettings_same _).2).finish h
  case sampleCompletion =>
    obtain rfl | h := execSampleCompletion_next h
    · exact hs
    · exact (hs.sample _ _).finish h
  case doorTransition =>
    exact State.OneEntryEach.event (show execDoorTransition _ s = _ from h) hs (hs.of_same (s.doorTurn_same _).1 (s.doorTurn_same _).2)
  case boostExpiry => exact State.OneEntryEach.event (show execBoostExpiry _ s = _ from h) hs (hs.removeBoost _)
  case setSetpoint => exact (State.request_oneEntryEach _ _ hs fun _ => ruleSetSetpoint_oneEntryEach).finish h
  case setMode => exact (State.request_oneEntryEach _ _ hs fun _ => ruleSetMode_oneEntryEach).finish h
  case startBoost => exact (State.request_oneEntryEach _ _ hs fun _ => ruleStartBoost_oneEntryEach).finish h
  case cancelBoost => exact (State.request_oneEntryEach _ _ hs fun _ => ruleCancelBoost_oneEntryEach).finish h
  case coolingRestart => exact (State.request_oneEntryEach _ _ hs fun _ => ruleCoolingRestart_oneEntryEach).finish h
  case writeTablePreset => exact (State.request_oneEntryEach _ _ hs fun _ => ruleWritePreset_oneEntryEach).finish h
  case writeTableLadder => exact (State.request_oneEntryEach _ _ hs fun _ => ruleWriteLadder_oneEntryEach).finish h
  all_goals simp [touchedBy] at hz

/-! ## Every step -/

theorem State.deviceReset_oneEntryEach (s : State) (raw : DoorLevels) : (s.deviceReset raw).OneEntryEach := by
  refine State.reset_oneEntryEach.of_same (.of_arb rfl) fun z => ?_
  rw [State.deviceReset_zone]

theorem State.OneEntryEach.tick {s : State} (hs : s.OneEntryEach) : s.tick.OneEntryEach := by
  have hf : ∀ u : State, u.OneEntryEach → u.tickFine.OneEntryEach := fun u hu =>
    hu.of_same (.of_arb rfl) fun z => by simp [State.tickFine]
  have hsec : s.tickSecond.OneEntryEach := by
    refine hs.of_same (.entries rfl rfl) fun z => ?_
    obtain ⟨n, hn⟩ := s.tickSecond_zone z
    rw [hn]
  have he : s.elapse.OneEntryEach := by
    unfold State.elapse
    split
    · exact hf _ hsec
    · exact hf _ hs
  exact he.of_zones (.of_arb rfl) rfl

theorem oneEntryEach_step {s t : State} (hs : s.OneEntryEach) (h : step s = .next t) : t.OneEntryEach := by
  refine step_induction (P := State.OneEntryEach) (fun s l hs => hs) (fun s hs => hs.tick)
    (fun s raw _ => s.deviceReset_oneEntryEach raw) ?_ (fun c s t => exec_oneEntryEach) h hs
  intro e s t h hs
  obtain rfl | rfl | ⟨x, y, -, rfl⟩ := execFullRestart_next h
  · exact (s.deviceReset_oneEntryEach s.rawLevels).of_zones (.of_arb rfl) rfl
  · exact hs.of_zones (.of_arb rfl) rfl
  · exact hs.of_zones (.of_arb rfl) rfl

end Sys2Proof.Machine

namespace Sys2Proof

open Sys2Proof.Machine

/-- Settles O56: the arbiter and the manager permute the calls, a change of demand is handed over as it is made, and a restart clears
both sides. -/
theorem oneEntryForEachCallingZone : Obligations.OneEntryForEachCallingZone := fun _ _ => oneEntryEach_step

end Sys2Proof
end

section
/-!
The evaluation of a zone in its order (R24): mode, estimate, band, boost, demand, heat and alarm, each told once for the record that
`Evaluation.run` leaves, and the four statements on it (R25 to R36, R40).
-/
namespace Sys2Proof.Machine

/-! ## The record that an evaluation leaves -/

/-- The record with its mode fixed and its estimate moved. -/
def Evaluation.moved (x : Evaluation) (z : ZoneRecord) : ZoneRecord := (x.fixMode z).estimateStep x.preset x.report

/-- The demand that a HOLD keeps (R27, R40). -/
def Evaluation.held (x : Evaluation) (z : ZoneRecord) : Demand := if x.earlyEnd (x.moved z) then .calling .one else z.demand

/-- The duty of the hour (R34). -/
def Evaluation.duty (x : Evaluation) (z : ZoneRecord) : Demand :=
  dutyDemand ((x.moved z).fallbackStart.getD x.now) x.now x.preset.fallbackOn

section fields
variable (x : Evaluation) (z : ZoneRecord)

theorem Evaluation.moved_eq : x.moved z = { x.fixMode z with estimate := (x.moved z).estimate, seeded := (x.moved z).seeded } :=
  ZoneRecord.estimateStep_eq _ _ _

theorem Evaluation.run_estimate : (x.run z).1.estimate = (x.moved z).estimate := rfl
theorem Evaluation.run_seeded : (x.run z).1.seeded = (x.moved z).seeded := rfl

theorem Evaluation.run_mode : (x.run z).1.mode = x.mode := by
  show (x.moved z).mode = _
  rw [x.moved_eq]
  rfl

theorem Evaluation.run_fallbackStart : (x.run z).1.fallbackStart = (x.fixMode z).fallbackStart := by
  show (x.moved z).fallbackStart = _
  rw [x.moved_eq]

theorem Evaluation.moved_setpoint : (x.moved z).setpoint = z.setpoint := by
  rw [x.moved_eq]
  rfl

theorem Evaluation.moved_boost : (x.moved z).boost = z.boost := by
  rw [x.moved_eq]
  rfl

theorem Evaluation.run_band : (x.run z).1.band
    = if x.mode = .normal then (x.moved z).reported.map (x.ladder.bandOf z.setpoint) else none := by
  rw [← x.moved_setpoint z]
  rfl

theorem Evaluation.run_boost : (x.run z).1.boost = if x.earlyEnd (x.moved z) ∨ x.mode = .disabled then none else z.boost := by
  rw [← x.moved_boost z]
  rfl

theorem Evaluation.run_demand : (x.run z).1.demand
    = demandWith (x.run z).1.boost x.mode
        (restingDemand x.mode ((x.run z).1.band.map x.ladder.band) (x.held z) (x.duty z)) := rfl

theorem Evaluation.run_heat : (x.run z).1.heat
    = heatState x.zone x.preset x.mode ((x.run z).1.band.map x.ladder.band) (x.run z).1.demand z.heat := rfl

theorem Evaluation.run_alarm : ((x.run z).1.alarm, (x.run z).1.alarmTimer)
    = alarmAfter x.suspended x.mode ((x.run z).1.band.map x.ladder.band) x.ladder.delay z.alarm z.alarmTimer := rfl

theorem Evaluation.run_events : (x.run z).2
    = (if x.earlyEnd (x.moved z) then [.boostEnd] else []) ++ alarmEvents z.alarm (x.run z).1.alarm := rfl

end fields

/-- A zone that no report puts into FALLBACK and no preset disables is in NORMAL mode (R24). -/
theorem Evaluation.mode_normal {x : Evaluation} (hd : x.preset.disabled = false) (hf : x.report.state ≠ .fault) : x.mode = .normal := by
  simp [Evaluation.mode, hd, hf]

theorem Evaluation.mode_fallback {x : Evaluation} (hd : x.preset.disabled = false) (hf : x.report.state = .fault) :
    x.mode = .fallback := by
  simp [Evaluation.mode, hd, hf]

theorem Evaluation.mode_disabled {x : Evaluation} (hd : x.preset.disabled = true) : x.mode = .disabled := by
  simp [Evaluation.mode, hd]

/-- Outside NORMAL mode no boost ends early (R40). -/
theorem Evaluation.earlyEnd_other {x : Evaluation} (h : x.mode ≠ .normal) (z : ZoneRecord) : x.earlyEnd z = false := by
  unfold Evaluation.earlyEnd
  split
  · rename_i hm _ _
    exact absurd hm h
  · rfl

/-- ZONE_ALARM tells a change of the alarm into or out of WARM or COLD (R30, R31). -/
theorem Evaluation.zoneAlarm_mem (x : Evaluation) (z : ZoneRecord) : EventKind.zoneAlarm ∈ (x.run z).2 ↔
    z.alarm ≠ (x.run z).1.alarm
      ∧ (z.alarm = .warm ∨ z.alarm = .cold ∨ (x.run z).1.alarm = .warm ∨ (x.run z).1.alarm = .cold) := by
  have hs : ∀ a : AlarmState, a.standing = true ↔ a = .warm ∨ a = .cold := by intro a; cases a <;> simp [AlarmState.standing]
  have hboost : EventKind.zoneAlarm ∉ (if x.earlyEnd (x.moved z) then [EventKind.boostEnd] else []) := by split <;> simp
  rw [x.run_events, List.mem_append, or_iff_right hboost, alarmEvents]
  split
  · rename_i h
    rw [Bool.or_eq_true, hs, hs, or_assoc] at h
    exact iff_of_true (List.mem_singleton_self _) h
  · rename_i h
    rw [Bool.or_eq_true, hs, hs, or_assoc] at h
    exact iff_of_false (by simp) h

/-! ## The estimate (R25) -/

theorem ZoneRecord.doorHeld_iff (z : ZoneRecord) (p : Preset) :
    z.doorHeld p = true ↔ ∃ a, z.doorHold = some a ∧ a / 100 < p.doorHold := by
  unfold ZoneRecord.doorHeld
  split
  · rename_i h; simp [h]
  · rename_i t h
    rw [h, decide_eq_true_iff]
    exact ⟨fun hl => ⟨t, rfl, hl⟩, fun ⟨a, ha, hl⟩ => Option.some.inj ha ▸ hl⟩

theorem ZoneRecord.estimateStep_other {z : ZoneRecord} {p : Preset} {r : Report} (h : ∀ t, r.temperature ≠ some (t, .current)) :
    z.estimateStep p r = z := by
  unfold ZoneRecord.estimateStep
  split
  · rename_i t ht
    exact absurd ht (h t)
  · rfl

theorem ZoneRecord.estimateStep_seeds {z : ZoneRecord} {p : Preset} {r : Report} {t : Int} (h : r.temperature = some (t, .current))
    (hs : z.seeded = false) : z.estimateStep p r = { z with estimate := some (16 * t), seeded := true } := by
  unfold ZoneRecord.estimateStep
  rw [h, hs]

theorem ZoneRecord.estimateStep_seeded {z : ZoneRecord} {p : Preset} {r : Report} {t e : Int}
    (h : r.temperature = some (t, .current)) (hs : z.seeded = true) (he : z.estimate = some e) :
    z.estimateStep p r = if z.doorHeld p then z else { z with estimate := some (filterStep e (16 * t) p.shift) } := by
  unfold ZoneRecord.estimateStep
  rw [h, hs, he]

theorem filterStep_zero (e t : Int) : filterStep e t 0 = t := by
  simp [filterStep]

/-! ## Alarms (R30 to R32) -/

theorem Evaluation.run_alarm_band {x : Evaluation} {z : ZoneRecord} {k : Nat} (hm : x.mode = .normal)
    (hk : (x.run z).1.band = some k) : ((x.run z).1.alarm, (x.run z).1.alarmTimer)
      = alarmPromote x.suspended x.ladder.delay (alarmStep x.suspended (x.ladder.band k).alarm z.alarm z.alarmTimer) := by
  rw [x.run_alarm, hk, hm]
  rfl

/-- Without a band no alarm stands (R30, R33, R36). -/
theorem Evaluation.run_alarm_none {x : Evaluation} {z : ZoneRecord} (hm : x.mode ≠ .normal) :
    (x.run z).1.alarm = .none ∧ (x.run z).1.alarmTimer = 0 := by
  have h := x.run_alarm z
  have ha : ∀ b, alarmAfter x.suspended x.mode b x.ladder.delay z.alarm z.alarmTimer = (.none, 0) := by
    intro b
    unfold alarmAfter
    split
    · rename_i hn
      exact absurd hn hm
    · rfl
  rw [ha] at h
  exact Prod.mk.inj h

theorem heatState_iff (z : Zone) (p : Preset) (m : ZoneMode) (b : Option Band) (d : Demand) (before : Bool) :
    heatState z p m b d before = true ↔ z = .flex ∧ m = .normal ∧ p.heaterEnable = true ∧ d = .idle
      ∧ ∃ x, b = some x ∧ (x.heat = .on ∨ (x.heat = .hold ∧ before = true)) := by
  unfold heatState
  split
  · rename_i x
    cases p.heaterEnable <;> cases hx : x.heat <;> simp [hx]
  · rename_i h
    refine iff_of_false (by simp) ?_
    rintro ⟨rfl, rfl, -, rfl, x, rfl, -⟩
    exact h x rfl rfl rfl rfl

/-! ## NORMAL mode (R26, R27, R29, R40) -/

theorem Evaluation.earlyEnd_normal {x : Evaluation} (hm : x.mode = .normal) (z : ZoneRecord) :
    x.earlyEnd z = match z.reported with
      | some t => z.boost.isSome && decide (t ≤ z.setpoint - (x.preset.boostDepth : Int))
      | none => false := by
  unfold Evaluation.earlyEnd
  rw [hm]
  cases z.boost <;> cases z.reported <;> rfl

theorem Evaluation.run_boost_normal {x : Evaluation} (hm : x.mode = .normal) (z : ZoneRecord) :
    (x.run z).1.boost = if x.earlyEnd (x.moved z) then none else z.boost := by
  rw [x.run_boost, hm]
  simp

theorem Evaluation.run_demand_boosted {x : Evaluation} {z : ZoneRecord} (hm : x.mode ≠ .disabled)
    (hb : (x.run z).1.boost.isSome = true) : (x.run z).1.demand = .calling .three := by
  rw [x.run_demand, demandWith, if_pos ⟨hb, hm⟩]

theorem Evaluation.run_demand_resting {x : Evaluation} {z : ZoneRecord} (hb : (x.run z).1.boost = none) :
    (x.run z).1.demand = restingDemand x.mode ((x.run z).1.band.map x.ladder.band) (x.held z) (x.duty z) := by
  rw [x.run_demand, demandWith, hb, if_neg (by simp)]

end Sys2Proof.Machine

namespace Sys2Proof

open Sys2Proof.Machine

/-- Settles O11: a report that enters no FAULT leaves the seeded flag to the estimate step, whose branches these are. -/
theorem estimateMoves : Obligations.EstimateMoves := by
  intro x z hf w
  have hs : (x.fixMode z).seeded = z.seeded := by simp [Evaluation.fixMode, hf]
  have hw : w.estimate = ((x.fixMode z).estimateStep x.preset x.report).estimate := x.run_estimate z
  have hv : w.seeded = ((x.fixMode z).estimateStep x.preset x.report).seeded := x.run_seeded z
  refine ⟨fun t ht hz => ?_, fun t e ht hz he hd => ?_, fun t e ht hz he hd => ?_, fun h => ?_, z.doorHeld_iff x.preset⟩
  · rw [hw, hv, ZoneRecord.estimateStep_seeds ht (hs.trans hz)]
    exact ⟨rfl, rfl⟩
  · have hstep := ZoneRecord.estimateStep_seeded (p := x.preset) ht (hs.trans hz) (e := e) he
    rw [if_neg (by rw [show (x.fixMode z).doorHeld x.preset = z.doorHeld x.preset from rfl, hd]; simp)] at hstep
    rw [hw, hv, hstep]
    refine ⟨rfl, hs.trans hz, fun h0 => ?_⟩
    rw [h0, filterStep_zero]
  · have hstep := ZoneRecord.estimateStep_seeded (p := x.preset) ht (hs.trans hz) (e := e) he
    rw [if_pos (show (x.fixMode z).doorHeld x.preset = true from hd)] at hstep
    rw [hw, hstep]
    exact he
  · rw [hw, hv, ZoneRecord.estimateStep_other h]
    exact ⟨rfl, hs⟩

/-- Settles O12: in NORMAL mode band, boost, demand and heat are read off the branches of the evaluation. -/
theorem normalEvaluationFollowsTheBand : Obligations.NormalEvaluationFollowsTheBand := by
  intro x z hd hf w
  have hm : x.mode = .normal := Evaluation.mode_normal hd hf
  have hband : w.band = w.reported.map (x.ladder.bandOf z.setpoint) := (x.run_band z).trans (if_pos hm)
  have hboost : w.boost = if x.earlyEnd (x.moved z) then none else z.boost := Evaluation.run_boost_normal hm z
  have hthree : w.boost.isSome = true → w.demand = .calling .three := Evaluation.run_demand_boosted (by rw [hm]; simp)
  have hrest : w.boost = none → w.demand = restingDemand .normal (w.band.map x.ladder.band) (x.held z) (x.duty z) := fun h =>
    hm ▸ Evaluation.run_demand_resting h
  have hheat := heatState_iff x.zone x.preset x.mode (w.band.map x.ladder.band) w.demand z.heat
  rw [← x.run_heat] at hheat
  have hearly := Evaluation.earlyEnd_normal hm (x.moved z)
  rw [x.moved_boost, x.moved_setpoint] at hearly
  refine ⟨(x.run_mode z).trans hm, ?_, fun he => ?_, fun e he => ?_, x.run_keeps_choice z⟩
  · rw [show w.fallbackStart = (x.fixMode z).fallbackStart from x.run_fallbackStart z]
    simp [Evaluation.fixMode, hm]
  · have hnone : (x.moved z).reported = none := congrArg (Option.map _) he
    have hb : w.band = none := hband.trans (congrArg (Option.map _) hnone)
    rw [hnone] at hearly
    rw [hearly, if_neg (by simp)] at hboost
    refine ⟨hb, ?_, ?_⟩
    · rw [← Bool.not_eq_true, hheat, hb]
      simp
    · cases hz : z.boost with
      | none => rw [hrest (hboost.trans hz), hb]; rfl
      | some b => rw [hthree (by rw [hboost, hz]; rfl)]; rfl
  · intro reported k b early
    have hsome : (x.moved z).reported = some reported := congrArg (Option.map _) he
    have hk : w.band = some k := by
      rw [hband, show w.reported = some reported from hsome, Option.map_some, Ladder.bandOf, List.countP_eq_length_filter]
    rw [hsome] at hearly
    have hearly' : x.earlyEnd (x.moved z) = early := hearly
    rw [hearly'] at hboost
    have hattr : w.boost = none → w.demand = ladderDemand (x.held z) b.demand := fun h => by rw [hrest h, hk]; rfl
    refine ⟨hk, hboost, fun h => ?_, hthree, fun h hb => ?_, fun h hb => ?_, fun h hb => ?_, fun h hb => ?_, ?_⟩
    · rw [x.run_events, hearly', h]
      exact List.mem_append_left _ (List.mem_singleton_self _)
    · rw [hattr h, hb]; rfl
    · rw [hattr h, hb]; rfl
    · rw [hattr h, hb]; rfl
    · rw [hattr h, hb, ladderDemand, Evaluation.held, hearly']
    · rw [hheat, hk, hm]
      simp [b]

/-- Settles O13: the step and the promotion, case by case. -/
theorem alarmFollowsTheBand : Obligations.AlarmFollowsTheBand := by
  intro x z k hd hf w hk a d
  have hw := Evaluation.run_alarm_band (Evaluation.mode_normal hd hf) hk
  have hp : ∀ y : AlarmState × Nat, alarmPromote x.suspended d (alarmStep x.suspended a z.alarm z.alarmTimer) = y →
      w.alarm = y.1 ∧ w.alarmTimer = y.2 := fun y hy => Prod.mk.inj (hw.trans hy)
  have hzero : ∀ b c : AlarmState, (if d ≤ 0 then (b, 0) else (c, 0)) = ((if d = 0 then b else c), 0) := by
    intro b c; split <;> simp_all
  refine ⟨fun ha hs => hp (.none, 0) ?_, fun ha hs hz => hp (if d = 0 then .warm else .pendingWarm, 0) ?_,
    fun ha hs hz ht => hp (.pendingWarm, z.alarmTimer) ?_, fun ha hs hz ht => hp (.warm, 0) ?_,
    fun ha hz => (hp (.warm, 0) ?_).1, fun ha hz => hp (if d = 0 then .cold else .pendingCold, 0) ?_,
    fun ha hz ht => hp (.pendingCold, z.alarmTimer) ?_, fun ha hz ht => hp (.cold, 0) ?_, fun ha hz => (hp (.cold, 0) ?_).1,
    fun ha hs hz => hp (.none, 0) ?_, fun ha hs hz => hp (.pendingWarm, z.alarmTimer) ?_, fun ha hs hz => (hp (.warm, 0) ?_).1,
    fun ha hz => hp (.none, 0) ?_, fun ha hs hz => hp (.pendingWarm, z.alarmTimer) ?_, x.zoneAlarm_mem z⟩
  · rw [ha, hs]; rfl
  · rw [ha, hs]
    obtain hz | hz | hz := hz <;> simp [hz, alarmStep, alarmPromote, ← hzero]
  · rw [ha, hs, hz]
    simp [alarmStep, alarmPromote, ht]
  · rw [ha, hs, hz]
    simp [alarmStep, alarmPromote, ht]
  · rw [ha, hz]
    cases x.suspended <;> rfl
  · rw [ha]
    obtain hz | hz | hz := hz <;> simp [hz, alarmStep, alarmPromote, ← hzero]
  · rw [ha, hz]
    simp [alarmStep, alarmPromote, ht]
  · rw [ha, hz]
    simp [alarmStep, alarmPromote, ht]
  · rw [ha, hz]
    cases x.suspended <;> rfl
  · rw [ha, hs]
    obtain hz | hz | hz := hz <;> rw [hz] <;> rfl
  · rw [ha, hs, hz]
    simp [alarmStep, alarmPromote]
  · rw [ha, hs, hz]; rfl
  · rw [ha]
    obtain hz | hz | hz := hz <;> rw [hz] <;> cases x.suspended <;> rfl
  · rw [ha, hs, hz]
    simp [alarmStep, alarmPromote]

/-- Settles O14: outside NORMAL mode there is no band, and demand is the duty of the hour or none. -/
theorem fallbackAndDisabledModes : Obligations.FallbackAndDisabledModes := by
  intro x z w
  have hother : x.mode ≠ .normal → w.band = none ∧ w.heat = false ∧ x.earlyEnd (x.moved z) = false := fun hm => by
    refine ⟨(x.run_band z).trans (if_neg hm), ?_, Evaluation.earlyEnd_other hm _⟩
    rw [← Bool.not_eq_true, show w.heat = _ from x.run_heat z, heatState_iff]
    exact fun h => hm h.2.1
  have hstart : w.fallbackStart = (x.fixMode z).fallbackStart := x.run_fallbackStart z
  refine ⟨fun hd => ?_, fun hd hf => ?_, fun hf ht => ?_, fun h => ?_⟩
  · have hm := Evaluation.mode_disabled hd
    obtain ⟨hb, hh, he⟩ := hother (by rw [hm]; simp)
    obtain ⟨ha, hn⟩ := Evaluation.run_alarm_none (z := z) (x := x) (by rw [hm]; simp)
    have hboost : w.boost = none := (x.run_boost z).trans (if_pos (.inr hm))
    have hdemand : w.demand = .idle := by rw [show w.demand = _ from Evaluation.run_demand_resting hboost, hm]; rfl
    refine ⟨(x.run_mode z).trans hm, hdemand, hh, ha, hn, hboost, hb, ?_, ?_⟩
    · rw [hstart]
      simp [Evaluation.fixMode, hm]
    · rw [x.run_events, he]
      simp only [Bool.false_eq_true, if_false, List.nil_append]
      exact fun h => by simpa using alarmEvents_sub _ _ h
  · intro start
    have hm := Evaluation.mode_fallback hd hf
    obtain ⟨hb, hh, he⟩ := hother (by rw [hm]; simp)
    obtain ⟨ha, hn⟩ := Evaluation.run_alarm_none (z := z) (x := x) (by rw [hm]; simp)
    have hboost : w.boost = z.boost := (x.run_boost z).trans (if_neg (by simp [he, hm]))
    have hfs : (x.fixMode z).fallbackStart = some start := by
      simp only [Evaluation.fixMode, hm, if_true]
      unfold start
      split <;> rfl
    have hduty : z.boost = none → w.demand = if (x.now - start) % 3600 < 60 * x.preset.fallbackOn then .calling .one else .idle := by
      intro hz
      rw [show w.demand = _ from Evaluation.run_demand_resting (hboost.trans hz), hm]
      show dutyDemand (w.fallbackStart.getD x.now) _ _ = _
      rw [hstart, hfs]
      rfl
    refine ⟨(x.run_mode z).trans hm, hstart.trans hfs, hb, hh, ha, hn, hboost,
      fun h => Evaluation.run_demand_boosted (by rw [hm]; simp) (by rwa [show (x.run z).1.boost = z.boost from hboost]),
      fun hz hlt => (hduty hz).trans (if_pos hlt), fun hz hge => (hduty hz).trans (if_neg hge.not_gt)⟩
  · rw [show w.seeded = _ from x.run_seeded z, Evaluation.moved, ZoneRecord.estimateStep_other ht]
    simp [Evaluation.fixMode, hf]
  · have hm : x.mode ≠ .normal := by
      unfold Evaluation.mode
      obtain h | h := h
      · simp [h]
      · simp only [h, if_true]
        split <;> simp
    rw [x.zoneAlarm_mem, (Evaluation.run_alarm_none (z := z) hm).1]
    cases z.alarm <;> simp

end Sys2Proof
end

section
/-!
Requests that read, and requests that set a stored setpoint or the panel map (R41, R43, R44, R156, R158, R160, R171): how an admitted
request is answered, told once for every command.
-/
namespace Sys2Proof.Machine

/-! ## The answer of an admitted request -/

/-- The code of a command (spec/11). -/
def Command.code : Command → Nat
  | .identify => 0x01
  | .getSystem => 0x02
  | .readEvents => 0x03
  | .ackEvents => 0x04
  | .setEventMask => 0x05
  | .getZone => 0x10
  | .setSetpoint => 0x11
  | .setMode => 0x12
  | .startBoost => 0x13
  | .cancelBoost => 0x14
  | .limitPower => 0x20
  | .deferDefrost => 0x21
  | .runProgram => 0x22
  | .abortProgram => 0x23
  | .setPanelMap => 0x24
  | .restart => 0x25
  | .readTable => 0x26
  | .writeTable => 0x30
  | .saveTables => 0x31
  | .serviceHold => 0x32
  | .forceOutput => 0x33

theorem Command.code_of_ofCode {n : Nat} {c : Command} (h : Command.ofCode n = some c) : n = c.code := by
  unfold Command.ofCode at h
  split at h <;> cases h <;> rfl

/-- A response echoes the code of the command that its frame names. -/
theorem Frame.echo_of_command {f : Frame} {c : Command} (h : f.command = some c) : f.echo = byte c.code := by
  unfold Frame.command at h
  unfold Frame.echo
  split at h
  case h_1 => cases h
  case h_2 b hb =>
    rw [hb, ← Command.code_of_ofCode h]
    simp [byte]

/-- The response of a rule's answer on a port. -/
def Answer.respond (a : Answer) (p : Port) (c : Command) : State :=
  a.state.respond p { status := a.status, echo := byte c.code, data := a.data }

section admitted
variable {s : State} {e : Ending} {c : Command} {p : Port} {f : Frame} {q : Ports}

/-- An admitted request is answered by its rule. -/
theorem Admitted.request (h : Admitted s e c p f q) {rule : State → Port → Frame → Answer} {a : Answer}
    (ha : rule { s with ports := q } p f = a) : s.request e (fun f => f.names c) rule = a.respond p c := by
  rw [State.request_admitted h h.names rule, ha, Frame.echo_of_command h.2.2]
  rfl

/-- Where the answer leaves the cycle controller alone, nothing is handed over. -/
theorem Admitted.next (h : Admitted s e c p f q) {rule : State → Port → Frame → Answer} {a : Answer}
    (ha : rule { s with ports := q } p f = a) (hc : a.state.cyc = s.cyc) :
    s.finish (s.request e (fun f => f.names c) rule) = .next (a.respond p c).settle := by
  rw [h.request ha]
  exact State.finish_same (congrArg CycleRecord.state hc) (congrArg CycleRecord.path hc)

end admitted

theorem Frame.zone_none {f : Frame} (h : 4 ≤ f.arg 0) : f.zone = none := by
  unfold Frame.zone zoneOf
  split
  case h_5 => rfl
  all_goals omega

/-! ## Reading -/

theorem ruleGetZone_zone (s : State) (p : Port) {f : Frame} {z : Zone} (hz : f.zone = some z) :
    ruleGetZone s p f = { state := s, status := .ok, data := s.zoneView z } := by
  unfold ruleGetZone
  rw [hz]

theorem ruleGetZone_none (s : State) (p : Port) {f : Frame} (hz : f.zone = none) : ruleGetZone s p f = .refuse s .badArgument := by
  unfold ruleGetZone
  rw [hz]

/-- The identity is written from the loads, the accepted version and READY (R158, R170). -/
theorem State.identity_eq (s : State) : s.identity = be16 0x0C41 ++ [Config.siliconRevision]
    ++ be16 (if s.store.imageLoaded = true ∧ s.store.settingsLoaded = true then s.store.imageVersion else 0)
    ++ [if s.ready then 1 else 0] := by
  have hf : vFlag s.ready = [if s.ready then 1 else 0] := by cases s.ready <;> rfl
  unfold State.identity StoreRecord.shownVersion StoreRecord.loaded
  rw [hf]
  simp only [Bool.and_eq_true]

theorem ruleReadTable_entry (s : State) (p : Port) {f : Frame} {k : TableKind} (hk : TableKind.ofCode (f.arg 0 / 32) = some k)
    (hi : f.arg 0 % 32 < k.count) :
    ruleReadTable s p f = { state := s, status := .ok, data := s.tables.entry k (f.arg 0 % 32) } := by
  have hn : f.namesEntry = some (k, f.arg 0 % 32) := by
    unfold Frame.namesEntry Frame.tableKind
    rw [hk]
    exact if_pos hi
  unfold ruleReadTable
  rw [hn]

theorem ruleReadTable_refuses (s : State) (p : Port) {f : Frame}
    (h : TableKind.ofCode (f.arg 0 / 32) = none ∨ ∃ k, TableKind.ofCode (f.arg 0 / 32) = some k ∧ k.count ≤ f.arg 0 % 32) :
    ruleReadTable s p f = .refuse s .badArgument := by
  have hn : f.namesEntry = none := by
    unfold Frame.namesEntry Frame.tableKind
    rcases h with hk | ⟨k, hk, hi⟩
    · rw [hk]
    · rw [hk]
      exact if_neg (Nat.not_lt.mpr hi)
  unfold ruleReadTable
  rw [hn]

/-! ## A stored setpoint and the panel map -/

theorem clampStatus_eq (v w : Int) : clampStatus (decide (v ≠ w)) = if v = w then .ok else .okClamped := by
  by_cases h : v = w <;> simp [clampStatus, h]

/-- A change of the settings is told to the two other ports, and to no mask (R43, R163). -/
theorem State.raiseSettingsChanged_holds (s : State) (p r : Port) (k : EventKind) :
    holdsKind ((s.raiseSettingsChanged p).events.get r).set k
      = (holdsKind (s.events.get r).set k || (decide (k = .settingsChanged) && decide (r ≠ p))) := by
  rw [State.raiseSettingsChanged_get]
  by_cases h : r = p
  · simp [h]
  · simp [h, State.raise_holds]

theorem State.raiseSettingsChanged_mask (s : State) (p r : Port) :
    ((s.raiseSettingsChanged p).events.get r).mask = (s.events.get r).mask := by
  rw [State.raiseSettingsChanged_get]
  split
  · rfl
  · exact s.raise_mask _ r

theorem State.settingsChanged_holds (s : State) (p r : Port) (k : EventKind) :
    holdsKind ((s.settingsChanged p).events.get r).set k
      = (holdsKind (s.events.get r).set k || (decide (k = .settingsChanged) && decide (r ≠ p))) :=
  s.markDirty.raiseSettingsChanged_holds p r k

/-- What storing a setpoint leaves: the record, the dirty settings and the events of a change (R41, R43). -/
theorem State.storeSetpoint_eq (s : State) (p : Port) (z : Zone) (v : Int) :
    s.storeSetpoint p z v = { s with
      zones := s.zones.set z { s.zones.get z with setpoint := v }
      events := (s.storeSetpoint p z v).events
      store := if (s.zones.get z).setpoint = v then s.store else { s.store with dirty := true, quiet := some 30 } } := by
  unfold State.storeSetpoint
  by_cases h : (s.zones.get z).setpoint = v
  · simp only [h, if_true]
    rfl
  · simp only [h, if_false]
    rfl

theorem State.storeSetpoint_cyc (s : State) (p : Port) (z : Zone) (v : Int) : (s.storeSetpoint p z v).cyc = s.cyc := by
  rw [State.storeSetpoint_eq]

theorem State.storeSetpoint_mask (s : State) (p : Port) (z : Zone) (v : Int) (r : Port) :
    ((s.storeSetpoint p z v).events.get r).mask = (s.events.get r).mask := by
  unfold State.storeSetpoint
  dsimp only
  split
  · rfl
  · exact State.raiseSettingsChanged_mask _ p r

theorem State.storeSetpoint_holds (s : State) (p : Port) (z : Zone) (v : Int) (r : Port) (k : EventKind) :
    holdsKind ((s.storeSetpoint p z v).events.get r).set k
      = (holdsKind (s.events.get r).set k
          || (decide (k = .settingsChanged) && decide (r ≠ p) && decide ((s.zones.get z).setpoint ≠ v))) := by
  unfold State.storeSetpoint
  dsimp only
  split
  case isTrue h => simp [h]
  case isFalse h =>
    simpa [h] using State.settingsChanged_holds (s.setZone z { s.zones.get z with setpoint := v }) p r k

theorem ruleSetSetpoint_zone (s : State) (p : Port) {f : Frame} {z : Zone} (hz : f.zone = some z)
    (h : (s.tablePreset z).minSetpoint ≤ (s.tablePreset z).maxSetpoint) {v : Int}
    (hv : v = max (s.tablePreset z).minSetpoint (min (s.tablePreset z).maxSetpoint (f.argInt 1))) :
    ruleSetSetpoint s p f
      = { state := s.storeSetpoint p z v, status := if v = f.argInt 1 then .ok else .okClamped, data := beInt16 v } := by
  unfold ruleSetSetpoint
  simp only [hz, clampInt_eq h, clampStatus_eq, hv]

theorem ruleSetSetpoint_none (s : State) (p : Port) {f : Frame} (hz : f.zone = none) :
    ruleSetSetpoint s p f = .refuse s .badArgument := by
  unfold ruleSetSetpoint
  rw [hz]

/-- What replacing the panel map leaves (R156). -/
theorem ruleSetPanelMap_eq (s : State) (p : Port) {f : Frame} {m : PerZone Bool} (hm : panelOf (byte (f.arg 0)) = m) :
    ruleSetPanelMap s p f = .ok { s with
      panel := m
      events := (ruleSetPanelMap s p f).state.events
      store := if m = s.panel then s.store else { s.store with dirty := true, quiet := some 30 } } := by
  unfold ruleSetPanelMap
  rw [hm]
  by_cases h : m = s.panel
  · simp only [h, if_true]
    rfl
  · simp only [h, if_false]
    rfl

theorem ruleSetPanelMap_holds (s : State) (p : Port) {f : Frame} {m : PerZone Bool} (hm : panelOf (byte (f.arg 0)) = m) (r : Port)
    (k : EventKind) : holdsKind ((ruleSetPanelMap s p f).state.events.get r).set k
      = (holdsKind (s.events.get r).set k || (decide (k = .settingsChanged) && decide (r ≠ p) && decide (m ≠ s.panel))) := by
  unfold ruleSetPanelMap
  rw [hm]
  dsimp only
  split
  case isTrue h => simp [h, Answer.ok]
  case isFalse h =>
    simpa [h, Answer.ok] using State.settingsChanged_holds { s with panel := m } p r k

end Sys2Proof.Machine

namespace Sys2Proof

open Sys2Proof.Machine

/-- Settles O41: a reading rule answers with the state as it is and with the view of that state; a zone, a kind or an index that the
catalogue does not hold is refused. -/
theorem readsReturnTheirViews : Obligations.ReadsReturnTheirViews := by
  intro s e p f q answered
  refine ⟨fun h => ?_, fun z h hz => ?_, fun h hz => ?_, fun h => ?_, fun k h hk hi => ?_, fun h hn => ?_⟩
  · exact (h.next (rule := ruleIdentify) rfl rfl).trans
      (congrArg (fun d => answered 0x01 .ok d) (State.identity_eq { s with ports := q }))
  · exact h.next (ruleGetZone_zone _ p hz) rfl
  · exact h.next (ruleGetZone_none _ p (Frame.zone_none hz)) rfl
  · exact h.next (rule := ruleGetSystem) rfl rfl
  · exact h.next (ruleReadTable_entry _ p hk hi) rfl
  · exact h.next (ruleReadTable_refuses _ p hn) rfl

/-- Settles O45: the setpoint is clamped and stored, the map is replaced, and a change of either marks the settings and tells the two
other ports. -/
theorem setpointAndPanelMapAreStored : Obligations.SetpointAndPanelMapAreStored := by
  refine ⟨?_, ?_⟩
  · intro s e p f q h asked
    refine ⟨fun hz => h.next (ruleSetSetpoint_none _ p (Frame.zone_none hz)) rfl, ?_⟩
    intro z hz hr v
    have hq := h.next (ruleSetSetpoint_zone { s with ports := q } p hz hr (v := v) rfl)
      (State.storeSetpoint_cyc { s with ports := q } p z v)
    refine ⟨_, hq, ?_, fun r => State.storeSetpoint_mask { s with ports := q } p z v r,
      fun r k => State.storeSetpoint_holds { s with ports := q } p z v r k⟩
    exact congrArg (fun u => (State.respond u p _).settle) (State.storeSetpoint_eq { s with ports := q } p z v)
  · intro s e p f q h b map
    have hm : panelOf (byte (f.arg 0)) = map := rfl
    have ha := ruleSetPanelMap_eq { s with ports := q } p hm
    exact ⟨_, h.next ha rfl, rfl, fun r k => ruleSetPanelMap_holds { s with ports := q } p hm r k⟩

end Sys2Proof
end

section
/-!
SET_MODE and the boosts (R28, R29, R37 to R40, R42, R43): the record that each leaves, and what the hand-over of its demand change to the
arbiter, the answer and the end of the command leave of it.
-/
namespace Sys2Proof.Machine

/-! ## A demand change handed over, answered and ended -/

/-- What a demand change, an answer and the end of a command leave: the owned records but the ports, the image store, and the event sets
but for DEFROST_BEGIN. -/
structure Follows (s t : State) : Prop where
  touches : Touches [.ports] s t
  store : t.store = s.store
  grow : EventsGrow [.defrostBegin] s t

theorem Follows.trans {s t u : State} (h : Follows s t) (k : Follows t u) : Follows s u :=
  ⟨h.touches.trans k.touches, k.store.trans h.store, h.grow.trans k.grow⟩

theorem Follows.zones {s t : State} (h : Follows s t) : t.zones = s.zones := h.touches .zones (by simp)
theorem Follows.channels {s t : State} (h : Follows s t) : t.channels = s.channels := h.touches .channels (by simp)
theorem Follows.doors {s t : State} (h : Follows s t) : t.doors = s.doors := h.touches .doors (by simp)
theorem Follows.tables {s t : State} (h : Follows s t) : t.tables = s.tables := h.touches .tables (by simp)
theorem Follows.acct {s t : State} (h : Follows s t) : t.acct = s.acct := h.touches .acct (by simp)

theorem Follows.holds {s t : State} (h : Follows s t) {k : EventKind} (hk : k ≠ .defrostBegin) (p : Port) :
    holdsKind (t.events.get p).set k = holdsKind (s.events.get p).set k := h.grow.only p k (by simpa using hk)

theorem State.demandChanged_follows (s : State) (z : Zone) (b a : Demand) (ps : PathSet) : Follows s (s.demandChanged z b a ps) :=
  ⟨(s.demandChanged_quiet z b a ps).mono (by simp), (s.demandChanged_turn z b a ps).store, (s.demandChanged_turn z b a ps).grow _⟩

theorem State.respond_follows (s : State) (p : Port) (x : Response) : Follows s (s.respond p x) :=
  ⟨s.respond_touches p x, rfl, .of_events rfl⟩

/-- A command's end: the hand-over of the cycle state and the outputs. -/
theorem State.ended_follows (s t : State) : Follows t (State.handOver s t).settle :=
  have h := State.handOver_reacts s t
  ⟨((State.handOver_quiet s t).trans (State.settle_quiet _)).mono (by simp), h.store, h.grow.trans (.of_events rfl)⟩

theorem State.respond_answer (s : State) (p : Port) (x : Response) : (s.respond p x).answer p = x := by
  unfold State.respond State.answer Ports.respond Ports.transmit
  dsimp only
  split_ifs <;> exact PerPort.get_set_same _ _ _

/-- The end of a command leaves the answer given on its port. -/
theorem State.ended_answer (s t : State) (p : Port) (x : Response) : (State.handOver s (t.respond p x)).settle.answer p = x := by
  have hp : (State.handOver s (t.respond p x)).settle.ports = (t.respond p x).ports := State.handOver_quiet s _ .ports (by simp)
  unfold State.answer
  rw [hp]
  exact t.respond_answer p x

/-- A command that leaves the arbiter and the cycle controller alone ends with them as they were. -/
theorem State.ended_same {s t : State} (ha : t.arb = s.arb) (hc : t.cyc = s.cyc) :
    (State.handOver s t).settle.arb = s.arb ∧ (State.handOver s t).settle.cyc = s.cyc := by
  rw [State.handOver_same (congrArg CycleRecord.state hc) (congrArg CycleRecord.path hc)]
  exact ⟨ha, hc⟩

/-- A demand that stays as it is is not handed to the arbiter. -/
theorem State.demandChanged_same (s : State) (z : Zone) (d : Demand) (ps : PathSet) : s.demandChanged z d d ps = s := by
  cases d with
  | idle => rfl
  | calling l => exact if_pos rfl

/-- A zone that has left the arbiter has no entry there (R28). -/
theorem State.leave_entries {s t : State} {z : Zone} (h : SameCalls (s.leave z) t) :
    ∀ x ∈ t.arb.queue ++ t.arb.served, x.zone ≠ z := by
  intro x hx
  have hc : x.call ∈ t.arb.calls := List.mem_map_of_mem hx
  have hf := (List.Perm.trans h (s.leave_calls z)).mem_iff.mp hc
  exact of_decide_eq_true (List.mem_filter.mp hf).2

/-! ## SET_MODE (R42) -/

theorem ruleSetMode_none (s : State) (p : Port) {f : Frame} (hz : f.zone = none) : ruleSetMode s p f = .refuse s .badArgument := by
  unfold ruleSetMode
  rw [hz]

theorem ruleSetMode_zone (s : State) (p : Port) {f : Frame} {z : Zone} (hz : f.zone = some z) :
    ruleSetMode s p f = if 16 ≤ f.arg 1 ∨ (s.tables.preset (f.arg 1)).mask.get z = false then .refuse s .badArgument
      else if f.arg 1 = (s.zones.get z).preset then { state := s, status := .ok, data := beInt16 (s.zones.get z).setpoint }
      else { state := s.changeMode p z (f.arg 1), status := .ok,
             data := beInt16 (s.tables.preset (f.arg 1)).defaultSetpoint } := by
  unfold ruleSetMode
  rw [hz]

/-- Told settings are dirty, and every port but the one that asked holds the event (R43). -/
theorem State.settingsChanged_follows {s t : State} {p : Port} (h : Follows (s.settingsChanged p) t) :
    Touches [.ports] s t ∧ t.store = { s.store with dirty := true, quiet := some 30 }
      ∧ (∀ r, r ≠ p → holdsKind (t.events.get r).set .settingsChanged = true)
      ∧ ∀ k, k ≠ .defrostBegin → holdsKind (t.events.get p).set k = holdsKind (s.events.get p).set k := by
  refine ⟨?_, h.store, fun r hr => ?_, fun k hk => ?_⟩
  · exact ((s.settingsChanged_quiet p).mono (by simp)).trans h.touches
  · rw [h.holds (by simp), State.settingsChanged_holds]
    simp [hr]
  · rw [h.holds hk, State.settingsChanged_holds]
    simp

/-! ## Boosts (R37 to R40) -/

/-- A zone's entries in force follow its preset and what a table write kept for it (R19, R22). -/
theorem State.entriesOf_same {s t : State} {z : Zone} (hp : (t.zones.get z).preset = (s.zones.get z).preset)
    (hk : (t.zones.get z).kept = (s.zones.get z).kept) (ht : t.tables = s.tables) :
    t.presetOf z = s.presetOf z ∧ t.ladderOf z = s.ladderOf z := by
  simp only [State.presetOf, State.ladderOf, State.tablePreset, hp, hk, ht, and_self]

/-- A demand set on a record whose entries in force are those of before (R28, R29). -/
theorem State.setDemand_of {s u : State} {z : Zone} {r : ZoneRecord} (hz : u.zones = s.zones.set z r)
    (hp : r.preset = (s.zones.get z).preset) (hk : r.kept = (s.zones.get z).kept) (hd : r.demand = (s.zones.get z).demand)
    (hm : r.mode = (s.zones.get z).mode) (hb : r.band = (s.zones.get z).band) (hh : r.heat = (s.zones.get z).heat)
    (ht : u.tables = s.tables) (d : Demand) :
    u.setDemand z d
      = State.demandChanged { u with zones := s.zones.set z { r with demand := d, heat := (s.demanded z d).heat } } z
          (s.zones.get z).demand d (s.presetOf z).pathSet := by
  have hr : u.zones.get z = r := by rw [hz, PerZone.get_set_same]
  obtain ⟨he, hl⟩ := State.entriesOf_same (s := s) (t := u) (z := z) (hr ▸ hp) (hr ▸ hk) ht
  have hw : u.demanded z d = { r with demand := d, heat := (s.demanded z d).heat } := by
    simp only [State.demanded, hr, he, hl, hm, hb, hh]
  have hs : u.setZone z (u.demanded z d)
      = { u with zones := s.zones.set z { r with demand := d, heat := (s.demanded z d).heat } } := by
    rw [hw, State.setZone, hz, PerZone.set_set]
  rw [State.setDemand_eq, hs, hr, hd, he]

/-- A zone's record when its boost is removed (R40). -/
def State.unboosted (s : State) (z : Zone) : ZoneRecord :=
  { s.zones.get z with boost := none, demand := s.demandAfterBoost z, heat := (s.demanded z (s.demandAfterBoost z)).heat }

theorem State.removeBoost_eq (s : State) (z : Zone) :
    s.removeBoost z
      = State.demandChanged { s with zones := s.zones.set z (s.unboosted z), events := s.events.map (·.add .boostEnd) } z
          (s.zones.get z).demand (s.demandAfterBoost z) (s.presetOf z).pathSet :=
  State.setDemand_of (s := s) (u := (s.setZone z { s.zones.get z with boost := none }).raise .boostEnd) rfl rfl rfl rfl rfl rfl rfl
    rfl _

theorem State.removeBoost_eq_of {s : State} {z : Zone} {zs : PerZone ZoneRecord} (hz : zs = s.zones.set z (s.unboosted z)) :
    s.removeBoost z = State.demandChanged { s with zones := zs, events := s.events.map (·.add .boostEnd) } z
      (s.zones.get z).demand (s.demandAfterBoost z) (s.presetOf z).pathSet := by
  rw [hz]
  exact s.removeBoost_eq z

/-- What a removal leaves when the command has ended: the zone's record, and BOOST_END in every set. -/
theorem State.removeBoost_follows {s t : State} {z : Zone} (h : Follows (s.removeBoost z) t) :
    Follows { s with zones := s.zones.set z (s.unboosted z), events := s.events.map (·.add .boostEnd) } t := by
  rw [s.removeBoost_eq z] at h
  exact (State.demandChanged_follows _ _ _ _ _).trans h

theorem State.removeBoost_zones {s t : State} {z : Zone} (h : Follows (s.removeBoost z) t) :
    t.zones = s.zones.set z (s.unboosted z) ∧ t.zones.get z = s.unboosted z := by
  have hz := (State.removeBoost_follows h).zones
  exact ⟨hz, by rw [hz, PerZone.get_set_same]⟩

theorem State.removeBoost_holds {s t : State} {z : Zone} (h : Follows (s.removeBoost z) t) (p : Port) :
    holdsKind (t.events.get p).set .boostEnd = true :=
  (State.removeBoost_follows h).grow.keeps p .boostEnd ((s.raise_holds .boostEnd .boostEnd p).trans (by simp))

/-- The heat of a zone whose boost is removed (R29, R40). -/
theorem State.unboosted_heat (s : State) (z : Zone) :
    ((s.zones.get z).band = none → (s.unboosted z).heat = false)
      ∧ ∀ k, (s.zones.get z).band = some k →
          ((s.unboosted z).heat = true ↔ z = .flex ∧ (s.zones.get z).mode = .normal ∧ (s.presetOf z).heaterEnable = true
            ∧ s.demandAfterBoost z = .idle ∧ (((s.ladderOf z).band k).heat = .on
              ∨ (((s.ladderOf z).band k).heat = .hold ∧ (s.zones.get z).heat = true))) := by
  have hi := heatState_iff z (s.presetOf z) (s.zones.get z).mode ((s.zones.get z).band.map (s.ladderOf z).band)
    (s.demandAfterBoost z) (s.zones.get z).heat
  change (s.unboosted z).heat = true ↔ _ at hi
  refine ⟨fun hb => ?_, fun k hb => ?_⟩
  · rw [← Bool.not_eq_true, hi, hb]
    simp
  · rw [hi, hb]
    simp

/-- The expiry a boost of some minutes gives (R38). -/
def State.boostExpiry (s : State) (z : Zone) (minutes : Nat) : Nat :=
  match (s.zones.get z).boost with
  | none => s.now + 60 * minutes
  | some b => max b.expiry (s.now + 60 * minutes)

/-- A zone's record when a boost is created or merged: at level 3 no heat is kept (R29, R38). -/
def State.boosted (s : State) (z : Zone) (minutes : Nat) (p : Port) : ZoneRecord :=
  { s.zones.get z with
    boost := some { expiry := s.boostExpiry z minutes, port := p }, demand := .calling .three, heat := false }

theorem State.demanded_heat_calling (s : State) (z : Zone) (l : CallLevel) : (s.demanded z (.calling l)).heat = false := by
  unfold State.demanded
  rw [← Bool.not_eq_true, heatState_iff]
  simp

theorem State.boost_eq (s : State) (z : Zone) (minutes : Nat) (p : Port) :
    s.boost z minutes p = State.demandChanged { s with zones := s.zones.set z (s.boosted z minutes p) } z (s.zones.get z).demand
      (.calling .three) (s.presetOf z).pathSet := by
  have h := State.setDemand_of (s := s) (z := z)
    (u := s.setZone z { s.zones.get z with boost := some { expiry := s.boostExpiry z minutes, port := p } }) rfl rfl rfl rfl rfl rfl rfl
    rfl (.calling .three)
  rw [State.demanded_heat_calling] at h
  exact h

theorem State.boost_zones (s : State) (z : Zone) (minutes : Nat) (p : Port) :
    (s.boost z minutes p).zones = s.zones.set z (s.boosted z minutes p) := by
  rw [State.boost_eq]
  exact (State.demandChanged_follows _ _ _ _ _).zones

theorem clampNat_eq {lo hi : Nat} (h : lo ≤ hi) (v : Nat) : clampNat lo hi v = max lo (min hi v) := by
  unfold clampNat
  split_ifs <;> omega

/-- START_BOOST and CANCEL_BOOST refuse a frame that names no zone. -/
theorem ruleStartBoost_none (s : State) (p : Port) {f : Frame} (hz : f.zone = none) : ruleStartBoost s p f = .refuse s .badArgument := by
  unfold ruleStartBoost
  rw [hz]

theorem ruleCancelBoost_none (s : State) (p : Port) {f : Frame} (hz : f.zone = none) :
    ruleCancelBoost s p f = .refuse s .badArgument := by
  unfold ruleCancelBoost
  rw [hz]

theorem ruleStartBoost_disabled (s : State) (p : Port) {f : Frame} {z : Zone} (hz : f.zone = some z)
    (hm : (s.zones.get z).mode = .disabled) : ruleStartBoost s p f = .refuse s .badArgument := by
  unfold ruleStartBoost
  rw [hz]
  exact if_pos hm

/-- The answer of START_BOOST: the seconds left, and whether the minutes were clamped (R38). -/
theorem ruleStartBoost_taken (s : State) (p : Port) {f : Frame} {z : Zone} (hz : f.zone = some z)
    (hm : (s.zones.get z).mode ≠ .disabled) (hb : 1 ≤ (s.presetOf z).boostMax) {m : Nat}
    (he : m = max 1 (min (s.presetOf z).boostMax (f.arg16 1))) :
    ruleStartBoost s p f = { state := s.boost z m p, status := if m = f.arg16 1 then .ok else .okClamped,
                             data := be32 (s.boostExpiry z m - s.now) } := by
  have hst : clampStatus (decide (m ≠ f.arg16 1)) = if m = f.arg16 1 then .ok else .okClamped := by
    by_cases h : m = f.arg16 1 <;> simp [clampStatus, h]
  have hbo : (((s.boost z m p).zones.get z).boost.map (·.expiry)).getD s.now = s.boostExpiry z m := by
    rw [State.boost_zones, PerZone.get_set_same]
    rfl
  unfold ruleStartBoost
  simp only [hz, hm, if_false, clampNat_eq hb, ← he, hst, hbo]

theorem ruleCancelBoost_without (s : State) (p : Port) {f : Frame} {z : Zone} (hz : f.zone = some z)
    (hb : (s.zones.get z).boost = none) : ruleCancelBoost s p f = .refuse s .notRunning := by
  unfold ruleCancelBoost
  simp only [hz, hb]

/-- A cancel is taken from the recorded port or from one of a lower level (R39). -/
theorem ruleCancelBoost_boosted (s : State) (p : Port) {f : Frame} {z : Zone} (hz : f.zone = some z) {b : Boost}
    (hb : (s.zones.get z).boost = some b) : ruleCancelBoost s p f
      = if p = b.port ∨ p.level < b.port.level then .ok (s.removeBoost z) else .refuse s .denied := by
  unfold ruleCancelBoost
  simp only [hz, hb, mayCancel, Bool.or_eq_true, decide_eq_true_iff]

/-- START_BOOST taken: how the command ends (R38). -/
theorem exec_startBoost {s : State} {e : Ending} {p : Port} {f : Frame} {q : Ports} {z : Zone} (h : Admitted s e .startBoost p f q)
    (hz : f.zone = some z) (hm : (s.zones.get z).mode ≠ .disabled) (hb : 1 ≤ (s.presetOf z).boostMax) {m : Nat}
    (he : m = max 1 (min (s.presetOf z).boostMax (f.arg16 1))) {called : State}
    (hc : called = { s with ports := q, zones := s.zones.set z (s.boosted z m p) }) :
    exec (.startBoost e) s
      = s.finish ((called.demandChanged z (s.zones.get z).demand (.calling .three) (s.presetOf z).pathSet).respond p
          { status := if m = f.arg16 1 then .ok else .okClamped, echo := 0x13, data := be32 (s.boostExpiry z m - s.now) }) := by
  have hr := h.request (ruleStartBoost_taken { s with ports := q } p hz hm hb he)
  have hs : State.boost { s with ports := q } z m p
      = called.demandChanged z (s.zones.get z).demand (.calling .three) (s.presetOf z).pathSet := by
    rw [State.boost_eq, hc]
    rfl
  rw [hs] at hr
  exact congrArg s.finish hr

theorem State.boostExpiry_due {s : State} {z : Zone} {b : Boost} (hb : (s.zones.get z).boost = some b) (hle : b.expiry ≤ s.now) :
    s.due (.boostExpiry z) = true := by
  show s.come ((s.zones.get z).boost.map (·.expiry)) = true
  rw [hb]
  exact decide_eq_true hle

/-- HOLD keeps level 1 where a boost has been removed (R40). -/
theorem ladderDemand_released (a : DemandAttr) : ladderDemand (.calling .one) a
    = if a = .none then .idle else if a = .urgent then .calling .two else .calling .one := by
  cases a <;> rfl

/-- The demand that a zone takes without its boost, mode by mode (R27, R34, R40). -/
theorem State.demandAfterBoost_normal {s : State} {z : Zone} (hm : (s.zones.get z).mode = .normal) :
    s.demandAfterBoost z = match (s.zones.get z).band with
      | none => .idle
      | some k => ladderDemand (.calling .one) ((s.ladderOf z).band k).demand := by
  unfold State.demandAfterBoost restingDemand
  dsimp only
  rw [hm]
  cases (s.zones.get z).band <;> rfl

theorem State.demandAfterBoost_fallback {s : State} {z : Zone} (hm : (s.zones.get z).mode = .fallback) :
    s.demandAfterBoost z = dutyDemand ((s.zones.get z).fallbackStart.getD s.now) s.now (s.presetOf z).fallbackOn := by
  unfold State.demandAfterBoost restingDemand
  dsimp only
  rw [hm]

end Sys2Proof.Machine

namespace Sys2Proof

open Sys2Proof.Machine

/-- Settles O46: the rule's cases, and for a change the hand-over of the flushed record's demand. -/
theorem modeChangeFlushesTheZone : Obligations.ModeChangeFlushesTheZone := by
  intro s e p f q h
  refine ⟨fun hz => h.next (ruleSetMode_none _ p (Frame.zone_none hz)) rfl, fun z hz => ?_⟩
  intro i d
  have hrule := ruleSetMode_zone { s with ports := q } p hz
  refine ⟨fun hbad => h.next (hrule.trans (if_pos hbad)) rfl, fun hi hm hsame => ?_, fun hi hm hne => ?_⟩
  · have hgood : ¬ (16 ≤ i ∨ (s.tables.preset i).mask.get z = false) := by simp [hm, hi]
    exact h.next (hrule.trans ((if_neg hgood).trans (if_pos hsame))) rfl
  · intro flushed
    have hgood : ¬ (16 ≤ i ∨ (s.tables.preset i).mask.get z = false) := by simp [hm, hi]
    let u := flushed.demandChanged z (s.zones.get z).demand .idle (s.presetOf z).pathSet
    let x : Response := { status := .ok, echo := 0x12, data := beInt16 d }
    have hexec : exec (.setMode e) s = s.finish ((u.settingsChanged p).respond p x) :=
      congrArg s.finish (h.request (hrule.trans ((if_neg hgood).trans (if_neg hne))))
    have hu : Follows flushed u := flushed.demandChanged_follows _ _ _ _
    obtain ⟨ht, hstore, hothers, hown⟩ :=
      State.settingsChanged_follows (((u.settingsChanged p).respond_follows p x).trans (s.ended_follows _))
    have hall := hu.touches.trans ht
    refine ⟨_, hexec, hexec, s.ended_answer _ p x, hall .zones (by simp), fun hd => ?_, fun hd => ?_, ?_, hothers, ?_, ?_, ?_,
      hall .channels (by simp), hall .doors (by simp), hall .tables (by simp), hall .acct (by simp)⟩
    · obtain ⟨l, hl⟩ : ∃ l, (s.zones.get z).demand = .calling l := by
        cases hx : (s.zones.get z).demand with
        | idle => exact absurd hx hd
        | calling l => exact ⟨l, rfl⟩
      have hleave : u = flushed.leave z := by unfold u; rw [hl]; rfl
      exact State.leave_entries (s := flushed) (hleave ▸ (State.handOver_calls s ((u.settingsChanged p).respond p x)))
    · have hidle : u = flushed := by unfold u; rw [hd]; rfl
      have harb : u.arb = s.arb := by rw [hidle]
      have hcyc : u.cyc = s.cyc := by rw [hidle]
      exact State.ended_same (t := (u.settingsChanged p).respond p x) harb hcyc
    · rw [hstore, hu.store]
    · exact (hown _ (by simp)).trans (hu.holds (by simp) p)
    · exact (hown _ (by simp)).trans (hu.holds (by simp) p)
    · exact (hown _ (by simp)).trans (hu.holds (by simp) p)

/-- Settles O15: a boost is created or merged at level 3, and its removal is one operation for a taken cancel and for its expiry. -/
theorem boostsStartEndAndAreCancelled : Obligations.BoostsStartEndAndAreCancelled := by
  refine ⟨?_, ?_, ?_, ?_⟩
  · intro s e p f q z hz r
    refine ⟨fun h => ⟨fun hm => h.next (ruleStartBoost_disabled _ p hz hm) rfl, ?_⟩, fun h => ?_⟩
    · intro hm m expiry called hb
      have hexec := exec_startBoost h hz hm hb (m := m) rfl (called := called) rfl
      let u := called.demandChanged z r.demand (.calling .three) (s.presetOf z).pathSet
      let x : Response := { status := if m = f.arg16 1 then .ok else .okClamped, echo := 0x13, data := be32 (expiry - s.now) }
      have ht : Follows called (State.handOver s (u.respond p x)).settle :=
        ((called.demandChanged_follows z _ _ _).trans (u.respond_follows p x)).trans (s.ended_follows _)
      refine ⟨hexec, _, hexec, s.ended_answer u p x, ht.zones, fun hd => ?_, ht.channels, ht.doors, ht.tables, ht.store⟩
      have hsame : u = called := by
        unfold u
        rw [hd]
        exact called.demandChanged_same z _ _
      have harb : u.arb = s.arb := by rw [hsame]
      have hcyc : u.cyc = s.cyc := by rw [hsame]
      exact State.ended_same (t := u.respond p x) harb hcyc
    · refine ⟨fun hb => h.next (ruleCancelBoost_without _ p hz hb) rfl, fun b hb hp hl => ?_, fun b hb hp => ?_⟩
      · have hno : ¬ (p = b.port ∨ p.level < b.port.level) := by
          rintro (hx | hx)
          · exact hp hx
          · exact absurd hx (Nat.not_lt.mpr hl)
        exact h.next ((ruleCancelBoost_boosted { s with ports := q } p hz hb).trans (if_neg hno)) rfl
      · have hexec : exec (.cancelBoost e) s
            = s.finish (State.respond (State.removeBoost { s with ports := q } z) p { status := .ok, echo := 0x14, data := [] }) :=
          congrArg s.finish (h.request ((ruleCancelBoost_boosted { s with ports := q } p hz hb).trans (if_pos hp)))
        have ht := (State.respond_follows (State.removeBoost { s with ports := q } z) p
          { status := .ok, echo := 0x14, data := [] }).trans (s.ended_follows _)
        obtain ⟨hzs, hzz⟩ := State.removeBoost_zones ht
        have hf := State.removeBoost_follows ht
        refine ⟨_, hexec, ?_, s.ended_answer _ p _, congrArg ZoneRecord.demand hzz, ?_, ?_, ?_, State.removeBoost_holds ht,
          hf.channels, hf.doors, hf.tables, hf.store⟩
        · exact hexec.trans (congrArg (fun u => s.finish (State.respond u p _)) (State.removeBoost_eq_of hzs))
        · rw [hzz]
          exact hzs
        · rw [hzz]
          exact (State.unboosted_heat { s with ports := q } z).1
        · rw [hzz]
          exact (State.unboosted_heat { s with ports := q } z).2
  · intro s z b hb hle
    have hexec : exec (.boostExpiry z) s = s.finish (s.removeBoost z) :=
      State.event_due (State.boostExpiry_due hb hle) (fun t => t.removeBoost z)
    have ht := s.ended_follows (s.removeBoost z)
    obtain ⟨hzs, hzz⟩ := State.removeBoost_zones ht
    have hf := State.removeBoost_follows ht
    refine ⟨_, hexec, ?_, congrArg ZoneRecord.demand hzz, congrArg ZoneRecord.boost hzz, State.removeBoost_holds ht, ?_, ?_, ?_,
      hf.channels, hf.doors, hf.tables, ?_, hf.store, hf.acct⟩
    · exact hexec.trans (congrArg s.finish (State.removeBoost_eq_of hzs))
    · rw [hzz]
      exact hzs
    · rw [hzz]
      exact (s.unboosted_heat z).1
    · rw [hzz]
      exact (s.unboosted_heat z).2
    · exact ((s.removeBoost_touches z).before ((State.handOver_quiet s _).trans (State.settle_quiet _))) .ports (by simp)
  · intro s z r
    refine ⟨fun hm hb => ?_, fun k hm hb => ?_, fun start hm hs => ?_⟩
    · rw [State.demandAfterBoost_normal hm, hb]
    · rw [State.demandAfterBoost_normal hm, hb]
      exact ladderDemand_released _
    · rw [State.demandAfterBoost_fallback hm, hs]
      rfl
  · intro s e p f q hz
    have hnone := Frame.zone_none hz
    exact ⟨fun h => h.next (ruleStartBoost_none _ p hnone) rfl, fun h => h.next (ruleCancelBoost_none _ p hnone) rfl⟩

end Sys2Proof
end

section
/-!
The arbiter's join, leave and level update (R19, R61 to R63), each told once by the case it falls in, and the debouncing and turning of
a door (R16, R47, R49, R50, R54, R110).
-/
namespace Sys2Proof.Machine

/-! ## Joins, leaves and levels -/

/-- The entry that a zone joins with. -/
def State.joining (s : State) (z : Zone) (ps : PathSet) (l : CallLevel) : Entry :=
  { zone := z, pathSet := ps, level := l, time := s.now }

/-- A join on a current turn that its path set contains rides along (R61). -/
theorem State.join_rides {s : State} {p : Path} {ps : PathSet} (z : Zone) (l : CallLevel) (ht : s.arb.turnPath = some p)
    (hp : ps.contains p = true) (hf : s.act.forced = none) :
    s.join z ps l = { s with arb := { s.arb with served := s.arb.served ++ [s.joining z ps l], holdover := false } } := by
  unfold State.join State.serviceHold
  simp only [ht, hp, hf, Option.isSome_none, Bool.not_false, Bool.and_self, if_true]
  rfl

/-- Any other join goes to the back of the queue (R61, R70). -/
theorem State.join_queues {s : State} {ps : PathSet} (z : Zone) (l : CallLevel)
    (h : (∀ p, s.arb.turnPath = some p → ps.contains p = false) ∨ s.act.forced ≠ none) :
    s.join z ps l = State.arbiterCheck { s with arb := { s.arb with queue := s.arb.queue ++ [s.joining z ps l] } } := by
  unfold State.join State.serviceHold
  refine if_neg ?_
  cases ht : s.arb.turnPath with
  | none => simp
  | some p =>
    rcases h with h | h
    · simp [h p ht]
    · simp [Option.isSome_iff_ne_none.mpr h]

/-- The state that a leave makes before the decision of R69. -/
def State.without (s : State) (z : Zone) : State :=
  { s with arb := { s.arb with queue := withoutZone z s.arb.queue, served := withoutZone z s.arb.served } }

/-- The zone's entry is the last served one, and leaves RUNNING without holdover (R62). -/
def State.LastLeaves (s : State) (z : Zone) : Prop :=
  (∃ x ∈ s.arb.served, x.zone = z) ∧ withoutZone z s.arb.served = [] ∧ s.cyc.state = .running ∧ s.arb.holdover = false
    ∧ s.arb.turnPath ≠ none

theorem Arbiter.serves_iff (a : Arbiter) (z : Zone) : a.serves z = true ↔ ∃ x ∈ a.served, x.zone = z := by
  simp [Arbiter.serves]

theorem State.leave_last {s : State} {z : Zone} (h : s.LastLeaves z) : s.leave z = (s.without z).servedEmptied := by
  obtain ⟨hserved, hempty, hrun, hover, hturn⟩ := h
  exact if_pos ⟨(s.arb.serves_iff z).mpr hserved, hempty, hrun, hover, Option.isSome_iff_ne_none.mpr hturn⟩

theorem State.leave_plain {s : State} {z : Zone} (h : ¬ s.LastLeaves z) : s.leave z = s.without z := by
  refine if_neg fun ⟨hserved, hempty, hrun, hover, hturn⟩ => h ⟨?_, hempty, hrun, hover, ?_⟩
  · exact (s.arb.serves_iff z).mp hserved
  · exact Option.isSome_iff_ne_none.mp hturn

/-- The path set found for a zone is that of an entry of its. -/
theorem Arbiter.mem_of_pathSetOf {a : Arbiter} {z : Zone} {ps : PathSet} (h : a.pathSetOf z = some ps) :
    ∃ x ∈ a.queue ++ a.served, x.zone = z ∧ x.pathSet = ps := by
  unfold Arbiter.pathSetOf at h
  obtain ⟨x, hx, rfl⟩ := Option.map_eq_some_iff.mp h
  exact ⟨x, List.mem_of_find?_eq_some hx, by simpa using List.find?_some hx, rfl⟩

/-- An evaluation that finds no other path set hands the demand over as R28 has it (R19). -/
theorem State.demandEvaluated_same {s : State} {z : Zone} {b a : Demand} {ps : PathSet}
    (h : b = .idle ∨ a = .idle ∨ ∀ x ∈ s.arb.queue ++ s.arb.served, x.zone = z → x.pathSet = ps) :
    s.demandEvaluated z b a ps = s.demandChanged z b a ps := by
  cases b with
  | idle => rfl
  | calling l =>
    cases a with
    | idle => rfl
    | calling m =>
      have hall : ∀ x ∈ s.arb.queue ++ s.arb.served, x.zone = z → x.pathSet = ps := by simpa using h
      cases hq : s.arb.pathSetOf z with
      | none => simp only [State.demandEvaluated, hq]
      | some q =>
        obtain ⟨x, hx, hz, rfl⟩ := Arbiter.mem_of_pathSetOf hq
        simp only [State.demandEvaluated, hq, hall x hx hz, if_true]

/-- A calling zone whose entry carries another path set leaves and joins again (R19). -/
theorem State.demandEvaluated_other {s : State} {z : Zone} {l m : CallLevel} {ps : PathSet}
    (hin : ∃ x ∈ s.arb.queue ++ s.arb.served, x.zone = z)
    (h : ∀ x ∈ s.arb.queue ++ s.arb.served, x.zone = z → x.pathSet ≠ ps) :
    s.demandEvaluated z (.calling l) (.calling m) ps = (s.leave z).join z ps m := by
  cases hq : s.arb.pathSetOf z with
  | none =>
    unfold Arbiter.pathSetOf at hq
    obtain ⟨x, hx, hz⟩ := hin
    have hnone := List.find?_eq_none.mp (Option.map_eq_none_iff.mp hq) x hx
    exact absurd (decide_eq_true hz) hnone
  | some q =>
    obtain ⟨x, hx, hz, rfl⟩ := Arbiter.mem_of_pathSetOf hq
    simp only [State.demandEvaluated, hq, h x hx hz, if_false]

/-! ## Doors -/

/-- A zone takes a door as open with the hold that it had, or a fresh one, and all its doors closed as no hold (R16, R54). -/
theorem State.viewDoors_eq (s : State) (z : Zone) : s.viewDoors z
    = { s.zones.get z with
        doorHold := if z.doors.any (fun d => (s.doors.get d).isOpen) then some ((s.zones.get z).doorHold.getD 0) else none } := by
  unfold State.viewDoors
  dsimp only
  split <;> rfl

/-- A turn of a door moves the doors, the zones' views of them and the after-run (R49, R54, R110). -/
theorem State.doorTurn_eq (s : State) (d : Door) :
    s.doorTurn d = { (s.setDoor d (s.doors.get d).turn).viewAllDoors with act := (s.doorTurn d).act } := by
  unfold State.doorTurn
  dsimp only
  split <;> rfl

theorem State.doorTurn_zone (s : State) (d : Door) (z : Zone) :
    (s.doorTurn d).zones.get z = (s.setDoor d (s.doors.get d).turn).viewDoors z := by
  rw [State.doorTurn_eq]
  exact State.viewAllDoors_zone _ z

/-- A turned door is open where it was closed. -/
theorem DoorRecord.turn_isOpen (r : DoorRecord) : r.turn.isOpen = !r.isOpen := by
  unfold DoorRecord.turn DoorRecord.isOpen
  cases r.openAge <;> rfl

theorem State.setDoor_isOpen (s : State) (d : Door) (e : Door) : (((s.setDoor d (s.doors.get d).turn).doors.get e)).isOpen
    = if e = d then !(s.doors.get d).isOpen else (s.doors.get e).isOpen := by
  by_cases h : e = d
  · subst h
    rw [if_pos rfl, ← DoorRecord.turn_isOpen]
    exact congrArg DoorRecord.isOpen (PerDoor.get_set_same _ _ _)
  · rw [if_neg h]
    exact congrArg DoorRecord.isOpen (PerDoor.get_set_other _ h _)

/-- A zone whose view agrees with its doors keeps it. -/
theorem State.viewDoors_agreeing {s : State} {z : Zone}
    (h : (s.zones.get z).doorHold.isSome = z.doors.any fun d => (s.doors.get d).isOpen) : s.viewDoors z = s.zones.get z := by
  have hkeep : ∀ o : Option Nat, (if o.isSome then some (o.getD 0) else none) = o := by rintro (_ | n) <;> rfl
  rw [State.viewDoors_eq, ← h, hkeep]

/-- A turn leaves the zones that the door does not govern. -/
theorem State.doorTurn_elsewhere {s : State} {d : Door} {z : Zone} (hs : s.DoorViewsAgree) (hd : d ∉ z.doors) :
    (s.doorTurn d).zones.get z = s.zones.get z := by
  rw [State.doorTurn_zone]
  refine State.viewDoors_agreeing ((hs z).trans ?_)
  rw [Bool.eq_iff_iff, List.any_eq_true, List.any_eq_true]
  refine exists_congr fun e => and_congr_right fun he => ?_
  have hne : e ≠ d := fun h => hd (h ▸ he)
  rw [State.setDoor_isOpen, if_neg hne]

/-- An opening starts the hold of a zone that has none (R16). -/
theorem State.doorTurn_opens {s : State} {d : Door} {z : Zone} (hd : d ∈ z.doors) (ho : (s.doors.get d).openAge = none) :
    (s.doorTurn d).zones.get z = { s.zones.get z with doorHold := some ((s.zones.get z).doorHold.getD 0) } := by
  have hany : (z.doors.any fun e => ((s.setDoor d (s.doors.get d).turn).doors.get e).isOpen) = true :=
    List.any_eq_true.mpr ⟨d, hd, by rw [State.setDoor_isOpen, if_pos rfl]; simp [DoorRecord.isOpen, ho]⟩
  rw [State.doorTurn_zone, State.viewDoors_eq, hany]
  rfl

/-- A closing keeps the hold of a zone while another of its doors is open, and ends it otherwise (R16). -/
theorem State.doorTurn_closes {s : State} {d : Door} {z : Zone} (hs : s.DoorViewsAgree) (hd : d ∈ z.doors)
    (ho : (s.doors.get d).openAge.isSome = true) :
    (s.doorTurn d).zones.get z = { s.zones.get z with
      doorHold := if z.doors.any (fun e => decide (e ≠ d) && (s.doors.get e).openAge.isSome)
        then (s.zones.get z).doorHold else none } := by
  have hopen : (s.doors.get d).isOpen = true := ho
  have hany : (fun e => ((s.setDoor d (s.doors.get d).turn).doors.get e).isOpen)
      = fun e => decide (e ≠ d) && (s.doors.get e).openAge.isSome := by
    funext e
    rw [State.setDoor_isOpen]
    by_cases h : e = d
    · simp [h, hopen]
    · simp [h, DoorRecord.isOpen]
  have hhold : (s.zones.get z).doorHold.isSome = true := (hs z).trans (List.any_eq_true.mpr ⟨d, hd, ho⟩)
  obtain ⟨n, hn⟩ := Option.isSome_iff_exists.mp hhold
  have hsame : some ((s.zones.get z).doorHold.getD 0) = (s.zones.get z).doorHold := by rw [hn]; rfl
  rw [State.doorTurn_zone, State.viewDoors_eq, hany, ← hsame]
  rfl

theorem State.doorTransition_due {s : State} {d : Door} {n : Nat} (hr : (s.doors.get d).run = some n) (hn : 5 ≤ n) :
    s.due (.doorTransition d) = true := by
  show s.doorTransitionDue d = true
  simp [State.doorTransitionDue, reached, hr, hn]

end Sys2Proof.Machine

namespace Sys2Proof

open Sys2Proof.Machine

/-- Settles O18: the cases of a demand change, and the path set that an evaluation finds. -/
theorem joinsLeavesAndLevels : Obligations.JoinsLeavesAndLevels := by
  intro s z ps level e others left lastLeaves all
  refine ⟨fun p ht hp hf => State.join_rides z level ht hp hf, State.join_queues z level, State.leave_last, State.leave_plain, ?_,
    s.demandChanged_same z _ ps, rfl, fun b a => State.demandEvaluated_same, fun old => State.demandEvaluated_other, rfl⟩
  intro old hne renewed
  exact if_neg hne

/-- Settles O16: an edge writes one door's record; a turn writes the door, the views of the zones it governs and the after-run. -/
theorem doorsDebounceAndTurn : Obligations.DoorsDebounceAndTurn := by
  refine ⟨fun s d level hne => ?_, fun s d n hr hn hs => ?_⟩
  · exact (if_neg hne).trans (State.finish_same rfl rfl)
  · have heq := s.doorTurn_eq d
    have hcyc : (s.doorTurn d).cyc = s.cyc := by rw [heq]; rfl
    have hexec : exec (.doorTransition d) s = .next (s.doorTurn d).settle :=
      State.event_same (State.doorTransition_due hr hn) (fun t => t.doorTurn d) (congrArg CycleRecord.state hcyc)
        (congrArg CycleRecord.path hcyc)
    refine ⟨_, hexec, ?_, fun z => State.doorTurn_elsewhere hs, fun z => State.doorTurn_opens, fun z => State.doorTurn_closes hs,
      ?_, ?_, ?_⟩
    · show (s.doorTurn d).doors = _
      rw [heq]
      rfl
    · intro ho hfresh
      have hcond : freshDoor d = true ∧ (s.doors.get d).isOpen = false :=
        ⟨by rcases hfresh with rfl | rfl <;> rfl, by simp [DoorRecord.isOpen, ho]⟩
      have hend : s.doorTurn d = ((s.setDoor d (s.doors.get d).turn).viewAllDoors).endAfterRun := if_pos hcond
      rw [hend]
      rfl
    · show (s.doorTurn d).settle = { s with
        doors := (s.doorTurn d).doors, zones := (s.doorTurn d).zones, act := (s.doorTurn d).settle.act }
      rw [heq]
      rfl
    · have hagree := (State.viewAllDoors_agree (s.setDoor d (s.doors.get d).turn))
      have ht : (s.doorTurn d).DoorViewsAgree := by
        rw [heq]
        exact hagree
      exact ht.of_touches (State.settle_quiet _)

end Sys2Proof
end

section
/-!
The orders of the arbiter's checks (what they leave of the paths, the compressor hold and the fan delay), and the timers, limits and
dampers of the actuator block (R32, R57, R110 to R119, R143).
-/
namespace Sys2Proof.Machine

/-! ## Orders to the cycle controller -/

/-- What an order to the cycle controller leaves: all that a turn does not move, the paths, the compressor hold, and an armed fan
delay. -/
structure Ordered (s t : State) : Prop where
  turn : TurnOnly s t
  paths : t.arb.paths = s.arb.paths
  hold : t.arb.compressorHold = s.arb.compressorHold
  armed : s.act.fanDelay = .armed → t.act.fanDelay = .armed

theorem Ordered.refl (s : State) : Ordered s s := ⟨.refl s, rfl, rfl, id⟩

theorem Ordered.trans {s t u : State} (h : Ordered s t) (k : Ordered t u) : Ordered s u :=
  ⟨h.turn.trans k.turn, k.paths.trans h.paths, k.hold.trans h.hold, fun ha => k.armed (h.armed ha)⟩

theorem Ordered.ite {s t u : State} (b : Prop) [Decidable b] (h : Ordered s t) (k : Ordered s u) : Ordered s (if b then t else u) := by
  split
  · exact h
  · exact k

/-- An order after the arbiter has moved its entries, its turn and its marks. -/
theorem Ordered.entries {s t : State} {a : Arbiter} (h : Ordered { s with arb := a } t) (hp : a.paths = s.arb.paths)
    (hh : a.compressorHold = s.arb.compressorHold) : Ordered s t :=
  Ordered.trans ⟨TurnOnly.arb s a, hp, hh, id⟩ h

theorem State.leaveRunning_armed {s : State} (h : s.act.fanDelay = .armed) : s.leaveRunning.act.fanDelay = .armed := by
  unfold State.leaveRunning
  split
  · simp [h]
  · exact h

theorem State.stopOrder_ordered (s : State) : Ordered s s.stopOrder := by
  refine ⟨s.stopOrder_turn, congrArg Arbiter.paths s.stopOrder_arb, congrArg Arbiter.compressorHold s.stopOrder_arb, fun h => ?_⟩
  unfold State.stopOrder
  split
  · exact h
  · exact State.leaveRunning_armed h

theorem State.startOrder_ordered (s : State) (p : Path) : Ordered s (s.startOrder p) := by
  refine ⟨s.startOrder_turn p, congrArg Arbiter.paths (s.startOrder_arb p), congrArg Arbiter.compressorHold (s.startOrder_arb p),
    fun h => ?_⟩
  unfold State.startOrder
  dsimp only
  split
  · exact h
  · exact h

theorem State.transferOrder_ordered (s : State) (q : Path) : Ordered s (s.transferOrder q) :=
  ⟨s.transferOrder_turn q, congrArg Arbiter.paths (s.transferOrder_arb q), congrArg Arbiter.compressorHold (s.transferOrder_arb q),
    State.leaveRunning_armed⟩

theorem State.handStop_ordered (s : State) : Ordered s s.handStop := .entries (State.stopOrder_ordered _) rfl rfl

theorem State.handTransfer_ordered (s : State) (q : Path) : Ordered s (s.handTransfer q) :=
  .entries (State.transferOrder_ordered _ q) rfl rfl

theorem State.startCheck_ordered (s : State) : Ordered s s.startCheck := by
  unfold State.startCheck
  split
  · dsimp only
    split
    · exact .refl s
    · exact .entries (State.startOrder_ordered _ _) rfl rfl
  · exact .refl s

theorem State.candidateCheck_ordered (s : State) : Ordered s s.candidateCheck := by
  unfold State.candidateCheck
  split
  · split
    · exact .refl s
    · dsimp only
      exact Ordered.ite _ (s.handTransfer_ordered _)
        (Ordered.ite _ (.entries (State.handTransfer_ordered _ _) rfl rfl) (.refl s))
  · exact .refl s

theorem State.arbiterCheck_ordered (s : State) : Ordered s s.arbiterCheck :=
  Ordered.ite _ s.startCheck_ordered s.candidateCheck_ordered

theorem State.giveUp_ordered (s : State) : Ordered s s.giveUp := by
  unfold State.giveUp
  dsimp only
  split
  · split
    · exact .entries (State.handTransfer_ordered _ _) rfl rfl
    · exact .entries (State.handStop_ordered _) rfl rfl
  · exact .entries (State.handStop_ordered _) rfl rfl

theorem State.release_ordered (s : State) (p : Path) : Ordered s (s.release p) := Ordered.ite _ s.giveUp_ordered (.refl s)

/-! ## A hand-over blocks at most a path -/

/-- The paths' records stand but for their block. -/
def BlocksOnly (s t : State) : Prop := ∀ p, ∃ b, t.arb.paths.get p = { s.arb.paths.get p with blocked := b }

theorem BlocksOnly.of_paths {s t : State} (h : t.arb.paths = s.arb.paths) : BlocksOnly s t := fun p => ⟨_, by rw [h]⟩

theorem BlocksOnly.trans {s t u : State} (h : BlocksOnly s t) (k : BlocksOnly t u) : BlocksOnly s u := by
  intro p
  obtain ⟨b, hb⟩ := h p
  obtain ⟨c, hc⟩ := k p
  exact ⟨c, by rw [hc, hb]⟩

theorem State.block_blocksOnly (s : State) (p : Path) : BlocksOnly s (s.block p) := by
  intro q
  by_cases h : q = p
  · subst h
    exact ⟨true, PerPath.get_set_same _ _ _⟩
  · exact ⟨_, PerPath.get_set_other _ h _⟩

theorem State.beginProgram_blocksOnly (s : State) (g : Program) : BlocksOnly s (s.beginProgram g) := by
  unfold State.beginProgram
  extract_lets m s1 s2 a s3 s4
  have h2 : BlocksOnly s s2 := State.block_blocksOnly s1 g.path
  have h3 : s3.arb.paths = s2.arb.paths := by unfold s3; split <;> rfl
  have h4 : s4.arb.paths = s3.arb.paths := by unfold s4; split <;> rfl
  exact h2.trans (.of_paths (h4.trans h3))

theorem State.beginTest_blocksOnly (s : State) : BlocksOnly s s.beginTest := by
  unfold State.beginTest
  split
  · split
    · exact s.beginProgram_blocksOnly _
    · exact .of_paths rfl
  · exact .of_paths rfl

theorem State.askRelease_blocksOnly (s : State) (p : Path) : BlocksOnly s (s.askRelease p) :=
  .of_paths (State.release_ordered { s with mgr := { s.mgr with releaseAsked := true } } p).paths

theorem State.managerReact_blocksOnly (s : State) : BlocksOnly s s.managerReact := by
  unfold State.managerReact
  split
  · split
    · exact (s.askRelease_blocksOnly _).trans (State.beginTest_blocksOnly _)
    · exact s.beginTest_blocksOnly
  · exact .of_paths rfl

theorem State.handOver_blocksOnly (s t : State) : BlocksOnly t (State.handOver s t) := by
  unfold State.handOver
  split
  · exact t.managerReact_blocksOnly
  · exact .of_paths rfl

/-! ## Timers that have run out -/

theorem reached_of_le {o : Option Nat} {m n : Nat} (h : o = some n) (hn : m ≤ n) : reached m o = true := by
  rw [h]
  exact decide_eq_true hn

/-- The fault timer of a path has run out: its fault is over, its count stands, and another path is at most blocked (R57). -/
theorem State.faultTimerOut_paths {s t : State} {p : Path} (h : BlocksOnly (s.faultTimerOut p) t) :
    (t.arb.paths.get p).fault = .none ∧ (t.arb.paths.get p).timer = none
      ∧ (t.arb.paths.get p).count = (s.arb.paths.get p).count
      ∧ t.arb.paths.get p.other = { s.arb.paths.get p.other with blocked := (t.arb.paths.get p.other).blocked } := by
  have hpaths : (s.faultTimerOut p).arb.paths = s.arb.paths.set p { s.arb.paths.get p with fault := .none, timer := none } :=
    (State.arbiterCheck_ordered _).paths
  obtain ⟨b, hb⟩ := h p
  obtain ⟨c, hc⟩ := h p.other
  have hne : p.other ≠ p := by cases p <;> simp [Path.other]
  rw [hpaths, PerPath.get_set_same] at hb
  rw [hpaths, PerPath.get_set_other _ hne] at hc
  refine ⟨by rw [hb], by rw [hb], by rw [hb], by rw [hc]⟩

/-! ## Dampers -/

theorem DamperRecord.tick_idle {r : DamperRecord} (h : r.motion = .idle) : r.tick = r := by
  unfold DamperRecord.tick
  rw [h]

theorem DamperRecord.tick_homing {r : DamperRecord} (h : r.motion = .homing) :
    r.tick = { r with homed := if r.homed < 440 then r.homed + 1 else r.homed } := by
  unfold DamperRecord.tick
  rw [h]

theorem DamperRecord.tick_moving {r : DamperRecord} {n : Nat} (h : r.motion = .moving) (hn : r.position = some n) :
    r.tick = { r with position := some (if n < r.target then n + 1 else if r.target < n then n - 1 else n) } := by
  unfold DamperRecord.tick
  rw [h, hn]
  rfl

theorem State.settle_damper (s : State) (d : Damper) :
    s.settle.act.dampers.get d = (s.act.dampers.get d).aim (if s.damperOpen d then 400 else 0) := by
  cases d <;> rfl

/-! ## Heaters -/

theorem DefrostHeater.follow_limited {h : DefrostHeater} (hl : h.limited = true) (request interlocked : Bool) :
    (h.follow request interlocked).output = false ∧ (h.follow request interlocked).limited = true
      ∧ (h.follow request interlocked).onTime = 0 := by
  simp [DefrostHeater.follow, hl]

theorem FlexHeater.follow_resting {h : FlexHeater} (hr : h.rest.isSome = true) (request : Bool) :
    (h.follow request).output = false ∧ (h.follow request).onTime = 0 := by
  simp [FlexHeater.follow, Option.isNone_eq_false_iff.mpr hr]

theorem State.heaterLimitToManager_running {s : State} {g : Program} (h : s.mgr.state = .running) (hg : s.runningProgram = some g) :
    s.heaterLimitToManager = s.abort g := by
  unfold State.heaterLimitToManager
  rw [h, hg]

/-- What the limit of the lower heater moves: its own mark, the event and, for a program in RUNNING, the manager (R118, R143). -/
theorem State.limitHeater_eq (s : State) : s.limitHeater = { s with
    act := { s.act with lowerHeater := { s.act.lowerHeater with limited := true } },
    events := s.events.map (·.add .heaterLimit), mgr := s.limitHeater.mgr } := by
  unfold State.limitHeater State.heaterLimitToManager
  split <;> rfl

theorem State.limitHeater_idle {s : State} (h : s.mgr.state ≠ .running) : s.limitHeater.mgr = s.mgr := by
  unfold State.limitHeater State.heaterLimitToManager
  split
  case h_1 hs _ => exact absurd hs h
  case h_2 => rfl

theorem State.limitHeater_aborts {s : State} {i : Nat} (h : s.mgr.state = .running) (hi : s.mgr.program = some i) :
    s.limitHeater.mgr = { s.mgr with state := .exiting, step := some (s.tables.program i).exitHead, stepTimer := some 0 } := by
  have hr : s.runningProgram = some (s.tables.program i) := by
    simp [State.runningProgram, State.programRecord, Manager.inProgram, h, hi]
  let u : State := State.raise { s with act := { s.act with lowerHeater := { s.act.lowerHeater with limited := true } } } .heaterLimit
  exact congrArg State.mgr (State.heaterLimitToManager_running (s := u) (g := s.tables.program i) h hr)

end Sys2Proof.Machine

namespace Sys2Proof

open Sys2Proof.Machine

/-- Settles O32: each expiry is its event's one change, and the dampers and heaters follow at the end of it. -/
theorem timersAndLimitsEndAndDampersMove : Obligations.TimersAndLimitsEndAndDampersMove := by
  refine ⟨⟨fun s m hm hle => ?_, fun s p hp => ?_⟩, ⟨fun s h => ?_, fun s h => ?_, fun s n h hn => ?_, fun s n ha ht hn => ?_,
    fun s h => ?_⟩, ⟨fun s d hm hp => ?_, fun s d hm hh => ?_, fun r n hm hp hn => ?_, fun r n hm hp hn => ?_,
    fun r => ⟨DamperRecord.tick_idle, fun hm hp => ?_, fun hm hh => ?_, fun hm hh => ?_⟩, State.settle_damper,
    fun r target => ⟨fun h => ?_, fun hm => ?_, fun hm hne hp => ?_, fun hm hne hp => ?_⟩⟩, fun s ho hn => ?_, fun s ho hn => ?_⟩
  · have hdue : s.due .defrostWindowClose = true := by
      show s.windowDue = true
      unfold State.windowDue
      rw [hm]
      exact decide_eq_true hle
    exact State.event_same hdue (fun t => { t with window := .closed }) rfl rfl
  · have hexec : exec (.faultTimerExpiry p) s = s.finish (s.faultTimerOut p) :=
      State.event_due (s := s) (i := .faultTimerExpiry p) (decide_eq_true hp) (fun t => t.faultTimerOut p)
    obtain ⟨hfault, htimer, hcount, hother⟩ := State.faultTimerOut_paths (State.handOver_blocksOnly s (s.faultTimerOut p))
    have hq := (State.handOver_quiet s (s.faultTimerOut p)).trans (State.settle_quiet _)
    have ht := s.faultTimerOut_turn p
    exact ⟨_, hexec, hfault, htimer, hcount, hother, (hq .zones (by simp)).trans ht.zones,
      (hq .channels (by simp)).trans ht.channels, (hq .doors (by simp)).trans ht.doors, (hq .tables (by simp)).trans ht.tables,
      (hq .ports (by simp)).trans ht.ports, (hq .acct (by simp)).trans ht.acct,
      (State.handOver_reacts s _).store.trans ht.store⟩
  · exact State.event_same (s := s) (i := .condenserRetryExpiry) (decide_eq_true h) State.condenserRetry rfl rfl
  · exact State.event_same (s := s) (i := .condenserRunOnExpiry) (decide_eq_true h)
      (fun t => { t with act := { t.act with runOn := none } }) rfl rfl
  · exact State.event_same (s := s) (i := .afterRunExpiry) (reached_of_le h hn) State.endAfterRun rfl rfl
  · have hdue : s.due .fanDelayExpiry = true := by
      show (decide (s.act.fanDelay = .active) && reached 120 s.cyc.turnTimer) = true
      rw [decide_eq_true ha, reached_of_le ht hn]
      rfl
    exact State.event_same hdue State.endFanDelay rfl rfl
  · exact State.event_same (s := s) (i := .flexHeaterRestEnd) (decide_eq_true h)
      (fun t => { t with act := { t.act with flexHeater := { t.act.flexHeater with rest := none } } }) rfl rfl
  · have hdue : s.due (.damperMoveComplete d) = true := by
      show (s.act.dampers.get d).arrived = true
      simp [DamperRecord.arrived, hm, hp]
    exact State.event_same hdue (fun t => t.setDamper d { t.act.dampers.get d with motion := .idle }) rfl rfl
  · have hdue : s.due (.damperHomingComplete d) = true := by
      show (decide ((s.act.dampers.get d).motion = .homing) && decide (440 ≤ (s.act.dampers.get d).homed)) = true
      rw [decide_eq_true hm, decide_eq_true hh]
      rfl
    exact State.event_same hdue (fun t => t.setDamper d (t.act.dampers.get d).homedAt) rfl rfl
  · rw [DamperRecord.tick_moving hm hp, if_pos hn]
  · rw [DamperRecord.tick_moving hm hp, if_neg (by omega), if_pos hn]
  · rw [DamperRecord.tick_moving hm hp, if_neg (by omega), if_neg (by omega), ← hp]
  · rw [DamperRecord.tick_homing hm, if_pos hh]
  · rw [DamperRecord.tick_homing hm, if_neg (by omega)]
  · exact DamperRecord.aim_same h.symm
  · unfold DamperRecord.aim
    rw [if_pos hm]
    split
    case isTrue h => rw [h]
    case isFalse => rfl
  · unfold DamperRecord.aim
    rw [if_neg hne, if_neg hm, if_pos hp]
  · unfold DamperRecord.aim
    rw [if_neg hne, if_neg hm, if_neg hp]
  · have hdue : s.due .heaterLimit = true := by
      show (s.act.lowerHeater.output && decide (2700 ≤ s.act.lowerHeater.onTime)) = true
      rw [ho, decide_eq_true hn]
      rfl
    have heq := s.limitHeater_eq
    have hcyc : s.limitHeater.cyc = s.cyc := by rw [heq]
    have hlim : s.limitHeater.act.lowerHeater.limited = true := by rw [heq]
    have hexec : exec .heaterLimit s = .next s.limitHeater.settle :=
      State.event_same hdue State.limitHeater (congrArg CycleRecord.state hcyc) (congrArg CycleRecord.path hcyc)
    obtain ⟨hout, hl, hon⟩ := DefrostHeater.follow_limited hlim s.limitHeater.lowerHeaterRequest s.limitHeater.interlocked
    refine ⟨_, hexec, hout, hl, hon, ?_, fun hm => ?_, fun i hm hi => State.limitHeater_aborts hm hi⟩
    · exact congrArg State.events heq
    · rw [heq, State.limitHeater_idle hm]
  · have hdue : s.due .flexHeaterLimit = true := by
      show (s.act.flexHeater.output && decide (1200 ≤ s.act.flexHeater.onTime)) = true
      rw [ho, decide_eq_true hn]
      rfl
    have hexec : exec .flexHeaterLimit s = .next s.restFlexHeater.settle := State.event_same hdue State.restFlexHeater rfl rfl
    obtain ⟨hout, hon⟩ := FlexHeater.follow_resting (h := s.restFlexHeater.act.flexHeater) rfl s.restFlexHeater.flexHeaterRequest
    exact ⟨_, hexec, hout, hon, rfl⟩

end Sys2Proof
end

section
/-!
The ends of programs (R129, R139 to R144): what every end hands on, the completion and the exit chain's end whatever ends their last
step, and the due test that follows.
-/
namespace Sys2Proof.Machine

/-! ## What every end of a program hands on -/

/-- The actuator block and the zone controller at the end of a program, before the arbiter takes it (R32, R118, R142). -/
def State.armedAfter (s : State) (g : Program) : State :=
  { s with
    act := { s.act with
      lowerHeater := { s.act.lowerHeater with limited := false },
      fanDelay := if g.path = .lower then .armed else s.act.fanDelay },
    window := if g.path = .lower then .closing (s.now + 1800) else s.window }

theorem State.programEnded_eq (s : State) (g : Program) : s.programEnded g
    = if g.compressorOff then ((s.armedAfter g).unblock g.path).endCompressorHold else (s.armedAfter g).unblock g.path := by
  unfold State.programEnded State.armedAfter
  cases g.path <;> rfl

/-- What the end of a program has handed on, among what later acts of the event leave. -/
structure ProgramOver (s : State) (g : Program) (t : State) : Prop where
  blocked : (t.arb.paths.get g.path).blocked = false
  hold : t.arb.compressorHold = (s.arb.compressorHold && !g.compressorOff)
  limited : t.act.lowerHeater.limited = false
  lower : g.path = .lower → t.act.fanDelay = .armed ∧ t.window = .closing (s.now + 1800)
  upper : g.path = .upper → t.window = s.window

theorem TurnOnly.lowerHeater {s t : State} (h : TurnOnly s t) : t.act.lowerHeater = s.act.lowerHeater := by
  obtain ⟨_, _, _, _, _, _, _, rfl⟩ := h
  rfl

/-- An order leaves what the end of a program has handed on. -/
theorem ProgramOver.ordered {s t u : State} {g : Program} (h : ProgramOver s g t) (k : Ordered t u) : ProgramOver s g u where
  blocked := by rw [k.paths, h.blocked]
  hold := k.hold.trans h.hold
  limited := by rw [k.turn.lowerHeater, h.limited]
  lower hp := ⟨k.armed (h.lower hp).1, k.turn.window.trans (h.lower hp).2⟩
  upper hp := k.turn.window.trans (h.upper hp)

theorem State.programEnded_over (s : State) (g : Program) : ProgramOver s g (s.programEnded g) := by
  have h : ProgramOver s { g with compressorOff := false } ((s.armedAfter g).unblock g.path) := by
    refine ProgramOver.ordered ?_ (State.arbiterCheck_ordered _)
    exact
      { blocked := congrArg PathRecord.blocked (PerPath.get_set_same _ _ _)
        hold := (Bool.and_true _).symm
        limited := rfl
        lower := fun hp => ⟨if_pos hp, if_pos hp⟩
        upper := fun hp => if_neg (by rw [show g.path = .upper from hp]; simp) }
  rw [State.programEnded_eq]
  split
  case isTrue ho =>
    refine ProgramOver.ordered ?_ (State.startCheck_ordered _)
    exact { blocked := h.blocked, hold := by simp [ho], limited := h.limited, lower := h.lower, upper := h.upper }
  case isFalse ho =>
    exact { blocked := h.blocked, hold := by rw [h.hold]; simp [ho], limited := h.limited, lower := h.lower, upper := h.upper }

/-- The records that the end of a program leaves. -/
theorem State.programEnded_records (s : State) (g : Program) : (s.programEnded g).acct = s.acct ∧ (s.programEnded g).store = s.store
    ∧ (s.programEnded g).ready = s.ready ∧ (s.programEnded g).tables = s.tables ∧ (s.programEnded g).act.forced = s.act.forced
    ∧ (s.programEnded g).now = s.now := by
  have hturn : TurnOnly (s.armedAfter g) (s.programEnded g) := by
    rw [State.programEnded_eq]
    split
    · exact (State.unblock_turn _ _).trans (State.endCompressorHold_turn _)
    · exact State.unblock_turn _ _
  exact ⟨hturn.acct, hturn.store, hturn.ready, hturn.tables, hturn.forced, hturn.now⟩

/-! ## A program that becomes due -/

/-- What the due test, the begin of a program and a hand-over leave once a program is due or runs. -/
structure Activates (s t : State) : Prop where
  reacts : Reacts s t
  program : t.mgr.program = s.mgr.program
  kind : t.mgr.kind = s.mgr.kind
  measured : t.mgr.lastMeasurement = s.mgr.lastMeasurement
  active : s.mgr.state = .due ∨ s.mgr.state = .running → t.mgr.state = .due ∨ t.mgr.state = .running
  acct : t.acct = s.acct
  heater : t.act.lowerHeater = s.act.lowerHeater

theorem Activates.refl (s : State) : Activates s s := ⟨.refl s, rfl, rfl, rfl, id, rfl, rfl⟩

theorem Activates.trans {s t u : State} (h : Activates s t) (k : Activates t u) : Activates s u :=
  ⟨h.reacts.trans k.reacts, k.program.trans h.program, k.kind.trans h.kind, k.measured.trans h.measured, fun ha => k.active (h.active ha),
    k.acct.trans h.acct, k.heater.trans h.heater⟩

theorem TurnOnly.activates {s t : State} (h : TurnOnly s t) : Activates s t := by
  have hm := h.mgr
  exact ⟨h.reacts, by rw [hm], by rw [hm], by rw [hm], fun ha => by rwa [hm], h.acct, h.lowerHeater⟩

theorem State.beginProgram_activates (s : State) (g : Program) : Activates s (s.beginProgram g) := by
  have hr := s.beginProgram_reacts g
  unfold State.beginProgram
  extract_lets m s1 s2 a s3 s4
  have h3 : s3.mgr = s1.mgr ∧ s3.acct = s1.acct ∧ s3.act = s1.act := by unfold s3; split <;> exact ⟨rfl, rfl, rfl⟩
  have h4 : s4.mgr = s3.mgr ∧ s4.acct = s3.acct ∧ s4.act.lowerHeater = s3.act.lowerHeater := by
    unfold s4
    split <;> exact ⟨rfl, rfl, rfl⟩
  have hm : s4.mgr = s1.mgr := h4.1.trans h3.1
  have hstep : ((s4.raise .defrostBegin).beginStep g.head).mgr = { s1.mgr with step := some g.head, stepTimer := some 0 } := by
    rw [← hm]
    rfl
  refine ⟨hr, by rw [hstep], by rw [hstep], by rw [hstep], fun _ => .inr (by rw [hstep]), h4.2.1.trans h3.2.1, ?_⟩
  exact h4.2.2.trans (congrArg Actuators.lowerHeater h3.2.2)

theorem State.beginTest_activates (s : State) : Activates s s.beginTest := by
  unfold State.beginTest
  split
  · split
    · exact s.beginProgram_activates _
    · exact .refl s
  · exact .refl s

theorem State.askRelease_activates (s : State) (p : Path) : Activates s (s.askRelease p) :=
  Activates.trans (t := { s with mgr := { s.mgr with releaseAsked := true } }) ⟨.mgr s _ rfl, rfl, rfl, rfl, id, rfl, rfl⟩
    (State.release_turn _ p).activates

theorem State.managerReact_activates (s : State) : Activates s s.managerReact := by
  unfold State.managerReact
  split
  · split
    · exact (s.askRelease_activates _).trans (State.beginTest_activates _)
    · exact s.beginTest_activates
  · exact .refl s

theorem State.handOver_activates (s t : State) : Activates t (State.handOver s t) := by
  unfold State.handOver
  split
  · exact t.managerReact_activates
  · exact .refl t

theorem State.beginWait_activates (s : State) (n : Nat) : Activates s (s.beginWait n) :=
  Activates.trans (t := { s with mgr := { s.mgr with waitStart := some n } }) ⟨.mgr s _ rfl, rfl, rfl, rfl, id, rfl, rfl⟩
    (State.managerReact_activates _)

/-- An automatic defrost is due and the manager may take it (R129). -/
def State.FallsDue (s : State) : Prop :=
  s.ready = true ∧ s.act.forced = none ∧ (s.acct.interval ≤ s.acct.accumulator ∨ 259200 ≤ s.acct.age)

theorem State.dueTest_condition (s : State) : (s.ready = true ∧ s.mgr.state = .idle ∧ s.serviceHold = false ∧ s.acct.due = true)
    ↔ s.mgr.state = .idle ∧ s.FallsDue := by
  simp only [State.FallsDue, State.serviceHold, Accounting.due, Option.isSome_eq_false_iff, Option.isNone_iff_eq_none,
    Bool.or_eq_true, decide_eq_true_iff]
  tauto

theorem State.dueTest_not {s : State} (h : ¬ (s.mgr.state = .idle ∧ s.FallsDue)) : s.dueTest = s :=
  if_neg fun k => h (s.dueTest_condition.mp k)

theorem State.dueTest_due {s : State} (hm : s.mgr.state = .idle) (h : s.FallsDue) : s.dueTest = s.enterDue :=
  if_pos (s.dueTest_condition.mpr ⟨hm, h⟩)

/-- The manager's record as DUE for the auto-defrost program is entered, before the path wait (R129). -/
def State.dueRecord (s : State) : State :=
  { s with
    mgr := { s.mgr with
      state := .due, program := some s.tables.autoProgram, kind := some .automatic, dueMoment := some s.now,
      releaseAsked := false, waitStart := none } }

theorem State.enterDue_activates (s : State) : Activates s.dueRecord s.enterDue := by
  unfold State.enterDue
  extract_lets m t
  split
  · exact .refl t
  · exact t.beginWait_activates _

/-- After a due test that finds a defrost due, and the hand-over that ends the event, the auto-defrost program is due or runs. -/
theorem State.dueTest_ended {s w : State} (hm : w.mgr.state = .idle) (h : w.FallsDue) :
    Activates w.dueRecord (State.handOver s w.dueTest) := by
  rw [State.dueTest_due hm h]
  exact w.enterDue_activates.trans (State.handOver_activates s _)

theorem Activates.auto {w t : State} (h : Activates w.dueRecord t) :
    t.mgr.program = some w.tables.autoProgram ∧ t.mgr.kind = some .automatic ∧ (t.mgr.state = .due ∨ t.mgr.state = .running) :=
  ⟨h.program, h.kind, h.active (.inl rfl)⟩

/-! ## The end of a step -/

/-- The manager's record with a step's measurement noted (R141). -/
def State.measured (s : State) (st : Step) (cause : EndCause) : Manager :=
  { s.mgr with
    runMeasurement := if st.measure then some { elapsed := s.mgr.stepTimer.getD 0, cause := cause } else s.mgr.runMeasurement
    lastMeasurement := if st.measure then s.mgr.program.map fun i => (i, { elapsed := s.mgr.stepTimer.getD 0, cause := cause })
      else s.mgr.lastMeasurement }

/-- The end of a step notes its events and its measurement (R141). -/
theorem State.noteStepEnd_eq (s : State) (st : Step) (cause : EndCause) :
    s.noteStepEnd st cause = { s with events := (s.noteStepEnd st cause).events, mgr := s.measured st cause } := by
  unfold State.noteStepEnd State.measured
  cases st.notify <;> cases st.measure <;> cases cause <;> rfl

theorem State.endStep_completes {s : State} (g : Program) {st : Step} {cause : EndCause} (hr : s.mgr.state = .running)
    (hl : st.last = true) (hn : ¬ (cause = .timeout ∧ st.abortOnTimeout = true)) :
    s.endStep g st cause = (s.noteStepEnd st cause).complete g := by
  unfold State.endStep
  simp only [hr, hn, hl, and_false, if_false, if_true]

theorem State.endStep_exits {s : State} (g : Program) {st : Step} {cause : EndCause} (hr : s.mgr.state = .exiting)
    (hl : st.last = true) : s.endStep g st cause = (s.noteStepEnd st cause).exitEnded g := by
  unfold State.endStep
  simp [hr, hl]

/-- A state that differs from another in a channel's record, events and actuators at most, and not in service hold: what the sample that
ends a step has done before the manager takes it. -/
def Sensed (s u : State) : Prop := ∃ c v a, u = { s with channels := c, events := v, act := a } ∧ a.forced = s.act.forced

theorem Sensed.trans {s t u : State} (h : Sensed s t) (k : Sensed t u) : Sensed s u := by
  obtain ⟨_, _, _, rfl, ha⟩ := h
  obtain ⟨_, _, _, rfl, hb⟩ := k
  exact ⟨_, _, _, rfl, hb.trans ha⟩

theorem State.evaporatorReport_sensed (s : State) (r : Report) : Sensed s (s.evaporatorReport r) := by
  have h : ∀ (b : Bool) (u : State), Sensed s u → Sensed s (if b then u else s) := by
    intro b u hu
    split
    · exact hu
    · exact ⟨_, _, _, rfl, rfl⟩
  unfold State.evaporatorReport
  split
  · exact h _ _ ⟨_, _, _, rfl, rfl⟩
  · exact h _ _ ⟨_, _, _, rfl, rfl⟩
  · exact ⟨_, _, _, rfl, rfl⟩

theorem State.reported_sensed (s : State) (ch : Channel) (code : Nat) : Sensed s (s.reported ch code) := by
  have h : Sensed s (s.sensed ch code) := by
    unfold State.sensed
    rw [State.raiseAll_eq]
    exact ⟨_, _, _, rfl, rfl⟩
  exact h.trans (State.evaporatorReport_sensed _ _)

/-- The program and the step that a command ends are those that run. -/
theorem State.EndsStep.runs {s : State} {i j n : Nat} {c : Instr} {cause : EndCause} (h : s.EndsStep i j n c cause) :
    s.runningProgram = some (s.tables.program i) ∧ s.runningStep = some (s.tables.step j) := by
  obtain ⟨hrun, hi, hj, -⟩ := h
  have hp : s.mgr.inProgram = true := by simpa [Manager.inProgram] using hrun
  simp [State.runningProgram, State.runningStep, State.programRecord, hp, hi, hj]

theorem State.stepEnds_running {s : State} {g : Program} {st : Step} (hg : s.runningProgram = some g) (hst : s.runningStep = some st)
    (cause : EndCause) : s.stepEnds cause = s.endStep g st cause := by
  unfold State.stepEnds
  rw [hg, hst]

/-- Whatever ends a step, it ends it in one way, from a state that the command has at most sensed in (R140, R141). -/
theorem State.EndsStep.ends {s : State} {i j n : Nat} {c : Instr} {cause : EndCause} (h : s.EndsStep i j n c cause) :
    ∃ u, Sensed s u ∧ exec c s = s.finish (u.endStep (s.tables.program i) (s.tables.step j) cause) := by
  obtain ⟨hg, hst⟩ := h.runs
  have hself : Sensed s s := ⟨_, _, _, rfl, rfl⟩
  obtain ⟨hrun, hi, hj, hn, hcause⟩ := h
  rcases hcause with ⟨rfl, rfl, hk, hd⟩ | ⟨rfl, rfl, hk, hd⟩ | ⟨rfl, him, hse, code, t, rfl, ht, hmet⟩
  · have hdue : s.due .stepDurationExpiry = true := by
      show s.durationDue = true
      unfold State.durationDue
      rw [hst]
      simp [hk, reached_of_le hn hd]
    refine ⟨s, hself, (State.event_due hdue fun t => t.stepEnds .time).trans ?_⟩
    rw [State.stepEnds_running hg hst]
  · have hdue : s.due .stepTimeoutExpiry = true := by
      show s.timeoutDue = true
      unfold State.timeoutDue
      rw [hst]
      simp [hk, reached_of_le hn hd]
    refine ⟨s, hself, (State.event_due hdue fun t => t.stepEnds .timeout).trans ?_⟩
    rw [State.stepEnds_running hg hst]
  · have hair : airZone (if (s.tables.program i).path = .upper then .ch4 else .ch5) = none := by split <;> rfl
    have hch : (if (s.tables.program i).path = .upper then Channel.ch4 else .ch5) = evaporatorChannel (s.tables.program i).path := by
      cases (s.tables.program i).path <;> rfl
    generalize (if (s.tables.program i).path = .upper then Channel.ch4 else .ch5) = ch at hair hch ht
    obtain ⟨rg, rst⟩ := s.reported_running ch code.toNat
    have hmany : (s.sampleReport ch code.toNat).trusted.any (s.tables.step j).met = true := by
      rw [show (s.sampleReport ch code.toNat).trusted = some t from ht]
      rcases hmet with ⟨hk, hm⟩ | ⟨hk, hm⟩ <;> simp [Step.met, hk, hm]
    refine ⟨s.reported ch code.toNat, s.reported_sensed ch _, (exec_sampleCompletion him hse ch code).trans ?_⟩
    rw [State.sample_evaporator s hair, State.stepReport_running (rg.trans hg) (rst.trans hst) hch, if_pos hmany]

/-- The state in which a step's end has been noted, against the one that the command found. -/
structure Noted (s : State) (st : Step) (cause : EndCause) (v : State) : Prop where
  mgr : v.mgr = s.measured st cause
  acct : v.acct = s.acct
  store : v.store = s.store
  window : v.window = s.window
  arb : v.arb = s.arb
  now : v.now = s.now
  ready : v.ready = s.ready
  tables : v.tables = s.tables
  forced : v.act.forced = s.act.forced

theorem Sensed.noted {s u : State} (h : Sensed s u) (st : Step) (cause : EndCause) : Noted s st cause (u.noteStepEnd st cause) := by
  obtain ⟨c, e, a, rfl, ha⟩ := h
  rw [State.noteStepEnd_eq]
  exact ⟨rfl, rfl, rfl, rfl, rfl, rfl, rfl, rfl, ha⟩

theorem Sensed.mgr {s u : State} (h : Sensed s u) : u.mgr = s.mgr := by
  obtain ⟨c, e, a, rfl, -⟩ := h
  rfl

/-! ## Completion and the end of an exit chain -/

/-- A program that is over, its end told in every event set. -/
structure Finished (s : State) (g : Program) (t : State) : Prop where
  handed : ProgramOver s g t
  told : ∀ p, holdsKind (t.events.get p).set .defrostEnd = true
  ready : t.ready = s.ready
  tables : t.tables = s.tables
  forced : t.act.forced = s.act.forced

theorem State.programEnded_finished (s : State) (g : Program) (m : Manager) :
    Finished s g { (s.programEnded g).raise .defrostEnd with mgr := m } := by
  obtain ⟨-, -, hready, htables, hforced, -⟩ := s.programEnded_records g
  have ho := s.programEnded_over g
  exact ⟨⟨ho.blocked, ho.hold, ho.limited, ho.lower, ho.upper⟩,
    fun p => ((s.programEnded g).raise_holds .defrostEnd .defrostEnd p).trans (by simp), hready, htables, hforced⟩

/-- A program over from a state that differs in its outcome, its accounting or its dirty mark alone is over from the state itself. -/
theorem Finished.base {s u t : State} {g : Program} (h : Finished u g t) (hh : u.arb.compressorHold = s.arb.compressorHold)
    (hn : u.now = s.now) (hw : u.window = s.window) (hr : u.ready = s.ready) (ht : u.tables = s.tables)
    (hf : u.act.forced = s.act.forced) : Finished s g t :=
  have k := h.handed
  ⟨⟨k.blocked, hh ▸ k.hold, k.limited, fun hp => hn ▸ k.lower hp, fun hp => hw ▸ k.upper hp⟩, h.told, hr ▸ h.ready, ht ▸ h.tables,
    hf ▸ h.forced⟩

/-- A completion before its due test (R142). -/
def State.completed (s : State) (g : Program) : State :=
  let s1 := s.recordOutcome .completed
  let s2 := match g.path with
    | .lower => s1.accountCompletion
    | .upper => s1
  let s3 := (s2.programEnded g).raise .defrostEnd
  { s3 with mgr := s3.mgr.atRest .idle }

theorem State.complete_eq (s : State) (g : Program) : s.complete g = (s.completed g).dueTest := rfl

theorem State.completed_finished (s : State) (g : Program) : Finished s g (s.completed g) := by
  unfold State.completed
  extract_lets s1 s2 s3
  have h : Finished s2 g { s3 with mgr := s3.mgr.atRest .idle } := s2.programEnded_finished g _
  have hs : s2 = s1.accountCompletion ∨ s2 = s1 := by unfold s2; cases g.path <;> simp
  rcases hs with hs | hs <;> rw [hs] at h
  · exact h.base rfl rfl rfl rfl rfl rfl
  · exact h.base rfl rfl rfl rfl rfl rfl

/-- The manager's record after a program has ended in an outcome. -/
def State.ended (s : State) (o : ProgramOutcome) (st : ManagerState) : Manager :=
  Manager.atRest { s.mgr with lastOutcome := s.mgr.program.map fun i => (i, o, s.now) } st

theorem State.completed_mgr (s : State) (g : Program) : (s.completed g).mgr = s.ended .completed .idle := by
  unfold State.completed
  extract_lets s1 s2 s3
  have h2 : s2.mgr = s1.mgr := by unfold s2; split <;> rfl
  have h3 : s3.mgr = s1.mgr := (s2.programEnded_keeps g).2.trans h2
  show s3.mgr.atRest .idle = _
  rw [h3]
  rfl

theorem State.completed_lower (s : State) {g : Program} (hp : g.path = .lower) :
    (s.completed g).acct = { accumulator := 0, interval := adaptInterval s.acct.interval s.mgr.runMeasurement, age := 0 }
      ∧ (s.completed g).store = { s.store with dirty := true, quiet := some 30 } := by
  obtain ⟨ha, hst, -⟩ := ((s.recordOutcome .completed).accountCompletion).programEnded_records g
  unfold State.completed
  rw [hp]
  exact ⟨ha, hst⟩

theorem State.completed_upper (s : State) {g : Program} (hp : g.path = .upper) :
    (s.completed g).acct = s.acct ∧ (s.completed g).store = s.store := by
  obtain ⟨ha, hst, -⟩ := (s.recordOutcome .completed).programEnded_records g
  unfold State.completed
  rw [hp]
  exact ⟨ha, hst⟩

theorem State.exitEnded_finished (s : State) (g : Program) : Finished s g (s.exitEnded g) :=
  ((s.recordOutcome .aborted).programEnded_finished g (s.exitEnded g).mgr).base rfl rfl rfl rfl rfl rfl

theorem State.exitEnded_mgr (s : State) (g : Program) :
    (s.exitEnded g).mgr = { s.ended .aborted .holdoff with holdoffEnd := some (s.now + 3600) } := by
  obtain ⟨-, -, -, -, -, hnow⟩ := (s.recordOutcome .aborted).programEnded_records g
  have hm := ((s.recordOutcome .aborted).programEnded_keeps g).2
  have hn : (State.raise ((s.recordOutcome .aborted).programEnded g) .defrostEnd).now = s.now := hnow
  unfold State.exitEnded
  dsimp only
  rw [show (State.raise ((s.recordOutcome .aborted).programEnded g) .defrostEnd).mgr = (s.recordOutcome .aborted).mgr from hm]
  rfl

theorem State.exitEnded_records (s : State) (g : Program) : (s.exitEnded g).acct = s.acct ∧ (s.exitEnded g).store = s.store := by
  obtain ⟨ha, hst, -⟩ := (s.recordOutcome .aborted).programEnded_records g
  exact ⟨ha, hst⟩

/-- The interval stays at 240 or more (R142). -/
theorem adaptInterval_ge {n : Nat} (h : 240 ≤ n) (x : Option Measurement) : 240 ≤ adaptInterval n x := by
  unfold adaptInterval
  split
  · exact h
  · split
    · exact le_max_right _ _
    · split_ifs <;> omega

theorem adaptInterval_some (n : Nat) (m : Measurement) : adaptInterval n (some m)
    = if m.cause = .timeout then max (n - 120) 240
      else if m.elapsed < 900 then min (n + 60) 1440
      else if m.elapsed ≤ 1800 then n
      else max (n - 120) 240 := by
  obtain ⟨elapsed, cause⟩ := m
  cases cause <;> simp [adaptInterval]

end Sys2Proof.Machine

namespace Sys2Proof

open Sys2Proof.Machine

/-- Settles O38: whatever ends the last step, a completion or an exit chain's end is one operation on a state whose step's end is
noted. -/
theorem completionsAndExitChainsEnd : Obligations.CompletionsAndExitChainsEnd := by
  refine ⟨fun s g => s.programEnded_eq g, ?_, ?_, ?_⟩
  · intro s i j n c cause h hrun st g measured run done due hl hn
    obtain ⟨u, hu, hexec⟩ := h.ends
    obtain ⟨-, hi, hj, htimer, -⟩ := h
    let v := u.noteStepEnd st cause
    have hv : Noted s st cause v := hu.noted st cause
    have hcomp : exec c s = s.finish (v.completed g).dueTest :=
      hexec.trans (congrArg s.finish ((State.endStep_completes g ((congrArg Manager.state hu.mgr).trans hrun) hl hn).trans
        (v.complete_eq g)))
    have hmgr : (v.completed g).mgr = done := by
      rw [State.completed_mgr, State.ended, hv.mgr, hv.now]
      simp only [State.measured, Manager.atRest, hi, htimer, Option.getD_some, Option.map_some]
      rfl
    have hf := v.completed_finished g
    have hhold : (v.completed g).arb.compressorHold = (s.arb.compressorHold && !g.compressorOff) := by
      rw [hf.handed.hold, hv.arb]
    refine ⟨fun hp hint => ?_, fun hp => ?_⟩
    · obtain ⟨hacct, hstore⟩ := v.completed_lower hp
      have hrunm : v.mgr.runMeasurement = run := by
        rw [hv.mgr]
        simp only [State.measured, htimer, Option.getD_some]
        rfl
      have hiv : (v.completed g).acct = { accumulator := 0, interval := adaptInterval s.acct.interval run, age := 0 } := by
        rw [hacct, hv.acct, hrunm]
      have hidle : (v.completed g).dueTest = v.completed g := by
        refine State.dueTest_not fun ⟨_, _, _, hd⟩ => ?_
        rw [hiv] at hd
        have hge := adaptInterval_ge hint run
        rcases hd with hd | hd
        · exact absurd (hge.trans hd) (by simp)
        · exact absurd hd (by simp)
      rw [hidle] at hcomp
      refine ⟨_, hcomp.trans (State.finish_idle (by rw [hmgr]; simp [done])), congrArg Accounting.accumulator hiv,
        congrArg Accounting.age hiv, fun hr => ?_, fun m hr => ?_, hmgr, ?_, (hf.handed.lower hp).1, hf.handed.limited, ?_, ?_, hhold,
        hf.told⟩
      · exact (congrArg Accounting.interval hiv).trans (by rw [hr]; rfl)
      · exact (congrArg Accounting.interval hiv).trans (by rw [hr, adaptInterval_some])
      · exact hstore.trans (by rw [hv.store])
      · exact (hf.handed.lower hp).2.trans (by rw [hv.now])
      · exact hp ▸ hf.handed.blocked
    · obtain ⟨hacct, hstore⟩ := v.completed_upper hp
      have hfalls : (v.completed g).FallsDue ↔ due := by
        simp only [State.FallsDue, hf.ready, hf.forced, hacct, hv.ready, hv.forced, hv.acct, due]
      let t0 := State.handOver s (v.completed g).dueTest
      have hnot : ¬ due → t0 = v.completed g := fun hd => by
        have hsame := State.dueTest_not (s := v.completed g) fun k => hd (hfalls.mp k.2)
        unfold t0
        rw [hsame]
        exact State.handOver_idle (by rw [hmgr]; simp [done])
      have hdue : due → Activates (v.completed g).dueRecord t0 := fun hd =>
        State.dueTest_ended (by rw [hmgr]) (hfalls.mpr hd)
      obtain ⟨m, hact, hout, hmeas⟩ : ∃ m : Manager, Activates { v.completed g with mgr := m } t0
          ∧ m.lastOutcome = done.lastOutcome ∧ m.lastMeasurement = done.lastMeasurement := by
        by_cases hd : due
        · have hout : (v.completed g).mgr.lastOutcome = done.lastOutcome := by rw [hmgr]
          have hmeas : (v.completed g).mgr.lastMeasurement = done.lastMeasurement := by rw [hmgr]
          exact ⟨_, hdue hd, hout, hmeas⟩
        · exact ⟨done, by rw [hnot hd, ← hmgr]; exact .refl _, rfl, rfl⟩
      refine ⟨_, hcomp, hact.acct.trans (hacct.trans hv.acct), hact.reacts.store.trans (hstore.trans hv.store),
        (congrArg DefrostHeater.limited hact.heater).trans hf.handed.limited, hact.reacts.outcome.trans hout,
        hact.measured.trans hmeas, fun p => hact.reacts.grow.keeps p _ (hf.told p), fun hd => ?_, fun hd => ?_⟩
      · have ht : (State.handOver s (v.completed g).dueTest) = v.completed g := hnot hd
        rw [ht]
        exact ⟨hmgr, (hf.handed.upper hp).trans hv.window, hp ▸ hf.handed.blocked, hhold⟩
      · have hauto := (hdue hd).auto
        rw [hf.tables, hv.tables] at hauto
        exact hauto
  · intro s i j n c cause h hrun hl st g measured
    obtain ⟨u, hu, hexec⟩ := h.ends
    obtain ⟨-, hi, hj, htimer, -⟩ := h
    let v := u.noteStepEnd st cause
    have hv : Noted s st cause v := hu.noted st cause
    have hf := v.exitEnded_finished g
    obtain ⟨hacct, hstore⟩ := v.exitEnded_records g
    have hmgr := v.exitEnded_mgr g
    have hexit : exec c s = s.finish (v.exitEnded g) :=
      hexec.trans (congrArg s.finish (State.endStep_exits g ((congrArg Manager.state hu.mgr).trans hrun) hl))
    refine ⟨_, hexit.trans (State.finish_idle (by rw [hmgr]; simp [State.ended, Manager.atRest])), hmgr.trans ?_,
      hacct.trans hv.acct, hstore.trans hv.store, hf.handed.blocked, hf.handed.limited, ?_, fun hp => ⟨(hf.handed.lower hp).1, ?_⟩,
      fun hp => (hf.handed.upper hp).trans hv.window, hf.told⟩
    · rw [State.ended, hv.mgr, hv.now]
      simp only [State.measured, Manager.atRest, hi, htimer, Option.getD_some, Option.map_some]
      rfl
    · exact hf.handed.hold.trans (by rw [hv.arb])
    · exact (hf.handed.lower hp).2.trans (by rw [hv.now])
  · intro s m hm hend hle
    let w : State := { s with mgr := { s.mgr with state := .idle, holdoffEnd := none } }
    have hduenow : s.due .holdoffEnd = true := by
      show (decide (s.mgr.state = .holdoff) && s.come s.mgr.holdoffEnd) = true
      rw [hm, hend]
      exact decide_eq_true hle
    have hexec : exec .holdoffEnd s = s.finish w.dueTest := State.event_due hduenow State.endHoldoff
    refine ⟨fun hno => ?_, fun hready hforced hd => ?_⟩
    · have hsame : w.dueTest = w := State.dueTest_not fun ⟨_, hr, hf, hd⟩ => by
        rcases hno with h | h | h
        · exact absurd (hr.symm.trans h) (by simp)
        · exact h hf
        · exact h hd
      rw [hsame] at hexec
      exact hexec.trans (State.finish_same rfl rfl)
    · exact ⟨_, hexec, (State.dueTest_ended (s := s) (w := w) rfl ⟨hready, hforced, hd⟩).auto⟩

end Sys2Proof
end

section
/-!
The step on an empty queue (log entries 1, 2 and 9): what 10 ms and a whole second of now count, and the queueing of what has then
fallen due.
-/
namespace Sys2Proof.Machine

/-! ## What falls due is queued once -/

/-- A free order is an order of the list. -/
theorem freeOrder_perm (k n : Nat) (l : List Instr) (h : l.length ≤ k) : (freeOrder k n l).1.Perm l := by
  induction k generalizing n l with
  | zero => exact List.Perm.refl _
  | succ k ih =>
    match l, h with
    | [], _ => exact List.Perm.refl _
    | [x], _ => exact List.Perm.refl _
    | x :: y :: r, h =>
      have hi : Config.pick n % (x :: y :: r).length < (x :: y :: r).length := Nat.mod_lt _ (by simp)
      have hlen : ((x :: y :: r).eraseIdx (Config.pick n % (x :: y :: r).length)).length ≤ k := by
        rw [List.length_eraseIdx_of_lt hi]
        omega
      have hget : (x :: y :: r).getD (Config.pick n % (x :: y :: r).length) x = (x :: y :: r)[Config.pick n % (x :: y :: r).length] :=
        List.getD_eq_getElem _ _ hi
      show ((x :: y :: r).getD (Config.pick n % (x :: y :: r).length) x
        :: (freeOrder k (n + 1) ((x :: y :: r).eraseIdx (Config.pick n % (x :: y :: r).length))).1).Perm _
      rw [hget]
      exact ((ih _ _ hlen).cons _).trans (List.getElem_cons_eraseIdx_perm hi)

/-- Queueing what is due changes nothing that an event's due moment reads. -/
theorem State.queueDue_due (s : State) (i : Instr) : s.queueDue.due i = s.due i := by
  cases i <;> rfl

theorem State.queueDue_pending {s : State} (h : s.pending = []) : s.queueDue.pending.Perm (ownEvents.filter s.queueDue.due) := by
  have hdue : s.queueDue.due = s.due := funext s.queueDue_due
  rw [hdue]
  show (s.pending ++ (freeOrder (ownEvents.filter s.due).length s.free (ownEvents.filter s.due)).1).Perm _
  rw [h]
  exact freeOrder_perm _ _ _ le_rfl

theorem State.queueDue_settled {s : State} (h : s.Settled) : s.queueDue.Settled := by
  have ha : s.queueDue.settle = { s.settle with pending := s.queueDue.pending, free := s.queueDue.free } := rfl
  unfold State.Settled
  rw [ha, h]
  rfl

/-! ## What time counts -/

/-- What a whole second counts where the 10 ms that pass end one (R82). -/
def State.counted (s : State) : State := if (s.clock + 1) % 100 = 0 then s.tickSecond else s

theorem State.elapse_eq (s : State) : s.elapse = s.counted.tickFine := by
  unfold State.elapse State.counted
  split <;> rfl

theorem State.counted_second {s : State} (h : (s.clock + 1) % 100 = 0) : s.counted = s.tickSecond := if_pos h

/-- The records that no second counts. -/
theorem State.counted_keeps (s : State) : s.counted.clock = s.clock ∧ s.counted.pending = s.pending ∧ s.counted.doors = s.doors
    ∧ s.counted.link = s.link ∧ s.counted.act.valve = s.act.valve ∧ s.counted.act.dampers = s.act.dampers
    ∧ s.counted.act.forced = s.act.forced ∧ s.counted.arb.served = s.arb.served ∧ s.counted.arb.turnPath = s.arb.turnPath := by
  unfold State.counted
  split <;> exact ⟨rfl, rfl, rfl, rfl, rfl, rfl, rfl, rfl, rfl⟩

theorem State.step_empty {s : State} (h : s.pending = []) : step s = .next s.tick := by
  unfold step
  rw [h]

theorem DoorRecord.tick_stopping (d : DoorRecord) : d.tick.stopping = d.stopping := by
  unfold DoorRecord.stopping DoorRecord.isOpen DoorRecord.tick upOne
  cases d.openAge <;> rfl

/-- No damper's target moves with time alone (R114). -/
theorem State.elapse_damperOpen (s : State) (d : Damper) : s.elapse.damperOpen d = s.damperOpen d := by
  obtain ⟨-, -, hdoors, -, -, -, hforced, hserved, hturn⟩ := s.counted_keeps
  have hf : s.elapse.act.forced = s.act.forced := by rw [State.elapse_eq]; exact hforced
  have hs : ∀ z, s.elapse.arb.serves z = s.arb.serves z := fun z => by
    rw [State.elapse_eq]
    show (s.counted.arb.served.any fun e => e.zone = z) = _
    rw [hserved]
    rfl
  have ht : s.elapse.arb.turnPath = s.arb.turnPath := by rw [State.elapse_eq]; exact hturn
  have hd : s.elapse.doors = s.doors.map DoorRecord.tick := by
    rw [State.elapse_eq, ← hdoors]
    rfl
  have hflex : s.elapse.doors.flexDrawer.stopping = s.doors.flexDrawer.stopping := by rw [hd]; exact DoorRecord.tick_stopping _
  have hleft : s.elapse.doors.leftFresh.stopping = s.doors.leftFresh.stopping := by rw [hd]; exact DoorRecord.tick_stopping _
  unfold State.damperOpen
  rw [hf, hs, hs, ht, hflex, hleft]

theorem State.tick_damper (s : State) (d : Damper) :
    s.tick.act.dampers.get d = (s.act.dampers.get d).tick.aim (if s.damperOpen d then 400 else 0) := by
  show s.elapse.settle.act.dampers.get d = _
  rw [State.settle_damper, State.elapse_damperOpen]
  congr 1
  rw [State.elapse_eq]
  show ((s.counted.act.dampers).map DamperRecord.tick).get d = _
  rw [PerDamper.get_map, s.counted_keeps.2.2.2.2.2.1]

/-- Taking a target moves neither a damper's position nor its homing count (R115). -/
theorem DamperRecord.aim_keeps (r : DamperRecord) (target : Nat) :
    (r.aim target).position = r.position ∧ (r.aim target).homed = r.homed := by
  unfold DamperRecord.aim
  split_ifs <;> exact ⟨rfl, rfl⟩

theorem State.tick_zone (s : State) (z : Zone) :
    s.tick.zones.get z = { s.counted.zones.get z with doorHold := (s.counted.zones.get z).doorHold.map (· + 1) } := by
  show s.elapse.zones.get z = _
  rw [State.elapse_eq]
  exact PerZone.get_map _ _ z

theorem State.secondZones_get (s : State) (z : Zone) :
    s.secondZones.get z = (s.zones.get z).second (s.warmSuspended z) (s.ladderOf z).delay := by cases z <;> rfl

theorem State.counted_doorHold (s : State) (z : Zone) : (s.counted.zones.get z).doorHold = (s.zones.get z).doorHold := by
  unfold State.counted
  split
  · obtain ⟨n, hn⟩ := s.tickSecond_zone z
    rw [hn]
  · rfl

theorem StoreRecord.tick_eq (r : StoreRecord) : r.tick = { r with
    job := r.job.map fun j => { j with busy := j.busy + 1 }, sent := if r.job.isSome then [spiStatusRead] else r.sent } := by
  unfold StoreRecord.tick
  cases h : r.job with
  | none =>
    cases r
    cases h
    rfl
  | some j => rfl

theorem Valve.tick_moving {p : Path} {d n : Nat} (h : n < d) : (Valve.moving p d n).tick = .moving p d (n + 1) := by
  show Valve.moving p d (if n < d then n + 1 else n) = _
  rw [if_pos h]

theorem DamperRecord.tick_position {r : DamperRecord} {n : Nat} (h : r.motion = .moving) (hn : r.position = some n)
    (hne : n ≠ r.target) : r.tick.position = some (if n < r.target then n + 1 else n - 1) := by
  rw [DamperRecord.tick_moving h hn]
  by_cases hlt : n < r.target
  · rw [if_pos hlt, if_pos hlt]
  · rw [if_neg hlt, if_neg hlt, if_pos (by omega)]

theorem State.tick_damper_keeps (s : State) (d : Damper) :
    (s.tick.act.dampers.get d).position = (s.act.dampers.get d).tick.position
      ∧ (s.tick.act.dampers.get d).homed = (s.act.dampers.get d).tick.homed := by
  rw [State.tick_damper]
  exact DamperRecord.aim_keeps _ _

theorem State.tick_store (s : State) : s.tick.store = { s.store with
    quiet := s.counted.store.quiet, settingsRetry := s.counted.store.settingsRetry, tablesRetry := s.counted.store.tablesRetry,
    job := s.store.job.map fun j => { j with busy := j.busy + 1 },
    sent := if s.store.job.isSome then [spiStatusRead] else s.store.sent } := by
  show s.elapse.store = _
  rw [State.elapse_eq]
  show s.counted.store.tick = _
  rw [StoreRecord.tick_eq]
  unfold State.counted
  split <;> rfl

/-! ## Heaters and alarms in a whole second -/

theorem DefrostHeater.follow_off (h : DefrostHeater) (request interlocked : Bool) :
    (h.follow request interlocked).output = false → (h.follow request interlocked).onTime = 0 := fun ho => by
  have hon : (h.follow request interlocked).onTime = if (h.follow request interlocked).output then h.onTime else 0 := rfl
  rw [hon, ho]
  rfl

theorem DefrostHeater.follow_on (h : DefrostHeater) (request interlocked : Bool) :
    (h.follow request interlocked).output = true → (h.follow request interlocked).onTime = h.onTime := fun ho => by
  have hon : (h.follow request interlocked).onTime = if (h.follow request interlocked).output then h.onTime else 0 := rfl
  rw [hon, ho]
  rfl

theorem FlexHeater.follow_off (h : FlexHeater) (request : Bool) :
    (h.follow request).output = false → (h.follow request).onTime = 0 := fun ho => by
  have hon : (h.follow request).onTime = if (h.follow request).output then h.onTime else 0 := rfl
  rw [hon, ho]
  rfl

theorem FlexHeater.follow_on (h : FlexHeater) (request : Bool) :
    (h.follow request).output = true → (h.follow request).onTime = h.onTime := fun ho => by
  have hon : (h.follow request).onTime = if (h.follow request).output then h.onTime else 0 := rfl
  rw [hon, ho]
  rfl

/-- The heaters at the end of a step that counts a whole second. -/
theorem State.tick_heaters {s : State} (h : (s.clock + 1) % 100 = 0) :
    (∃ r i, s.tick.act.lowerHeater = (s.act.second.lowerHeater).follow r i)
      ∧ ∃ r, s.tick.act.flexHeater = (s.act.second.flexHeater).follow r := by
  have he : s.elapse = s.tickSecond.tickFine := if_pos h
  refine ⟨⟨s.elapse.lowerHeaterRequest, s.elapse.interlocked, ?_⟩, s.elapse.flexHeaterRequest, ?_⟩
  · show s.elapse.act.lowerHeater.follow _ _ = _
    rw [he]
    rfl
  · show s.elapse.act.flexHeater.follow _ = _
    rw [he]
    rfl

/-- An alarm timer in a second, by the alarm state (R31, R32). -/
theorem ZoneRecord.second_counts {r : ZoneRecord} {suspended : Bool} {delay : Nat}
    (h : r.alarm = .pendingWarm ∧ suspended = false ∨ r.alarm = .pendingCold) (hp : r.alarmPaused = false) (hd : r.alarmTimer < delay) :
    (r.second suspended delay).alarmTimer = r.alarmTimer + 1 := by
  unfold ZoneRecord.second
  rcases h with ⟨ha, hs⟩ | ha <;> simp [*]

theorem ZoneRecord.second_paused {r : ZoneRecord} (hp : r.alarmPaused = true) (suspended : Bool) (delay : Nat) :
    (r.second suspended delay).alarmTimer = r.alarmTimer := by
  unfold ZoneRecord.second
  cases r.alarm <;> simp [hp]

theorem State.tick_alarm {s : State} (h : (s.clock + 1) % 100 = 0) (z : Zone) :
    (s.tick.zones.get z).alarm = (s.zones.get z).alarm
      ∧ (s.tick.zones.get z).alarmTimer = ((s.zones.get z).second (s.warmSuspended z) (s.ladderOf z).delay).alarmTimer := by
  have hz : s.counted.zones.get z = (s.zones.get z).second (s.warmSuspended z) (s.ladderOf z).delay := by
    rw [State.counted_second h]
    exact s.secondZones_get z
  rw [State.tick_zone, hz]
  refine ⟨?_, rfl⟩
  rw [ZoneRecord.second_eq]

end Sys2Proof.Machine

namespace Sys2Proof

open Sys2Proof.Machine

/-- Settles O2: the step counts 10 ms and, where one ends, a whole second, recomputes the outputs and queues what is due. -/
theorem emptyQueueCountsTime : Obligations.EmptyQueueCountsTime := by
  refine ⟨fun s hs => ?_, fun s hs => ?_, fun s hs hw => ?_⟩
  · obtain ⟨hclock, hpending, -⟩ := s.counted_keeps
    refine ⟨_, State.step_empty hs, ?_, State.queueDue_pending ?_, State.queueDue_settled (State.settle_settled _)⟩
    · show s.elapse.clock = _
      rw [State.elapse_eq]
      exact congrArg (· + 1) hclock
    · show s.elapse.pending = []
      rw [State.elapse_eq]
      exact hpending.trans hs
  · obtain ⟨hclock, hpending, hdoors, hlink, hvalve, hdampers, -⟩ := s.counted_keeps
    refine ⟨_, State.step_empty hs, fun d => ?_, ?_, fun p d n hv hn => ?_, s.tick_damper, fun d n hm hn hne => ?_,
      fun d hm => ⟨?_, fun hh => ?_⟩, fun d hm => ?_, fun z => ?_, fun hw => ?_, fun hw => ?_, ?_, s.tick_channels, ?_⟩
    · show s.elapse.doors.get d = _
      rw [State.elapse_eq]
      exact (PerDoor.get_map _ _ d).trans (by rw [hdoors]; rfl)
    · show s.elapse.link = _
      rw [State.elapse_eq, ← hlink]
      rfl
    · show s.elapse.act.valve = _
      rw [State.elapse_eq]
      show s.counted.act.valve.tick = _
      rw [hvalve, hv, Valve.tick_moving hn]
    · rw [(s.tick_damper_keeps d).1, DamperRecord.tick_position hm hn hne]
    · rw [(s.tick_damper_keeps d).1, DamperRecord.tick_homing hm]
    · rw [(s.tick_damper_keeps d).2, DamperRecord.tick_homing hm]
      exact if_pos hh
    · rw [(s.tick_damper_keeps d).1, DamperRecord.tick_idle hm]
    · rw [State.tick_zone, ← s.counted_doorHold z]
    · have he : s.elapse = s.tickFine := if_neg hw
      show s.elapse.cyc = _ ∧ s.elapse.mgr = _ ∧ s.elapse.acct = _ ∧ s.elapse.arb = _
      rw [he]
      exact ⟨rfl, rfl, rfl, rfl⟩
    · have he : s.elapse = s.tickSecond.tickFine := if_pos hw
      have hstore : s.tick.store = _ := s.tick_store
      rw [State.counted_second hw] at hstore
      show s.elapse.acct = _ ∧ s.elapse.cyc = _ ∧ s.elapse.mgr = _
        ∧ (∀ p, s.elapse.arb.paths.get p = { s.arb.paths.get p with timer := (s.arb.paths.get p).timer.map (· - 1) })
        ∧ s.elapse.act.retry = _ ∧ s.elapse.act.runOn = _ ∧ s.elapse.act.afterRun = _ ∧ s.elapse.act.flexHeater.rest = _
        ∧ s.tick.store.quiet = _ ∧ s.tick.store.settingsRetry = _ ∧ s.tick.store.tablesRetry = _
      rw [he, hstore]
      exact ⟨rfl, rfl, rfl, fun p => PerPath.get_map _ _ p, rfl, rfl, rfl, rfl, rfl, rfl, rfl⟩
    · rw [State.tick_store]
    · show s.elapse.window = _ ∧ s.elapse.cap = _ ∧ s.elapse.flt = _ ∧ s.elapse.ports = _ ∧ s.elapse.panel = _
        ∧ s.elapse.events = _ ∧ s.elapse.tables = _ ∧ s.elapse.ready = _
      unfold State.elapse
      split <;> exact ⟨rfl, rfl, rfl, rfl, rfl, rfl, rfl, rfl⟩
  · obtain ⟨⟨r, i, hlower⟩, r', hflex⟩ := State.tick_heaters hw
    refine ⟨_, State.step_empty hs, fun ho ht => ?_, fun ht => ?_, fun ho ht => ?_, fun ht => ?_, fun z => (State.tick_alarm hw z).1,
      fun z ha hp hsus hd => ?_, fun z ha hp hd => ?_, fun z hp => ?_⟩
    · rw [hlower] at ht ⊢
      rw [DefrostHeater.follow_on _ _ _ ht]
      exact if_pos ho
    · rw [hlower] at ht ⊢
      exact DefrostHeater.follow_off _ _ _ ht
    · rw [hflex] at ht ⊢
      rw [FlexHeater.follow_on _ _ ht]
      exact if_pos ho
    · rw [hflex] at ht ⊢
      exact FlexHeater.follow_off _ _ ht
    · have hw' : s.warmSuspended z = false := by rcases hsus with h | h <;> simp [State.warmSuspended, h]
      rw [(State.tick_alarm hw z).2, ZoneRecord.second_counts (.inl ⟨ha, hw'⟩) hp hd]
    · rw [(State.tick_alarm hw z).2, ZoneRecord.second_counts (.inr ha) hp hd]
    · rw [(State.tick_alarm hw z).2, ZoneRecord.second_paused hp]

end Sys2Proof
end

section
/-!
The loads and READY (R18, R45, R126, R129, R156, R168 to R170): what makes an image acceptable, what each load leaves, and the first due
test.
-/
namespace Sys2Proof.Machine

/-! ## The image load (R168) -/

theorem headerGood_iff (header body : List Byte) : headerGood header body = true ↔ word16At header 0 = 0xE41C ∧ byteAt header 2 = 1
    ∧ word16At header 5 = 845 ∧ word16At header 7 = (crc16 (areaAt body 0 845)).toNat := by
  simp only [headerGood, Bool.and_eq_true, decide_eq_true_iff, and_assoc, eq_comm (a := word16At header 7)]
  exact Iff.rfl

theorem Tables.valid_iff (t : Tables) : t.valid = true ↔ t.convValid = true ∧ t.zonesServed = true ∧ t.chainsValid = true
    ∧ t.autoValid = true ∧ t.ambientGain ≤ 40 ∧ t.doorWeight ≤ 15 := by
  simp only [Tables.valid, Bool.and_eq_true, decide_eq_true_iff, and_assoc]

/-- An image is accepted where its header and CRC are right and its body reads as valid tables. -/
theorem acceptImage_iff (header body : List Byte) (v : Nat) (t : Tables) : acceptImage header body = some (v, t)
    ↔ headerGood header body = true ∧ v = word16At header 3 ∧ readBody body = some t ∧ t.valid = true := by
  have hread : (readBody body).filter Tables.valid = some t ↔ readBody body = some t ∧ t.valid = true := Option.filter_eq_some_iff
  unfold acceptImage
  by_cases hg : headerGood header body = true
  · rw [if_pos hg]
    cases hb : (readBody body).filter Tables.valid with
    | none =>
      rw [hb] at hread
      simp [hg, ← hread]
    | some u =>
      rw [hb] at hread
      simp only [Option.some.injEq, Prod.mk.injEq, hg, true_and, ← hread, eq_comm (a := v)]
  · rw [if_neg hg]
    simp [hg]

theorem State.loadImage_accepted {s : State} {header body : List Byte} {v : Nat} {t : Tables}
    (h : acceptImage header body = some (v, t)) : s.loadImage header body = { s with
      tables := t,
      store := { s.store with
        imageLoaded := true, imageState := .accepted, imageVersion := v, sent := [spiRead 0x0000, spiRead 0x0020] } } := by
  unfold State.loadImage
  rw [h]
  rfl

theorem State.loadImage_refused {s : State} {header body : List Byte} (h : acceptImage header body = none) :
    s.loadImage header body = { s with
      tables := builtInTables,
      store := { s.store with
        imageLoaded := true, imageState := .builtIn, imageVersion := 0, lastFailure := some .loadImage,
        sent := [spiRead 0x0000, spiRead 0x0020] },
      events := s.events.map (·.add .store) } := by
  unfold State.loadImage
  rw [h]
  rfl

theorem exec_imageLoad {s : State} {header body : List Byte} (hl : s.store.imageLoaded = false)
    (hc : (s.loadImage header body).cyc = s.cyc) :
    exec (.imageLoadComplete header body) s = .next (s.loadImage header body).settle := by
  have hexec : exec (.imageLoadComplete header body) s = s.finish (s.loadImage header body) := if_neg (by rw [hl]; simp)
  exact hexec.trans (State.finish_same (congrArg CycleRecord.state hc) (congrArg CycleRecord.path hc))

/-! ## The choices of the zones (R18, R45) -/

/-- A stored choice is usable where its preset is one of the table's and contains the zone. -/
theorem Tables.settleZone_usable {t : Tables} {z : Zone} {c : Nat × Int} (h : c.1 < 16 ∧ (t.preset c.1).mask.get z = true)
    (r : ZoneRecord) : (t.settleZone z (some c) r).preset = c.1
      ∧ (t.settleZone z (some c) r).setpoint = clampInt (t.preset c.1).minSetpoint (t.preset c.1).maxSetpoint c.2 := by
  unfold Tables.settleZone
  simp only [h, and_self, if_true]

theorem Tables.settleZone_default {t : Tables} {z : Zone} {o : Option (Nat × Int)}
    (h : ∀ c, o = some c → ¬ (c.1 < 16 ∧ (t.preset c.1).mask.get z = true)) (r : ZoneRecord) :
    (t.settleZone z o r).preset = t.defaultPreset z ∧ (t.settleZone z o r).setpoint = (t.preset (t.defaultPreset z)).defaultSetpoint := by
  unfold Tables.settleZone
  cases o with
  | none => exact ⟨rfl, rfl⟩
  | some c =>
    have hc := h c rfl
    simp only [hc, if_false, and_self]

/-- A zone's record moves in its preset, its setpoint and the mode that follows from them. -/
theorem Tables.settleZone_eq (t : Tables) (z : Zone) (o : Option (Nat × Int)) (r : ZoneRecord) : t.settleZone z o r = { r with
    preset := (t.settleZone z o r).preset, setpoint := (t.settleZone z o r).setpoint,
    mode := if (t.preset (t.settleZone z o r).preset).disabled then .disabled else .normal } := by
  unfold Tables.settleZone
  cases o with
  | none => rfl
  | some c =>
    dsimp only
    split <;> rfl

theorem Tables.defaultPreset_factory {t : Tables} {z : Zone} (h : (t.preset (factoryPreset z)).mask.get z = true) :
    t.defaultPreset z = factoryPreset z := if_pos h

/-- The lowest preset that contains the zone stands in for a factory preset that does not (R18). -/
theorem Tables.defaultPreset_lowest {t : Tables} {z : Zone} {i : Nat} (h : (t.preset (factoryPreset z)).mask.get z = false)
    (hi : i < 16) (hz : (t.preset i).mask.get z = true) (hlow : ∀ k, k < i → (t.preset k).mask.get z = false) :
    t.defaultPreset z = i := by
  have hfind : (List.range 16).find? (fun k => (t.preset k).mask.get z) = some i :=
    List.find?_range_eq_some.mpr ⟨hz, List.mem_range.mpr hi, fun j hj => by rw [hlow j hj]; rfl⟩
  unfold Tables.defaultPreset
  rw [h, hfind]
  rfl

theorem State.settleZones_get (s : State) (o : Option (PerZone (Nat × Int))) (z : Zone) :
    (s.settleZones o).zones.get z = s.tables.settleZone z (o.map (·.get z)) (s.zones.get z) := by
  cases z <;> cases o <;> rfl

/-! ## The settings load (R126, R156, R169) -/

theorem State.loadSettings_record {s : State} {record : List Byte} {x : Settings} (h : Settings.read record = some x) :
    s.loadSettings record = { s with
      zones := (s.settleZones (some x.zones)).zones, panel := x.panel,
      acct := { x.accounting with interval := max 240 (min 1440 x.accounting.interval) },
      store := { s.store with
        settingsLoaded := true, settingsState := .loaded, stored := some (x.accounting.accumulator, x.accounting.age),
        sent := [spiRead 0x1800] } } := by
  have hc : x.accounting.loaded = { x.accounting with interval := max 240 (min 1440 x.accounting.interval) } := by
    unfold Accounting.loaded
    rw [clampNat_eq (by decide)]
  unfold State.loadSettings
  simp only [h, hc]
  rfl

theorem State.loadSettings_none {s : State} {record : List Byte} (h : Settings.read record = none) :
    s.loadSettings record = { s with
      zones := (s.settleZones none).zones,
      store := { s.store with
        settingsLoaded := true, settingsState := .defaults, stored := none, lastFailure := some .loadSettings,
        sent := [spiRead 0x1800] },
      events := s.events.map (·.add .store) } := by
  unfold State.loadSettings
  rw [h]
  rfl

/-- Whatever the settings load reads, the zones take their choices, and the cycle controller stands. -/
theorem State.loadSettings_zones (s : State) (record : List Byte) :
    (s.loadSettings record).zones = (s.settleZones ((Settings.read record).map Settings.zones)).zones
      ∧ (s.loadSettings record).cyc = s.cyc := by
  cases h : Settings.read record with
  | none =>
    rw [State.loadSettings_none h]
    exact ⟨rfl, rfl⟩
  | some x =>
    rw [State.loadSettings_record h]
    exact ⟨rfl, rfl⟩

/-! ## READY (R170) -/

theorem State.ready_due {s : State} (hr : s.ready = false) (hi : s.store.imageLoaded = true) (hs : s.store.settingsLoaded = true)
    (hc : ∀ z : Zone, (s.channels.get z.channel).lastCode.isSome = true) : s.due .ready = true := by
  have h0 : s.channels.ch0.lastCode.isSome = true := hc .fresh
  have h1 : s.channels.ch1.lastCode.isSome = true := hc .flex
  have h2 : s.channels.ch2.lastCode.isSome = true := hc .freezer
  have h3 : s.channels.ch3.lastCode.isSome = true := hc .ice
  show s.readyDue = true
  simp [State.readyDue, State.airSampled, hr, hi, hs, h0, h1, h2, h3]

end Sys2Proof.Machine

namespace Sys2Proof

open Sys2Proof.Machine

/-- Settles O5: an image is accepted by its checks, a record hands each zone a usable choice or its default, and READY makes the first
due test. -/
theorem loadsConfigureThePart : Obligations.LoadsConfigureThePart := by
  refine ⟨fun s header body hl => ⟨fun v t => ?_, fun v t h => ?_, fun h => ?_⟩, fun s record hi hs => ?_, fun s hr hi hs hc => ?_⟩
  · rw [acceptImage_iff, headerGood_iff, Tables.valid_iff]
    constructor
    · rintro ⟨⟨hmagic, hformat, hlen, hcrc⟩, hv, hread, hvalid⟩
      exact ⟨hmagic, hformat, hv, hlen, hcrc, hread, hvalid⟩
    · rintro ⟨hmagic, hformat, hv, hlen, hcrc, hread, hvalid⟩
      exact ⟨⟨hmagic, hformat, hlen, hcrc⟩, hv, hread, hvalid⟩
  · have heq := State.loadImage_accepted (s := s) h
    rw [exec_imageLoad hl (by rw [heq]), heq]
  · have heq := State.loadImage_refused (s := s) h
    rw [exec_imageLoad hl (by rw [heq]), heq]
  · have hexec : exec (.settingsLoadComplete record) s = s.finish (s.loadSettings record) := if_pos ⟨hi, hs⟩
    obtain ⟨hz, hc⟩ := s.loadSettings_zones record
    have hget : ∀ z, (s.loadSettings record).settle.zones.get z
        = s.tables.settleZone z (((Settings.read record).map Settings.zones).map (·.get z)) (s.zones.get z) := fun z => by
      rw [State.settle_zones, hz, State.settleZones_get]
    have hnext := hexec.trans (State.finish_same (congrArg CycleRecord.state hc) (congrArg CycleRecord.path hc))
    refine ⟨_, hnext, fun x hx => ⟨?_, ?_, ?_⟩, fun hx => ⟨?_, fun z => ?_⟩, fun z => ?_,
      fun z => Tables.defaultPreset_factory, fun z i => Tables.defaultPreset_lowest, rfl, rfl, rfl, rfl⟩
    · have hzs : (s.loadSettings record).settle.zones = (s.settleZones (some x.zones)).zones := by
        rw [State.settle_zones, hz, hx]
        rfl
      rw [hzs]
      exact congrArg State.settle (State.loadSettings_record hx)
    · intro z h16 hm
      rw [hget, hx]
      exact Tables.settleZone_usable ⟨h16, hm⟩ _
    · intro z hno
      rw [hget, hx]
      exact Tables.settleZone_default (by rintro c ⟨rfl⟩; exact hno) _
    · have hzs : (s.loadSettings record).settle.zones = (s.settleZones none).zones := by
        rw [State.settle_zones, hz, hx]
        rfl
      rw [hzs]
      exact congrArg State.settle (State.loadSettings_none hx)
    · rw [hget, hx]
      exact Tables.settleZone_default (by rintro c ⟨⟩) _
    · rw [hget]
      exact Tables.settleZone_eq _ _ _ _
  · let w : State := { s with ready := true }
    have hexec : exec .ready s = s.finish w.dueTest := State.event_due (State.ready_due hr hi hs hc) State.riseReady
    refine ⟨_, hexec, ?_, fun hno => ?_, fun hm hf hd => ?_⟩
    · exact ((((w.dueTest_quiet).trans (State.handOver_quiet s _)).trans (State.settle_quiet _)) .ready (by simp))
    · have hsame : w.dueTest = w := State.dueTest_not fun ⟨hm, _, hf, hd⟩ => hno ⟨hm, hf, hd⟩
      rw [hsame]
      exact congrArg State.settle (State.handOver_same rfl rfl)
    · exact (State.dueTest_ended (s := s) (w := w) hm ⟨rfl, hf, hd⟩).auto

end Sys2Proof
end

section
/-!
A cooling restart (R46, R81, R107, R125, R145, R149, R159): each block's move on the way, the state that they leave together, and what the
due test at its end makes of that.
-/
namespace Sys2Proof.Machine

/-! ## An arbiter without entries -/

/-- Without entries and without a turn the arbiter's checks order nothing. -/
theorem State.startCheck_empty {s : State} (h : s.arb = Arbiter.initial) : s.startCheck = s := by
  have hnone : s.arb.noTurn.oldestCandidate = none := by
    rw [h]
    rfl
  unfold State.startCheck
  dsimp only
  rw [hnone]
  split <;> rfl

theorem State.candidateCheck_empty {s : State} (h : s.arb = Arbiter.initial) : s.candidateCheck = s := by
  have hturn : s.arb.turnPath.isSome = false := by
    rw [h]
    rfl
  unfold State.candidateCheck
  rw [hturn]
  exact if_neg fun k => Bool.false_ne_true k.2

theorem State.arbiterCheck_empty {s : State} (h : s.arb = Arbiter.initial) : s.arbiterCheck = s := by
  unfold State.arbiterCheck
  rw [State.startCheck_empty h, State.candidateCheck_empty h, ite_self]

theorem State.unblock_empty {s : State} (h : s.arb = Arbiter.initial) (p : Path) : s.unblock p = s := by
  have hsame : { s with arb := { s.arb with paths := s.arb.paths.set p { s.arb.paths.get p with blocked := false } } } = s := by
    have ha : { s.arb with paths := s.arb.paths.set p { s.arb.paths.get p with blocked := false } } = s.arb := by
      rw [h]
      cases p <;> rfl
    rw [ha]
  unfold State.unblock
  rw [hsame]
  exact State.arbiterCheck_empty h

theorem State.endCompressorHold_empty {s : State} (h : s.arb = Arbiter.initial) : s.endCompressorHold = s := by
  have hsame : { s with arb := { s.arb with compressorHold := false } } = s := by
    have ha : { s.arb with compressorHold := false } = s.arb := by
      rw [h]
      rfl
    rw [ha]
  unfold State.endCompressorHold
  rw [hsame]
  exact State.startCheck_empty h

theorem State.programEnded_empty {s : State} (h : s.arb = Arbiter.initial) (g : Program) : s.programEnded g = s.armedAfter g := by
  have ha : (s.armedAfter g).arb = Arbiter.initial := h
  rw [State.programEnded_eq, State.unblock_empty ha, State.endCompressorHold_empty ha, ite_self]

/-! ## The manager's cancellation (R145) -/

/-- A LOWER program runs or exits. -/
def State.runsLower (s : State) : Bool := s.runningProgram.any fun g => decide (g.path = .lower)

theorem State.armedAfter_eq (s : State) (g : Program) : s.armedAfter g = { s with
    act := { s.act with
      lowerHeater := { s.act.lowerHeater with limited := false },
      fanDelay := if decide (g.path = .lower) then .armed else s.act.fanDelay },
    window := if decide (g.path = .lower) then .closing (s.now + 1800) else s.window } := by
  unfold State.armedAfter
  by_cases h : g.path = .lower
  · rw [if_pos h, if_pos h, decide_eq_true h]
    rfl
  · rw [if_neg h, if_neg h, decide_eq_false h]
    rfl

/-- The manager's record after a cancellation (R145). -/
def State.cancelled (s : State) : Manager :=
  { s.mgr with
    state := .idle, program := none, kind := none, step := none, stepTimer := none, dueMoment := none,
    waitStart := none, releaseAsked := false, holdoffEnd := none, deferralEnd := none,
    lastOutcome := if s.runningProgram.isSome then s.mgr.program.map (fun i => (i, .cancelled, s.now)) else s.mgr.lastOutcome }

/-- What a cancellation moves where the arbiter has no entries. -/
theorem State.cancelManager_empty {s : State} (h : s.arb = Arbiter.initial) : ∃ b : Bool, s.cancelManager = { s with
    act := { s.act with
      lowerHeater := { s.act.lowerHeater with limited := b },
      fanDelay := if s.runsLower then .armed else s.act.fanDelay },
    window := if s.runsLower then .closing (s.now + 1800) else s.window,
    mgr := s.cancelled,
    events := if s.runningProgram.isSome then s.events.map (·.add .defrostEnd) else s.events } := by
  unfold State.cancelManager State.runsLower State.cancelled
  cases hr : s.runningProgram with
  | none => exact ⟨s.act.lowerHeater.limited, rfl⟩
  | some g =>
    have he := State.programEnded_empty (s := s.recordOutcome .cancelled) h g
    refine ⟨false, ?_⟩
    dsimp only
    rw [he, State.armedAfter_eq]
    rfl

/-! ## The cycle controller's move (R107) -/

/-- The cycle record of a cooling restart: through STOPPING where the compressor may be turning, to OFF from the VALVE phase. -/
def CycleRecord.cooled (c : CycleRecord) (now : Nat) : CycleRecord :=
  if c.state = .starting ∧ c.phase = some .valve then c.atRest .off
  else if c.state = .off ∨ c.state = .stopping then c
  else { c.atRest .stopping with
    stopTimer := some 0, stopCommandedSince := if c.runFlag then now else c.stopCommandedSince }

/-- What the end of a LOWER turn makes of the fan delay (R111). -/
def State.stoppedDelay (s : State) : FanDelay :=
  if s.cyc.state = .running ∧ s.cyc.path = some .lower ∧ s.act.fanDelay = .active then .disarmed else s.act.fanDelay

theorem State.leaveRunning_eq (s : State) : ∃ ar, s.leaveRunning
    = { s with act := { s.act with afterRun := ar, fanDelay := s.stoppedDelay } } := by
  unfold State.leaveRunning State.stoppedDelay
  by_cases h : s.cyc.state = .running
  · simp only [h, if_true, true_and]
    exact ⟨_, rfl⟩
  · simp only [h, if_false, false_and]
    exact ⟨s.act.afterRun, rfl⟩

theorem State.restartCycleState_eq (s : State) : ∃ stall ro ar, s.restartCycleState = { s with
    cyc := s.cyc.cooled s.now,
    flt := { s.flt with stall := stall },
    act := { s.act with runOn := ro, afterRun := ar, fanDelay := s.stoppedDelay } } := by
  obtain ⟨ar, hleave⟩ := s.leaveRunning_eq
  unfold State.restartCycleState CycleRecord.cooled
  by_cases hv : s.cyc.state = .starting ∧ s.cyc.phase = some .valve
  · rw [if_pos hv, if_pos hv]
    unfold State.enterOff
    rw [hleave]
    exact ⟨0, some 60, ar, rfl⟩
  · rw [if_neg hv, if_neg hv]
    unfold State.stopOrder
    by_cases ho : s.cyc.state = .off ∨ s.cyc.state = .stopping
    · rw [if_pos ho, if_pos ho]
      have hd : s.stoppedDelay = s.act.fanDelay := if_neg fun k => by rcases ho with h | h <;> simp [h] at k
      rw [hd]
      exact ⟨_, _, _, rfl⟩
    · rw [if_neg ho, if_neg ho]
      dsimp only
      rw [hleave]
      exact ⟨0, s.act.runOn, ar, rfl⟩

theorem CycleRecord.cooled_rests (c : CycleRecord) (now : Nat) : (c.cooled now).state = .off ∨ (c.cooled now).state = .stopping := by
  unfold CycleRecord.cooled
  split
  · exact .inl rfl
  · split
    case isTrue h => exact h
    case isFalse => exact .inr rfl

theorem CycleRecord.cooled_same {c : CycleRecord} (h : c.state = .off ∨ c.state = .stopping) (now : Nat) : c.cooled now = c := by
  have hv : ¬ (c.state = .starting ∧ c.phase = some .valve) := fun k => by rcases h with h | h <;> simp [h] at k
  unfold CycleRecord.cooled
  rw [if_neg hv, if_pos h]

theorem CycleRecord.cooled_stops {c : CycleRecord}
    (h : c.state = .running ∨ c.state = .transfer ∨ (c.state = .starting ∧ c.phase = some .run)) (now : Nat) :
    (c.cooled now).state = .stopping ∧ (c.cooled now).runFlag = false ∧ (c.cooled now).lastStop = c.lastStop := by
  have hv : ¬ (c.state = .starting ∧ c.phase = some .valve) := fun ⟨hs, hp⟩ => by rcases h with h | h | ⟨-, h⟩ <;> simp_all
  have ho : ¬ (c.state = .off ∨ c.state = .stopping) := fun k => by rcases h with h | h | ⟨h, -⟩ <;> simp [h] at k
  unfold CycleRecord.cooled
  rw [if_neg hv, if_neg ho]
  exact ⟨rfl, rfl, rfl⟩

theorem CycleRecord.cooled_turnsOff {c : CycleRecord} (h : c.state = .starting) (hp : c.phase = some .valve) (now : Nat) :
    (c.cooled now).state = .off ∧ (c.cooled now).lastStop = c.lastStop := by
  unfold CycleRecord.cooled
  rw [if_pos ⟨h, hp⟩]
  exact ⟨rfl, rfl⟩

/-! ## The blocks together -/

/-- The state that the blocks leave before the due test (R159), but for what no rule names: the stall count and the run-on. -/
def State.cooledDown (s : State) (stall : Nat) (ro : Option Nat) : State :=
  { s with
    zones := s.zones.map ZoneRecord.restarted,
    arb := Arbiter.initial,
    cyc := s.cyc.cooled s.now,
    flt := { s.flt with times := [], lockout := none, stall := stall },
    cap := { s.cap with power := none },
    act := { s.act with
      forced := none, afterRun := none, runOn := ro,
      fanDelay := if s.runsLower then .armed else s.stoppedDelay,
      lowerHeater := { requested := false, output := false, onTime := 0, limited := false },
      flexHeater := { requested := false, output := false, onTime := 0, rest := none } },
    window := if s.runsLower then .closing (s.now + 1800) else s.window,
    mgr := s.cancelled,
    events := if s.runningProgram.isSome then s.events.map (·.add .defrostEnd) else s.events }

theorem State.restarted_eq (s : State) : ∃ stall ro,
    s.restartZones.restartArbiter.cancelManager.restartCycle.restartActuators = s.cooledDown stall ro := by
  obtain ⟨b, hcancel⟩ := State.cancelManager_empty (s := s.restartZones.restartArbiter) rfl
  obtain ⟨stall, ro, ar, hcycle⟩ := s.restartZones.restartArbiter.cancelManager.restartCycleState_eq
  refine ⟨stall, ro, ?_⟩
  have hdelay : s.restartZones.restartArbiter.cancelManager.stoppedDelay = if s.runsLower then .armed else s.stoppedDelay := by
    rw [hcancel]
    unfold State.stoppedDelay
    by_cases h : s.runsLower = true
    · have h' : s.restartZones.restartArbiter.runsLower = true := h
      simp [h, h']
    · have h' : s.restartZones.restartArbiter.runsLower = false := Bool.eq_false_iff.mpr h
      simp only [h', Bool.eq_false_iff.mpr h]
      rfl
  unfold State.restartCycle
  rw [hcycle, hdelay, hcancel]
  rfl

/-! ## The due test at the end (R129, R132, R149) -/

/-- A program begins: what moves (R133). -/
theorem State.beginProgram_eq (s : State) (g : Program) : s.beginProgram g = { s with
    mgr := { s.mgr with
      state := .running, runMeasurement := none, dueMoment := none, waitStart := none, releaseAsked := false,
      deferralEnd := if s.mgr.kind = some .automatic then none else s.mgr.deferralEnd,
      step := some g.head, stepTimer := some 0 },
    arb := { s.arb with
      paths := s.arb.paths.set g.path { s.arb.paths.get g.path with blocked := true },
      compressorHold := s.arb.compressorHold || g.compressorOff },
    act := { s.act with afterRun := if g.path = .upper then none else s.act.afterRun },
    window := if g.path = .lower then .running else s.window,
    events := s.events.map (·.add .defrostBegin) } := by
  unfold State.beginProgram
  cases g.path <;> cases g.compressorOff <;> simp only [Bool.or_true, Bool.or_false] <;> rfl

/-- The manager's record in the path wait of the auto-defrost program, which begins at once (R129, R131). -/
def State.waiting (s : State) : Manager :=
  { s.mgr with
    state := .due, program := some s.tables.autoProgram, kind := some .automatic, dueMoment := some s.now,
    releaseAsked := false, waitStart := some s.now }

/-- In a path wait that has just begun the manager makes the begin test (R132). -/
theorem State.managerReact_fresh {s : State} {i : Nat} (hs : s.mgr.state = .due) (hw : s.mgr.waitStart = some s.now)
    (hi : s.mgr.program = some i) : s.managerReact = if s.beginCondition (s.tables.program i).path
      then s.beginProgram (s.tables.program i) else s := by
  have hg : s.programRecord = some (s.tables.program i) := by simp [State.programRecord, hi]
  have hlate : ¬ (s.now + 1800 ≤ s.now ∧ s.cyc.currentOn (s.tables.program i).path = true) := fun h => by omega
  unfold State.managerReact State.beginTest
  simp only [hs, hw, hg, hlate, if_false]

theorem State.enterDue_fresh {s : State} (hd : s.mgr.deferralEnd = none) :
    s.enterDue = State.managerReact { s with mgr := s.waiting } := by
  unfold State.enterDue State.beginWait
  rw [hd]
  exact if_neg (Nat.not_lt_zero _)

/-- The valve is not on its way to a path (R132). -/
def Valve.clearOf (v : Valve) (p : Path) : Bool :=
  match v with
  | .standing _ => true
  | .moving x _ _ => decide (x ≠ p)

theorem Valve.clearOf_eq (v : Valve) (p : Path) : v.clearOf p = !v.movingToward p := by
  cases v with
  | standing q => rfl
  | moving q d n => simp [Valve.clearOf, Valve.movingToward]

/-- With the cycle in OFF or STOPPING a program can begin in OFF alone (R132). -/
theorem State.beginCondition_rests {s : State} (h : s.cyc.state = .off ∨ s.cyc.state = .stopping) (p : Path) :
    s.beginCondition p = (decide (s.cyc.state = .off) && s.act.valve.clearOf p) := by
  have hc : s.cyc.currentOn p.other = false := by rcases h with h | h <;> simp [CycleRecord.currentOn, h]
  rw [State.beginCondition, hc, Bool.or_false, Valve.clearOf_eq]

/-- What the due test makes of an arbiter without entries and a cycle at rest, where it finds no defrost due, one that waits, or one that
begins. -/
def State.dueTested (s : State) (due begins : Bool) : State :=
  let g := s.tables.program s.tables.autoProgram
  { s with
    mgr := if begins then
        { s.mgr with
          state := .running, program := some s.tables.autoProgram, kind := some .automatic, runMeasurement := none,
          dueMoment := none, waitStart := none, releaseAsked := false, step := some g.head, stepTimer := some 0 }
      else if due then s.waiting else s.mgr,
    arb := { s.arb with
      paths := if begins then s.arb.paths.set g.path { s.arb.paths.get g.path with blocked := true } else s.arb.paths,
      compressorHold := s.arb.compressorHold || (begins && g.compressorOff) },
    window := if begins = true ∧ g.path = .lower then .running else s.window,
    events := if begins then s.events.map (·.add .defrostBegin) else s.events }

theorem State.dueTested_waits (s : State) : s.dueTested true false = { s with mgr := s.waiting } := by
  unfold State.dueTested
  simp

theorem State.dueTested_not (s : State) : s.dueTested false false = s := by
  unfold State.dueTested
  simp

theorem State.dueTested_begins {s : State} (ha : s.act.afterRun = none) (hd : s.mgr.deferralEnd = none) :
    s.dueTested true true = State.beginProgram { s with mgr := s.waiting } (s.tables.program s.tables.autoProgram) := by
  have hact : { s.act with afterRun := if (s.tables.program s.tables.autoProgram).path = .upper then none else s.act.afterRun }
      = s.act := by
    rw [ha, ite_self, ← ha]
  have hm : (if s.waiting.kind = some .automatic then none else s.waiting.deferralEnd) = s.mgr.deferralEnd := by
    rw [hd]
    rfl
  rw [State.beginProgram_eq]
  dsimp only
  rw [hact, hm]
  unfold State.dueTested
  simp only [if_true, Bool.true_and, true_and]
  rfl

/-- The due test after a cooling restart, and the hand-over that follows it, which moves nothing more. -/
theorem State.dueTest_rests {s : State} {due begins : Bool} (hready : s.ready = true) (hidle : s.mgr.state = .idle)
    (hforced : s.act.forced = none) (hdefer : s.mgr.deferralEnd = none) (hafter : s.act.afterRun = none)
    (hcyc : s.cyc.state = .off ∨ s.cyc.state = .stopping)
    (hdue : due = s.acct.due)
    (hbegins : begins = (due && decide (s.cyc.state = .off)
      && s.act.valve.clearOf (s.tables.program s.tables.autoProgram).path)) :
    s.dueTest = s.dueTested due begins := by
  have hfalls : s.FallsDue ↔ due = true := by
    rw [hdue]
    simp [State.FallsDue, Accounting.due, hready, hforced]
  cases hd : due with
  | false =>
    have hb : begins = false := by simp [hbegins, hd]
    rw [hb, State.dueTested_not]
    exact State.dueTest_not fun k => absurd ((hfalls.mp k.2).symm.trans hd) (by simp)
  | true =>
    have hb : begins = State.beginCondition { s with mgr := s.waiting } (s.tables.program s.tables.autoProgram).path := by
      rw [State.beginCondition_rests (s := { s with mgr := s.waiting }) hcyc, hbegins, hd]
      rfl
    rw [State.dueTest_due hidle (hfalls.mpr hd), State.enterDue_fresh hdefer,
      State.managerReact_fresh (i := s.tables.autoProgram) rfl rfl rfl, ← hb]
    cases begins with
    | false => exact s.dueTested_waits.symm
    | true => exact (State.dueTested_begins hafter hdefer).symm

/-! ## The request (R159) -/

theorem Admitted.ready {s : State} {e : Ending} {c : Command} {p : Port} {f : Frame} {q : Ports} (h : Admitted s e c p f q)
    (hc : c ≠ .identify) : s.ready = true := by
  obtain ⟨-, hr, hf⟩ := h
  by_contra hno
  have hno' : s.ready = false := by simpa using hno
  unfold State.refusal at hr
  rw [hf] at hr
  unfold State.commandRefusal at hr
  simp only [hno', hc, ne_eq, not_false_eq_true, and_self, if_true] at hr
  split_ifs at hr

/-- A RESTART of another level than 2 is of this row, and is answered by its rule. -/
theorem Admitted.restart {s : State} {e : Ending} {p : Port} {f : Frame} {q : Ports} (h : Admitted s e .restart p f q)
    (h2 : f.arg 0 ≠ 2) {a : Answer} (ha : ruleCoolingRestart { s with ports := q } p f = a) :
    exec (.coolingRestart e) s = s.finish (a.respond p .restart) := by
  have hm : (f.names .restart && !f.fullRestart) = true := by simp [h.names, Frame.fullRestart, h2]
  have hr := State.request_admitted h (mine := fun f => f.names .restart && !f.fullRestart) hm ruleCoolingRestart
  rw [ha, Frame.echo_of_command h.2.2] at hr
  exact congrArg s.finish hr

/-- A due test that no begin follows leaves the manager at rest or in a path wait that cannot begin. -/
theorem State.dueTested_reacts {s y : State} {due begins : Bool} (hm : y.mgr = (s.dueTested due begins).mgr) (hn : y.now = s.now)
    (hc : y.cyc = s.cyc) (hv : y.act.valve = s.act.valve) (ht : y.tables = s.tables) (hidle : s.mgr.state = .idle)
    (hcyc : s.cyc.state = .off ∨ s.cyc.state = .stopping)
    (hbegins : begins = (due && decide (s.cyc.state = .off)
      && s.act.valve.clearOf (s.tables.program s.tables.autoProgram).path)) : y.managerReact = y := by
  cases begins with
  | true => exact State.managerReact_idle (by rw [hm]; simp [State.dueTested])
  | false =>
    cases due with
    | false => exact State.managerReact_idle (by rw [hm, State.dueTested_not, hidle]; simp)
    | true =>
      have hw : y.mgr = s.waiting := by rw [hm, State.dueTested_waits]
      have hno : y.beginCondition (y.tables.program s.tables.autoProgram).path = false := by
        rw [State.beginCondition_rests (by rw [hc]; exact hcyc), hc, hv, ht]
        simpa using hbegins.symm
      rw [State.managerReact_fresh (i := s.tables.autoProgram) (by rw [hw]; rfl) (by rw [hw, hn]; rfl) (by rw [hw]; rfl), hno]
      rfl

/-- A begin blocks its path, and nothing else of the paths moves (R133). -/
theorem State.dueTested_path {s : State} (h : s.arb = Arbiter.initial) (due begins : Bool) (x : Path) :
    (s.dueTested due begins).arb.paths.get x = { PathRecord.initial with
      blocked := begins && decide (x = (s.tables.program s.tables.autoProgram).path) } := by
  have hinit : ∀ y, s.arb.paths.get y = PathRecord.initial := fun y => by
    rw [h]
    cases y <;> rfl
  unfold State.dueTested
  cases begins with
  | false => exact hinit x
  | true =>
    by_cases hx : x = (s.tables.program s.tables.autoProgram).path
    · simp [← hx, hinit]
    · simp [hx, hinit, PathRecord.initial]

theorem State.respond_act (s : State) (p : Port) (x : Response) : ∃ n, (s.respond p x).act = { s.act with lastValidS := n } := by
  unfold State.respond
  dsimp only
  split
  · exact ⟨_, rfl⟩
  · exact ⟨s.act.lastValidS, rfl⟩

/-- Outside a program the lower defrost heater is not asked for (R117). -/
theorem State.lowerHeaterRequest_idle {s : State} (hf : s.act.forced = none) (hm : s.mgr.inProgram = false) :
    s.lowerHeaterRequest = false := by
  have hr : s.runningProgram = none := by simp [State.runningProgram, hm]
  simp [State.lowerHeaterRequest, State.stepOn, hf, hr]

theorem State.flexHeaterRequest_cold {s : State} (hf : s.act.forced = none) (hh : s.zones.flex.heat = false) :
    s.flexHeaterRequest = false := by
  simp [State.flexHeaterRequest, hf, hh]

theorem DefrostHeater.follow_unasked (h : DefrostHeater) (interlocked : Bool) : (h.follow false interlocked).output = false := rfl

theorem FlexHeater.follow_unasked (h : FlexHeater) : (h.follow false).output = false := rfl

/-- A kind added to every set, or not (R163). -/
theorem holdsKind_addIf (e : PerPort EventRecord) (b : Bool) (k j : EventKind) (x : Port) :
    holdsKind ((if b then e.map (·.add k) else e).get x).set j = (holdsKind (e.get x).set j || (decide (j = k) && b)) := by
  cases b <;> simp [EventRecord.add]

/-- How an admitted cooling restart ends: the blocks' state, its due test, the answer and the outputs. -/
theorem exec_coolingRestart {s : State} {e : Ending} {p : Port} {f : Frame} {q : Ports} (h : Admitted s e .restart p f q)
    (h1 : f.arg 0 = 1) : ∃ stall ro,
      let r := State.cooledDown { s with ports := q } stall ro
      let due := s.acct.due
      let begins := due && decide (r.cyc.state = .off) && s.act.valve.clearOf (s.tables.program s.tables.autoProgram).path
      exec (.coolingRestart e) s
        = .next (State.settle ((r.dueTested due begins).respond p { status := .ok, echo := 0x25, data := [] })) := by
  obtain ⟨stall, ro, hr⟩ := State.restarted_eq { s with ports := q }
  refine ⟨stall, ro, ?_⟩
  intro r due begins
  have hcyc : r.cyc.state = .off ∨ r.cyc.state = .stopping := CycleRecord.cooled_rests _ _
  have hcool : State.coolingRestart { s with ports := q } = r.dueTested due begins :=
    (congrArg State.dueTest hr).trans
      (State.dueTest_rests (s := r) (h.ready (by simp)) rfl rfl rfl rfl hcyc rfl rfl)
  have hrule : ruleCoolingRestart { s with ports := q } p f = .ok (r.dueTested due begins) := by
    unfold ruleCoolingRestart
    rw [if_pos h1, hcool]
  have hreact : State.managerReact ((r.dueTested due begins).respond p { status := .ok, echo := 0x25, data := [] })
      = (r.dueTested due begins).respond p { status := .ok, echo := 0x25, data := [] } := by
    refine State.dueTested_reacts (s := r) (due := due) (begins := begins) rfl rfl rfl ?_ rfl rfl hcyc rfl
    unfold State.respond
    dsimp only
    split <;> rfl
  refine (h.restart (by omega) hrule).trans ?_
  show Host.Outcome.next (State.handOver s _).settle = _
  unfold State.handOver
  rw [show Answer.respond (.ok (r.dueTested due begins)) p .restart
    = (r.dueTested due begins).respond p { status := .ok, echo := 0x25, data := [] } from rfl, hreact, ite_self]

end Sys2Proof.Machine

namespace Sys2Proof

open Sys2Proof.Machine

/-- Settles O48: the blocks' moves leave one state, and the due test leaves it, waits in it or begins in it. -/
theorem coolingRestartClearsTheBlocks : Obligations.CoolingRestartClearsTheBlocks := by
  intro s e p f q h
  refine ⟨fun h1 h2 => ?_, fun h1 => ?_⟩
  · exact (h.restart h2 (if_neg h1)).trans (State.finish_same rfl rfl)
  · obtain ⟨stall, ro, hexec⟩ := exec_coolingRestart h h1
    extract_lets r due begins at hexec
    obtain ⟨n, hn⟩ := (r.dueTested due begins).respond_act p { status := .ok, echo := 0x25, data := [] }
    refine ⟨_, hexec, State.respond_answer _ p _, fun z => PerZone.get_map _ _ z, rfl, rfl, rfl, rfl, rfl, fun x => ?_, fun hc => ?_,
      fun hc => ?_, fun hc => ?_, fun hc hp => ?_, rfl, rfl, rfl, rfl, rfl, rfl, rfl, ?_, ?_, ?_, ?_, ?_, ?_, ?_, rfl, ?_,
      rfl, rfl, rfl, rfl, rfl⟩
    · have hx := State.dueTested_path (s := r) rfl due begins x
      exact ⟨congrArg PathRecord.fault hx, congrArg PathRecord.count hx, congrArg PathRecord.timer hx⟩
    · exact CycleRecord.cooled_same (.inl hc) _
    · exact CycleRecord.cooled_same (.inr hc) _
    · exact CycleRecord.cooled_stops hc _
    · exact CycleRecord.cooled_turnsOff hc hp _
    · exact congrArg Actuators.forced hn
    · exact congrArg Actuators.afterRun hn
    · exact congrArg (fun a => a.lowerHeater.limited) hn
    · exact congrArg (fun a => a.flexHeater.rest) hn
    · have hsame := congrArg Actuators.condenserFault hn
      exact hsame
    · have hsame := congrArg Actuators.retry hn
      exact hsame
    · have hsame := congrArg Actuators.valve hn
      exact hsame
    · intro ended endedLower g clear due' begins' rest
      have hmgr : ((r.dueTested due begins).respond p { status := .ok, echo := 0x25, data := [] }).settle.mgr
          = (r.dueTested due begins).mgr := rfl
      refine ⟨fun hd => ?_, fun hd hb => ?_, fun hb => ?_, fun x => ?_, ?_, rfl, ?_, fun hb => ?_, ?_, fun x k => ?_⟩
      · have hdf : due = false := hd
        have hbf : begins = false := by simp [begins, hdf]
        rw [hmgr, hdf, hbf, State.dueTested_not]
        rfl
      · have hdt : due = true := hd
        have hbf : begins = false := hb
        rw [hmgr, hdt, hbf, State.dueTested_waits]
        rfl
      · have hbt : begins = true := hb
        rw [hmgr, hbt]
        rfl
      · exact congrArg PathRecord.blocked (State.dueTested_path (s := r) rfl due begins x)
      · exact Bool.false_or _
      · exact congrArg Actuators.fanDelay hn
      · have hbf : begins = false := hb
        have hidle : (r.dueTested due begins).mgr.inProgram = false := by
          rw [hbf]
          cases due <;> rfl
        have hreq := State.lowerHeaterRequest_idle
          (s := (r.dueTested due begins).respond p { status := .ok, echo := 0x25, data := [] }) (congrArg Actuators.forced hn) hidle
        exact (congrArg (fun b => (DefrostHeater.follow _ b _).output) hreq).trans (DefrostHeater.follow_unasked _ _)
      · have hreq := State.flexHeaterRequest_cold
          (s := (r.dueTested due begins).respond p { status := .ok, echo := 0x25, data := [] }) (congrArg Actuators.forced hn) rfl
        exact (congrArg (fun b => (FlexHeater.follow _ b).output) hreq).trans (FlexHeater.follow_unasked _)
      · have hend := holdsKind_addIf s.events ended .defrostEnd k x
        have hbegin := holdsKind_addIf (if ended then s.events.map (·.add .defrostEnd) else s.events) begins .defrostBegin k x
        rw [hend] at hbegin
        exact hbegin

end Sys2Proof
end

section
/-!
The openings of a door that are reported or lapse, and the minutes that credit the frost accumulator, up to the due test that follows a
credit (R51 to R53, R85, R127, R129).
-/
namespace Sys2Proof.Machine

/-! ## When an opening is reported, lapses or is credited -/

theorem DoorRecord.openTimer_of_openAge {r : DoorRecord} {n : Nat} (h : r.openAge = some n) : r.openTimer = some (n / 100) :=
  congrArg (Option.map seconds) h

/-- A door that is CLOSED has no open timer that could have reached a time (R48). -/
theorem DoorRecord.reached_closed {r : DoorRecord} (h : r.openAge = none) (m : Nat) : reached m r.openTimer = false := by
  unfold DoorRecord.openTimer
  rw [h]
  rfl

theorem State.doorLong_due {s : State} {d : Door} {n : Nat} (ho : (s.doors.get d).openAge = some n) (hn : 120 ≤ n / 100)
    (hl : (s.doors.get d).longReported = false) : s.due (.doorLong d) = true := by
  show s.doorLongDue d = true
  rw [State.doorLongDue, reached_of_le (DoorRecord.openTimer_of_openAge ho) hn, hl]
  rfl

theorem State.lapse_due {s : State} {d : Door} {n : Nat} (ho : (s.doors.get d).openAge = some n) (hn : 600 ≤ n / 100)
    (hl : (s.doors.get d).lapsed = false) : s.due (.lapse d) = true := by
  show s.lapseDue d = true
  rw [State.lapseDue, reached_of_le (DoorRecord.openTimer_of_openAge ho) hn, hl]
  rfl

/-- An opening that has been reported, or none, is not reported (R51). -/
theorem State.doorLong_not_due {s : State} {d : Door} (h : (s.doors.get d).longReported = true ∨ (s.doors.get d).openAge = none) :
    s.due (.doorLong d) = false := by
  show (reached 120 (s.doors.get d).openTimer && !(s.doors.get d).longReported) = false
  rcases h with hl | ho
  · rw [hl]
    exact Bool.and_false _
  · rw [DoorRecord.reached_closed ho]
    rfl

/-- An opening whose inhibit has lapsed, or none, does not lapse (R52). -/
theorem State.lapse_not_due {s : State} {d : Door} (h : (s.doors.get d).lapsed = true ∨ (s.doors.get d).openAge = none) :
    s.due (.lapse d) = false := by
  show (reached 600 (s.doors.get d).openTimer && !(s.doors.get d).lapsed) = false
  rcases h with hl | ho
  · rw [hl]
    exact Bool.and_false _
  · rw [DoorRecord.reached_closed ho]
    rfl

theorem State.doorMinute_due {s : State} {d : Door} {n : Nat} (hd : d = .flexDrawer ∨ d = .freezerDrawer)
    (ho : (s.doors.get d).openAge = some n) (hn : 60 * ((s.doors.get d).minutes + 1) ≤ n / 100) :
    s.due (.doorMinute d) = true := by
  have hside : d.freezerSide = true := by rcases hd with rfl | rfl <;> rfl
  show s.doorMinuteDue d = true
  rw [State.doorMinuteDue, hside, reached_of_le (DoorRecord.openTimer_of_openAge ho) hn]
  rfl

theorem State.lowerRunMinute_due {s : State} {n : Nat} (hs : s.cyc.state = .running) (hp : s.cyc.path = some .lower)
    (ht : s.cyc.turnTimer = some n) (hn : 60 * (s.cyc.runMinutes + 1) ≤ n) : s.due .lowerRunMinute = true := by
  show s.runMinuteDue = true
  rw [State.runMinuteDue, reached_of_le ht hn, CycleRecord.runningOn, hs, hp]
  rfl

/-! ## A credit and the due test that follows it (R127, R129) -/

/-- The accumulator takes a credit, saturating at 65535, before the due test (R127). -/
def State.credited (s : State) (n : Nat) : State :=
  { s with acct := { s.acct with accumulator := min 65535 (s.acct.accumulator + n) } }

theorem State.credit_eq (s : State) (n : Nat) : s.credit n = (s.credited n).dueTest := rfl

/-- What the due test and the end of its event leave of a state: the accounting and the doors; where no defrost falls due, all of it but
the outputs; where one does, the auto-defrost program is due or runs. -/
structure DueTestEnds (w t : State) : Prop where
  acct : t.acct = w.acct
  doors : t.doors = w.doors
  stands : ¬ (w.mgr.state = .idle ∧ w.FallsDue) → t = w.settle
  falls : w.mgr.state = .idle ∧ w.FallsDue →
    t.mgr.program = some w.tables.autoProgram ∧ t.mgr.kind = some .automatic ∧ (t.mgr.state = .due ∨ t.mgr.state = .running)

/-- An event that makes the due test last, having left the cycle state and path alone. -/
theorem State.finish_dueTest {s w : State} (hs : w.cyc.state = s.cyc.state) (hp : w.cyc.path = s.cyc.path) :
    ∃ t, s.finish w.dueTest = .next t ∧ DueTestEnds w t := by
  have hdoors : (State.handOver s w.dueTest).doors = w.doors :=
    (State.handOver_doors s _).trans (State.dueTest_manager w).doors
  by_cases h : w.mgr.state = .idle ∧ w.FallsDue
  · have hactive := State.dueTest_ended (s := s) h.1 h.2
    exact ⟨_, State.finish_eq s _, hactive.acct, hdoors, fun hn => absurd h hn, fun _ => hactive.auto⟩
  · rw [State.dueTest_not h, State.finish_same hs hp]
    exact ⟨_, rfl, rfl, rfl, fun _ => rfl, fun hf => absurd hf h⟩

/-- A due event that counts a minute and credits it is a due test of the state with both. -/
theorem State.event_credit {s : State} {i : Instr} (h : s.due i = true) (f : State → State) (n : Nat)
    (hs : (f s).cyc.state = s.cyc.state) (hp : (f s).cyc.path = s.cyc.path) :
    ∃ t, s.event i (fun x => (f x).credit n) = .next t ∧ DueTestEnds ((f s).credited n) t := by
  rw [State.event_due h, State.credit_eq]
  exact State.finish_dueTest hs hp

end Sys2Proof.Machine

namespace Sys2Proof

open Sys2Proof.Machine

/-- Settles O17: a report and a lapse write their own mark, which keeps them from coming again; either minute is a due test of the state
with the minute counted and credited. -/
theorem openingsReportLapseAndCredit : Obligations.OpeningsReportLapseAndCredit := by
  refine ⟨⟨fun s d n ho hn hl => ?_, fun s d n ho hn hl => ?_, fun s d => ⟨fun h => ?_, fun h => ?_⟩⟩, ?_⟩
  · exact State.event_same (State.doorLong_due ho hn hl)
      (fun t => (t.setDoor d { t.doors.get d with longReported := true }).raise .doorLong) rfl rfl
  · exact State.event_same (State.lapse_due ho hn hl) (fun t => t.setDoor d { t.doors.get d with lapsed := true }) rfl rfl
  · show execDoorLong d s = _
    exact State.event_not (State.doorLong_not_due h) _
  · show execLapse d s = _
    exact State.event_not (State.lapse_not_due h) _
  · intro s c weight u hminute a due
    have hcredit : (∃ t, exec c s = .next t ∧ DueTestEnds (u.credited weight) t) ∧ u.credited weight = { u with acct := a }
        ∧ u.tables = s.tables ∧ (due ↔ (u.credited weight).mgr.state = .idle ∧ (u.credited weight).FallsDue) := by
      rcases hminute with ⟨d, n, rfl, hd, ho, hn, rfl, rfl⟩ | ⟨n, rfl, hs, hp, ht, hn, rfl, rfl⟩
      · exact ⟨State.event_credit (State.doorMinute_due hd ho hn)
          (fun t => t.setDoor d { t.doors.get d with minutes := (t.doors.get d).minutes + 1 }) s.tables.doorWeight rfl rfl,
          rfl, rfl, and_left_comm⟩
      · exact ⟨State.event_credit (State.lowerRunMinute_due hs hp ht hn)
          (fun t => { t with cyc := { t.cyc with runMinutes := t.cyc.runMinutes + 1 } }) 1 rfl rfl,
          rfl, rfl, and_left_comm⟩
    obtain ⟨⟨t, hexec, hends⟩, hu, htables, hdue⟩ := hcredit
    refine ⟨t, hexec, hends.acct.trans (congrArg State.acct hu), hends.doors, fun hnot => ?_, fun hd => ?_⟩
    · rw [hends.stands (mt hdue.mpr hnot), hu]
    · rw [← htables]
      exact hends.falls (hdue.mp hd)

end Sys2Proof
end

section
/-!
Candidates and the path that one decides, and what a stop, a transfer and a start order leave (R56, R64, R65, R69 to R75, R83, R86 to
R88): one equation for each order, which the arbiter's statements then use.
-/
namespace Sys2Proof.Machine

/-! ## Candidates (R56, R64, R65) -/

theorem PathRecord.available_iff (r : PathRecord) : r.state = .available ↔ r.blocked = false ∧ r.fault = .none := by
  unfold PathRecord.state
  cases r.fault <;> cases r.blocked <;> simp

theorem Arbiter.eligible_iff (a : Arbiter) (e : Entry) (p : Path) : a.eligible e p = true
    ↔ e.pathSet.contains p = true ∧ (a.paths.get p).state = .available ∧ a.turnPath ≠ some p := by
  simp [Arbiter.eligible, Arbiter.usable, and_assoc]

theorem Arbiter.isCandidate_iff (a : Arbiter) (e : Entry) : a.isCandidate e = true ↔ ∃ p, a.eligible e p = true := by
  rw [Arbiter.isCandidate, Bool.or_eq_true]
  constructor
  · rintro (h | h)
    · exact ⟨_, h⟩
    · exact ⟨_, h⟩
  · rintro ⟨p, h⟩
    cases p
    · exact .inl h
    · exact .inr h

theorem Arbiter.isCandidate_of_oldest {a : Arbiter} {e : Entry} (h : a.oldestCandidate = some e) : a.isCandidate e = true :=
  List.find?_some h

/-- The path that a candidate decides is eligible for it (R65). -/
theorem Arbiter.choosePath_eligible {a : Arbiter} {e : Entry} (v : Valve) (h : a.isCandidate e = true) :
    a.eligible e (a.choosePath v e) = true := by
  rw [Arbiter.isCandidate, Bool.or_eq_true] at h
  unfold Arbiter.choosePath
  split
  case isTrue hu =>
    split
    case isTrue hl => cases v.heading <;> assumption
    case isFalse => exact hu
  case isFalse hu => exact h.resolve_left hu

/-- With both paths eligible the valve's position decides (R65). -/
theorem Arbiter.choosePath_both {a : Arbiter} {e : Entry} (v : Valve) (hu : a.eligible e .upper = true)
    (hl : a.eligible e .lower = true) : a.choosePath v e = v.heading := by
  rw [Arbiter.choosePath, if_pos hu, if_pos hl]

theorem Path.eq_other {p q : Path} (h : p ≠ q) : q = p.other := by
  cases p with
  | upper =>
    cases q with
    | upper => exact absurd rfl h
    | lower => rfl
  | lower =>
    cases q with
    | upper => rfl
    | lower => exact absurd rfl h

/-- With a turn current the one path left to decide for is the other (R64). -/
theorem Arbiter.choosePath_other {a : Arbiter} {e : Entry} {p : Path} (v : Valve) (ht : a.turnPath = some p)
    (h : a.isCandidate e = true) : a.choosePath v e = p.other := by
  obtain ⟨-, -, hne⟩ := (a.eligible_iff e _).mp (Arbiter.choosePath_eligible v h)
  exact Path.eq_other fun hp => hne (ht.trans (congrArg some hp))

theorem Arbiter.oldestCandidate_iff (a : Arbiter) (e : Entry) : a.oldestCandidate = some e ↔ ∃ before after,
    a.queue = before ++ e :: after
      ∧ (∃ p, e.pathSet.contains p = true ∧ (a.paths.get p).state = .available ∧ a.turnPath ≠ some p)
      ∧ ∀ x ∈ before, ∀ p, x.pathSet.contains p = true → (a.paths.get p).state = .available → a.turnPath = some p := by
  have hcand (x : Entry) : a.isCandidate x = true
      ↔ ∃ p, x.pathSet.contains p = true ∧ (a.paths.get p).state = .available ∧ a.turnPath ≠ some p := by
    simp only [Arbiter.isCandidate_iff, Arbiter.eligible_iff]
  have hnot (x : Entry) : (!a.isCandidate x) = true
      ↔ ∀ p, x.pathSet.contains p = true → (a.paths.get p).state = .available → a.turnPath = some p := by
    rw [Bool.not_eq_true', ← Bool.not_eq_true, hcand]
    push Not
    rfl
  rw [Arbiter.oldestCandidate, List.find?_eq_some_iff_append]
  simp only [hcand, hnot]
  constructor
  · rintro ⟨he, before, after, hq, hb⟩
    exact ⟨before, after, hq, he, hb⟩
  · rintro ⟨before, after, hq, he, hb⟩
    exact ⟨he, before, after, hq, hb⟩

/-! ## A stop order and a transfer order (R86, R88, R101, R110, R111) -/

/-- The actuator block after RUNNING is left: the after-run begins after an UPPER turn, an active fan delay ends with a LOWER one (R110,
R111). -/
def State.fansAfter (s : State) : Actuators :=
  { s.act with
    afterRun :=
      if (s.cyc.state = .running ∧ s.cyc.path = some .upper) ∧ s.doors.leftFresh.stopping = false
          ∧ s.doors.rightFresh.stopping = false ∧ s.act.forced = none then some 0
      else s.act.afterRun,
    fanDelay :=
      if (s.cyc.state = .running ∧ s.cyc.path = some .lower) ∧ s.act.fanDelay = .active then .disarmed else s.act.fanDelay }

theorem State.leaveRunning_fansAfter (s : State) : s.leaveRunning = { s with act := s.fansAfter } := by
  unfold State.leaveRunning State.fansAfter
  by_cases h : s.cyc.state = .running
  · simp only [h, if_true, true_and, State.freshStopping, State.serviceHold, Bool.or_eq_false_iff, Option.isSome_eq_false_iff,
      Option.isNone_iff_eq_none, and_assoc]
  · simp only [h, if_false, false_and]

/-- Outside RUNNING no turn is left. -/
theorem State.fansAfter_outside {s : State} (h : s.cyc.state ≠ .running) : s.fansAfter = s.act := by
  simp only [State.fansAfter, h, false_and, if_false]

/-- A cycle record of which the two times alone are left (R88). -/
def CycleRecord.rested (c : CycleRecord) : CycleRecord :=
  { CycleRecord.initial with lastStop := c.lastStop, stopCommandedSince := c.stopCommandedSince }

/-- The cycle record that a stop order leaves (R88). -/
def CycleRecord.stopping (c : CycleRecord) (now : Nat) : CycleRecord :=
  { CycleRecord.initial with
    state := .stopping, stopTimer := some 0, lastStop := c.lastStop,
    stopCommandedSince := if c.runFlag then now else c.stopCommandedSince }

theorem State.stopOrder_rest {s : State} (h : s.cyc.state = .off ∨ s.cyc.state = .stopping) : s.stopOrder = s := if_pos h

theorem State.stopOrder_stops {s : State} (ho : s.cyc.state ≠ .off) (hs : s.cyc.state ≠ .stopping) :
    s.stopOrder = { s with cyc := s.cyc.stopping s.now, act := s.fansAfter, flt := { s.flt with stall := 0 } } := by
  unfold State.stopOrder
  rw [if_neg (not_or.mpr ⟨ho, hs⟩), State.leaveRunning_fansAfter]
  rfl

/-- The states in which a turn, or a start toward one, is under way. -/
def CycleState.underWay (c : CycleState) : Prop := c = .starting ∨ c = .running ∨ c = .transfer

theorem CycleState.underWay.ne_off {c : CycleState} (h : c.underWay) : c ≠ .off := by
  rcases h with rfl | rfl | rfl <;> simp

theorem CycleState.underWay.ne_stopping {c : CycleState} (h : c.underWay) : c ≠ .stopping := by
  rcases h with rfl | rfl | rfl <;> simp

/-- What a stop of a turn under way leaves (R69, R88). -/
theorem State.handStop_stops {s : State} (h : s.cyc.state.underWay) : s.handStop = { s with
    arb := s.arb.noTurn, cyc := s.cyc.stopping s.now, act := s.fansAfter, flt := { s.flt with stall := 0 } } := by
  unfold State.handStop
  rw [State.stopOrder_stops (s := { s with arb := s.arb.noTurn }) h.ne_off h.ne_stopping]
  rfl

/-- The cycle record that a transfer order toward a path leaves (R86). -/
def State.transferring (s : State) (q : Path) : CycleRecord :=
  { s.cyc with
    state := .transfer, path := some q, transferTimer := some 0, turnTimer := none, startHold := none, target := none,
    speed := s.cap.bound 1800, sinceUpdate := 0, turnMaxReported := false, runMinutes := 0 }

/-- The arbiter of a turn on a path: selection has run for it, and its marks are clear (R65, R71). -/
def Arbiter.turned (a : Arbiter) (q : Path) (now : Nat) : Arbiter :=
  { a.select q now with turnPath := some q, holdover := false, yieldDue := false }

theorem State.handTransfer_eq (s : State) (q : Path) : s.handTransfer q = { s with
    arb := s.arb.turned q s.now, cyc := s.transferring q, act := { s.fansAfter with valve := s.act.valve.request q } } := by
  unfold State.handTransfer State.transferOrder
  rw [State.leaveRunning_fansAfter]
  rfl

/-! ## An emptied served set (R69) -/

theorem State.servedEmptied_candidate {s : State} {e : Entry} (h : s.arb.oldestCandidate = some e) :
    s.servedEmptied = s.handTransfer (s.arb.choosePath s.act.valve e) := by
  unfold State.servedEmptied
  rw [h]

theorem CycleRecord.minimumOnOver_iff {c : CycleRecord} {n : Nat} (h : c.onTimer = some n) :
    c.minimumOnOver = true ↔ ¬ (n < 120 ∨ (n = 120 ∧ c.minOnReported = false)) := by
  unfold CycleRecord.minimumOnOver
  rw [h]
  cases c.minOnReported <;> simp

theorem State.servedEmptied_none {s : State} {n : Nat} (h : s.arb.oldestCandidate = none) (hn : s.cyc.onTimer = some n) :
    s.servedEmptied
      = if n < 120 ∨ (n = 120 ∧ s.cyc.minOnReported = false) then { s with arb := { s.arb with holdover := true } }
        else s.handStop := by
  unfold State.servedEmptied
  rw [h]
  dsimp only
  by_cases hm : n < 120 ∨ (n = 120 ∧ s.cyc.minOnReported = false)
  · rw [if_pos hm, if_neg fun k => (CycleRecord.minimumOnOver_iff hn).mp k hm]
  · rw [if_neg hm, if_pos ((CycleRecord.minimumOnOver_iff hn).mpr hm)]

/-- The report of RUNNING with an entry still served changes nothing (R68). -/
theorem State.reportRunning_serving {s : State} (h : s.arb.served ≠ []) : s.reportRunning = s := if_neg fun k => h k.2

/-! ## Holdover and yield (R70, R73) -/

theorem State.candidateCheck_candidate {s : State} {e : Entry} (hs : s.cyc.state = .running) (ht : s.arb.turnPath ≠ none)
    (he : s.arb.oldestCandidate = some e) :
    s.candidateCheck = if s.arb.holdover then s.handTransfer (s.arb.choosePath s.act.valve e)
      else if s.arb.yieldDue then State.handTransfer { s with arb := s.arb.servedToBack s.now } (s.arb.choosePath s.act.valve e)
      else s := by
  unfold State.candidateCheck
  rw [if_pos ⟨hs, Option.isSome_iff_ne_none.mpr ht⟩, he]

theorem State.candidateCheck_none {s : State}
    (h : s.cyc.state ≠ .running ∨ s.arb.turnPath = none ∨ s.arb.oldestCandidate = none) : s.candidateCheck = s := by
  unfold State.candidateCheck
  split
  case isFalse => rfl
  case isTrue hc =>
    obtain ⟨hs, ht⟩ := hc
    rcases h with h | h | h
    · exact absurd hs h
    · exact absurd h (Option.isSome_iff_ne_none.mp ht)
    · rw [h]

/-! ## A turn given up (R72, R74, R75) -/

/-- The state in which the served entries have gone to the front of the queue (R72, R74). -/
def State.fronted (s : State) : State := { s with arb := s.arb.servedToFront s.now }

theorem State.giveUp_transfers {s : State} {p : Path} {e : Entry} (ht : s.arb.turnPath = some p)
    (hs : s.cyc.state = .running ∨ s.cyc.state = .transfer) (he : s.fronted.arb.oldestCandidate = some e) :
    s.giveUp = s.fronted.handTransfer p.other := by
  have he' : (s.arb.servedToFront s.now).oldestCandidate = some e := he
  unfold State.giveUp
  dsimp only
  rw [if_pos hs, he']
  exact congrArg s.fronted.handTransfer (Arbiter.choosePath_other _ ht (Arbiter.isCandidate_of_oldest he))

theorem State.giveUp_stops {s : State}
    (h : (s.cyc.state = .running ∨ s.cyc.state = .transfer → s.fronted.arb.oldestCandidate = none)) :
    s.giveUp = s.fronted.handStop := by
  unfold State.giveUp
  dsimp only
  split
  case isTrue hs =>
    have hn : (s.arb.servedToFront s.now).oldestCandidate = none := h hs
    rw [hn]
    rfl
  case isFalse => rfl

theorem State.release_other {s : State} {p : Path} (h : s.arb.turnPath ≠ some p) : s.release p = s := if_neg h

theorem State.release_current {s : State} {p : Path} (h : s.arb.turnPath = some p) : s.release p = s.giveUp := if_pos h

/-- The state in which a fault of a path has been recorded (R57). -/
def State.pathFaulted (s : State) (p : Path) : State :=
  { s with arb := { s.arb with paths := s.arb.paths.set p (s.arb.paths.get p).faulted } }

theorem State.pathFault_other {s : State} {p : Path} (h : s.arb.turnPath ≠ some p) : s.pathFault p = s.pathFaulted p := if_neg h

theorem State.pathFault_current {s : State} {p : Path} (h : s.arb.turnPath = some p) : s.pathFault p = (s.pathFaulted p).giveUp :=
  if_pos h

/-- What giving up the current turn path does in each cycle state, by the state that has its served entries in front. -/
theorem State.giveUp_cases {s : State} {p : Path} (ht : s.arb.turnPath = some p) :
    (∀ e, s.cyc.state = .running ∨ s.cyc.state = .transfer → s.fronted.arb.oldestCandidate = some e →
        s.giveUp = s.fronted.handTransfer p.other ∧ s.giveUp.cyc.state = .transfer ∧ s.giveUp.cyc.path = some p.other
          ∧ s.giveUp.cyc.runFlag = s.cyc.runFlag ∧ s.giveUp.cyc.transferTimer = some 0
          ∧ s.giveUp.arb = s.fronted.arb.turned p.other s.now)
      ∧ (s.cyc.state = .running ∨ s.cyc.state = .transfer → s.fronted.arb.oldestCandidate = none →
          s.giveUp = s.fronted.handStop ∧ s.giveUp.cyc.state = .stopping ∧ s.giveUp.arb = s.fronted.arb.noTurn)
      ∧ (s.cyc.state = .starting →
          s.giveUp = s.fronted.handStop ∧ s.giveUp.cyc.state = .stopping ∧ s.giveUp.arb = s.fronted.arb.noTurn) := by
  have hstop : s.cyc.state.underWay → s.giveUp = s.fronted.handStop →
      s.giveUp = s.fronted.handStop ∧ s.giveUp.cyc.state = .stopping ∧ s.giveUp.arb = s.fronted.arb.noTurn := by
    intro hu heq
    rw [heq, State.handStop_stops (s := s.fronted) hu]
    exact ⟨rfl, rfl, rfl⟩
  refine ⟨fun e hs he => ?_, fun hs hn => hstop (.inr hs) (State.giveUp_stops fun _ => hn),
    fun hs => hstop (.inl hs) (State.giveUp_stops fun k => ?_)⟩
  · rw [State.giveUp_transfers ht hs he, State.handTransfer_eq]
    exact ⟨rfl, rfl, rfl, rfl, rfl, rfl⟩
  · rw [hs] at k
    simp at k

/-! ## A path record after a fault (R57) -/

theorem PathRecord.faulted_again {r : PathRecord} (h : r.fault ≠ .locked) (hc : r.count ≤ 1) :
    r.faulted = { r with fault := .faulted, count := r.count + 1, timer := some 900 } := by
  unfold PathRecord.faulted
  rw [if_neg h, if_neg (by omega)]

theorem PathRecord.faulted_locks {r : PathRecord} (h : r.fault ≠ .locked) (hc : 2 ≤ r.count) :
    r.faulted = { r with fault := .locked, count := 3, timer := none } := by
  unfold PathRecord.faulted
  rw [if_neg h, if_pos hc]

theorem PathRecord.faulted_locked {r : PathRecord} (h : r.fault = .locked) : r.faulted = { r with count := 3 } := if_pos h

end Sys2Proof.Machine

namespace Sys2Proof

open Sys2Proof.Machine

/-- Settles O19: a candidate is an entry with an eligible path, so with a turn current it decides for the other path; a release and a
fault of the current path give the turn up from the state that each has prepared. -/
theorem candidatesAreSelectedAndTurnsGivenUp : Obligations.CandidatesAreSelectedAndTurnsGivenUp := by
  refine ⟨fun a v => ⟨a.oldestCandidate_iff, fun e he => ?_, fun _ _ => rfl, fun p => PathRecord.available_iff _⟩,
    fun s given p paths hgiven => ?_,
    fun r => ⟨PathRecord.faulted_again, PathRecord.faulted_locks, PathRecord.faulted_locked⟩⟩
  · obtain ⟨hset, hfree, hturn⟩ := (a.eligible_iff e _).mp (Arbiter.choosePath_eligible v he)
    exact ⟨hset, hfree, hturn, Arbiter.choosePath_both v⟩
  · intro front moved
    rcases hgiven with ⟨rfl, rfl⟩ | ⟨rfl, rfl⟩
    · refine ⟨fun ht => ?_, fun ht => State.release_other ht⟩
      rw [State.release_current ht]
      exact State.giveUp_cases ht
    · refine ⟨fun ht => ?_, fun ht => State.pathFault_other ht⟩
      rw [State.pathFault_current ht]
      exact State.giveUp_cases (s := s.pathFaulted p) ht

/-- Settles O20: the decision of R69, the two checks of a candidate, and the equations of a transfer and a stop. -/
theorem emptiedTurnsTransferHoldOverOrStop : Obligations.EmptiedTurnsTransferHoldOverOrStop := by
  intro s onUpper onLower fansAfter
  refine ⟨fun e => State.servedEmptied_candidate, fun n => State.servedEmptied_none, ?_, fun e => State.candidateCheck_candidate,
    State.candidateCheck_none, s.handTransfer_eq, rfl, State.stopOrder_rest, State.stopOrder_stops, fun a => ⟨rfl, rfl⟩⟩
  simp only [State.reportRunning, Option.isSome_iff_ne_none]

end Sys2Proof
end

section
/-!
The events of a turn that time makes: the turn maximum, the minimum on time, the ends of TRANSFER and STOPPING, the valve's arrival and a
start that fails (R70 to R73, R76, R84 to R88, R101 to R103, R116). What a loss of the compressor leaves is told in one equation
(`compressorLost_eq`), for every drive fault and drive loss.
-/
namespace Sys2Proof.Machine

/-! ## When the events are due -/

theorem State.turnMaximum_due {s : State} {p : Path} {n : Nat} (hs : s.cyc.state = .running) (hp : s.cyc.path = some p)
    (ht : s.cyc.turnTimer = some n) (hn : (if p = .upper then 1800 else 2700) ≤ n) (hr : s.cyc.turnMaxReported = false) :
    s.due .turnMaximum = true := by
  have hmax : turnMaximum p = if p = .upper then 1800 else 2700 := by cases p <;> rfl
  show s.turnMaximumDue = true
  unfold State.turnMaximumDue
  rw [hp, hs, hr]
  exact reached_of_le ht (hmax ▸ hn)

theorem State.onTimerMinimum_due {s : State} {n : Nat} (hs : s.cyc.state = .running) (ht : s.cyc.onTimer = some n) (hn : 120 ≤ n)
    (hr : s.cyc.minOnReported = false) : s.due .onTimerMinimum = true := by
  show s.onTimerDue = true
  rw [State.onTimerDue, reached_of_le ht hn, hs, hr]
  rfl

theorem State.transferDone_iff (s : State) : s.transferDone = true
    ↔ s.cyc.state = .transfer ∧ 20 ≤ s.cyc.transferTimer.getD 0 ∧ ∃ q, s.cyc.path = some q ∧ s.act.valve = .standing q := by
  unfold State.transferDone
  split
  case h_1 q hs hp => simp [hs, hp, Valve.standsAt]
  case h_2 h =>
    refine iff_of_false Bool.false_ne_true fun ⟨hs, _, q, hp, _⟩ => h q hs hp

theorem State.stopTimer_due {s : State} {n : Nat} (hs : s.cyc.state = .stopping) (ht : s.cyc.stopTimer = some n) (hn : 10 ≤ n) :
    s.due .stopTimerExpiry = true := by
  show (decide (s.cyc.state = .stopping) && reached 10 s.cyc.stopTimer) = true
  rw [reached_of_le ht hn, hs]
  rfl

theorem State.startWindow_due {s : State} {n : Nat} (hs : s.cyc.state = .starting) (ht : s.cyc.startWindow = some n) (hn : 30 ≤ n) :
    s.due .startWindowExpiry = true := by
  show (decide (s.cyc.state = .starting) && reached 30 s.cyc.startWindow) = true
  rw [reached_of_le ht hn, hs]
  rfl

/-! ## The turn maximum (R73, R85) -/

/-- The turn maximum has been reported: yield due is set (R73). -/
def State.turnReported (s : State) : State :=
  { s with cyc := { s.cyc with turnMaxReported := true }, arb := { s.arb with yieldDue := true } }

theorem State.turnReport_eq {s : State} {p : Path} (h : s.arb.turnPath = some p) :
    s.turnReport = s.turnReported.candidateCheck := by
  unfold State.turnReport State.turnReported
  rw [h]
  rfl

/-- What the yield of a turn on a path leaves (R73): the served entries have gone to the back before the selection for the other path. -/
theorem State.turnReported_yields {s : State} {p : Path} {e : Entry} (hs : s.cyc.state = .running) (ht : s.arb.turnPath = some p)
    (hh : s.arb.holdover = false) (he : s.arb.oldestCandidate = some e) :
    s.turnReported.candidateCheck = State.handTransfer { s.turnReported with arb := s.turnReported.arb.servedToBack s.now } p.other := by
  have he' : s.turnReported.arb.oldestCandidate = some e := he
  have hq : s.turnReported.arb.choosePath s.turnReported.act.valve e = p.other :=
    Arbiter.choosePath_other (a := s.turnReported.arb) _ ht (Arbiter.isCandidate_of_oldest he')
  have hturn : s.turnReported.arb.turnPath ≠ none := by
    intro hn
    exact absurd (ht.symm.trans hn) (by simp)
  have hhold : s.turnReported.arb.holdover = false := hh
  rw [State.candidateCheck_candidate (s := s.turnReported) hs hturn he', hq, hhold]
  rfl

/-! ## The minimum on time (R70, R85) -/

/-- The minimum on time has been reported (R85). -/
def State.minimumReported (s : State) : State := { s with cyc := { s.cyc with minOnReported := true } }

theorem State.onTimeReport_plain {s : State} (h : s.arb.holdover = false) : s.onTimeReport = s.minimumReported := by
  unfold State.onTimeReport
  rw [h]
  rfl

theorem State.onTimeReport_holdover {s : State} (h : s.arb.holdover = true) : s.onTimeReport = s.minimumReported.handStop := by
  unfold State.onTimeReport
  rw [h]
  rfl

/-! ## The ends of TRANSFER and STOPPING (R86, R88) -/

/-- The cycle record as a transfer ends (R86). -/
def CycleRecord.transferred (c : CycleRecord) : CycleRecord :=
  { c with
    state := .running, transferTimer := none, turnTimer := some 0, startHold := none, target := none, sinceUpdate := 0,
    turnMaxReported := false, runMinutes := 0 }

theorem State.enterRunningFromTransfer_eq {s : State} {q : Path} (h : s.cyc.path = some q) :
    s.enterRunningFromTransfer = { s with cyc := s.cyc.transferred, act := s.act.onRunning (some q) } := by
  unfold State.enterRunningFromTransfer
  rw [h]
  rfl

/-- A start is barred while the last stop is now (R89). -/
theorem State.mayStart_justStopped {s : State} (h : s.cyc.lastStop = s.now) : s.mayStart = false := by
  have hb : s.startBarred = true := by simp [State.startBarred, h]
  simp [State.mayStart, hb]

theorem State.startCheck_barred {s : State} (h : s.mayStart = false) : s.startCheck = s := by
  unfold State.startCheck
  rw [h]
  rfl

theorem State.startCheck_notOff {s : State} (h : s.cyc.state ≠ .off) : s.startCheck = s :=
  State.startCheck_barred (by simp [State.mayStart, h])

theorem State.startCheck_justStopped {s : State} (h : s.cyc.lastStop = s.now) : s.startCheck = s :=
  State.startCheck_barred (State.mayStart_justStopped h)

/-- An entry to OFF in one equation (R88, R101, R112). -/
theorem State.enterOff_eq (s : State) : s.enterOff = { s with
    cyc := s.cyc.rested, act := { s.fansAfter with runOn := some 60 }, flt := { s.flt with stall := 0 } } := by
  unfold State.enterOff
  rw [State.leaveRunning_fansAfter]
  rfl

/-- The cycle record after a stop that is over now (R88). -/
def CycleRecord.off (c : CycleRecord) (lastStop : Nat) : CycleRecord := { c.rested with lastStop := lastStop }

theorem State.stopped_enters {s : State} (h : s.cyc.state = .stopping) : s.stopped = State.reportOff { s with
    cyc := s.cyc.off s.now, act := { s.act with runOn := some 60 }, flt := { s.flt with stall := 0 } } := by
  have hact : s.markStopped.fansAfter = s.act := State.fansAfter_outside (s := s.markStopped) (by simp [State.markStopped, h])
  unfold State.stopped
  rw [State.enterOff_eq, hact]
  rfl

/-- The end of STOPPING: the report of OFF finds a start barred (R67, R88, R89). -/
theorem State.stopped_eq {s : State} (h : s.cyc.state = .stopping) : s.stopped = { s with
    arb := s.arb.noTurn, cyc := s.cyc.off s.now, act := { s.act with runOn := some 60 }, flt := { s.flt with stall := 0 } } := by
  rw [State.stopped_enters h]
  exact State.startCheck_justStopped rfl

/-! ## The valve's arrival (R84, R86, R116, R132) -/

/-- The state in which the valve has arrived. -/
def State.valveAt (s : State) (p : Path) : State := { s with act := { s.act with valve := .standing p } }

theorem Valve.arrived_of_le (p : Path) {d n : Nat} (h : d ≤ n) : (Valve.moving p d n).arrived = some p := if_pos h

theorem exec_valveMoveComplete {s : State} {p : Path} {d n : Nat} (hv : s.act.valve = .moving p d n) (h : d ≤ n) :
    exec .valveMoveComplete s = s.finish ((s.valveAt p).valveReport p).beginTest := by
  have ha : s.act.valve.arrived = some p := by rw [hv, Valve.arrived_of_le p h]
  have hdue : s.due .valveMoveComplete = true := by
    show (Valve.arrived s.act.valve).isSome = true
    rw [ha]
    rfl
  refine (State.event_due hdue State.valveArrives).trans (congrArg s.finish ?_)
  unfold State.valveArrives
  rw [ha]
  rfl

theorem State.valveReport_starts {s : State} {p : Path} (hs : s.cyc.state = .starting) (hph : s.cyc.phase = some .valve)
    (hp : s.cyc.path = some p) : s.valveReport p = s.enterRunPhase s.startSpeed := if_pos ⟨hs, hph, hp⟩

theorem State.valveReport_transfers {s : State} (p : Path) (h : s.transferDone = true) : s.valveReport p = s.completeTransfer := by
  have hs := ((s.transferDone_iff).mp h).1
  unfold State.valveReport
  rw [if_neg (by simp [hs]), if_pos h]

theorem State.valveReport_plain {s : State} {p : Path}
    (hs : ¬ (s.cyc.state = .starting ∧ s.cyc.phase = some .valve ∧ s.cyc.path = some p)) (ht : s.transferDone = false) :
    s.valveReport p = s := by
  unfold State.valveReport
  rw [if_neg hs, ht]
  rfl

theorem State.beginTest_idle {s : State} (h : s.mgr.state ≠ .due) : s.beginTest = s := by
  unfold State.beginTest
  split
  case h_1 hs _ _ => exact absurd hs h
  case h_2 => rfl

/-! ## The compressor taken as stopped (R76, R99, R102) -/

/-- The arbiter after a loss: a turn under way is over, with its served entries first in the queue (R76). -/
def State.lostTurn (s : State) : Arbiter :=
  match s.cyc.state with
  | .off => s.arb
  | .stopping => s.arb.noTurn
  | _ => (s.arb.servedToFront s.now).noTurn

/-- The cycle record after a loss: OFF, with last stop now, and after a turn under way stop commanded since too (R99, R102). -/
def State.lostCycle (s : State) : CycleRecord :=
  match s.cyc.state with
  | .off => { s.cyc with lastStop := s.now }
  | .stopping => s.cyc.off s.now
  | _ => { s.cyc.off s.now with stopCommandedSince := s.now }

/-- The actuator block after a loss: the condenser fan's run-on, where the cycle was not OFF (R112). -/
def State.lostFans (s : State) : Actuators := if s.cyc.state = .off then s.act else { s.fansAfter with runOn := some 60 }

/-- The drive fault record after a loss (R101). -/
def State.lostFaults (s : State) : DriveFaultRecord := if s.cyc.state = .off then s.flt else { s.flt with stall := 0 }

theorem State.compressorLost_eq (s : State) : s.compressorLost
    = { s with arb := s.lostTurn, cyc := s.lostCycle, act := s.lostFans, flt := s.lostFaults } := by
  have hfans : s.markStopped.fansAfter = s.fansAfter := rfl
  unfold State.compressorLost State.lostTurn State.lostCycle State.lostFans State.lostFaults
  cases h : s.cyc.state
  case off =>
    rw [if_pos rfl, if_pos rfl]
    rfl
  case stopping =>
    dsimp only
    rw [State.enterOff_eq, hfans, State.fansAfter_outside (by rw [h]; simp)]
    exact State.startCheck_justStopped rfl
  all_goals
    dsimp only
    rw [State.enterOff_eq, hfans]
    rfl

/-- A loss of a turn under way, record by record. -/
theorem State.lost_underWay {s : State} (h : s.cyc.state.underWay) :
    s.lostTurn = (s.arb.servedToFront s.now).noTurn
      ∧ s.lostCycle = { CycleRecord.initial with lastStop := s.now, stopCommandedSince := s.now }
      ∧ s.lostFans = { s.fansAfter with runOn := some 60 } ∧ s.lostFaults = { s.flt with stall := 0 } := by
  unfold State.lostTurn State.lostCycle
  refine ⟨?_, ?_, if_neg h.ne_off, if_neg h.ne_off⟩
  · rcases h with h | h | h <;> rw [h]
  · rcases h with h | h | h <;> rw [h] <;> rfl

theorem State.lost_stopping {s : State} (h : s.cyc.state = .stopping) :
    s.lostTurn = s.arb.noTurn ∧ s.lostCycle = s.cyc.off s.now ∧ s.lostFans = { s.act with runOn := some 60 } := by
  have hf : s.fansAfter = s.act := State.fansAfter_outside (by rw [h]; simp)
  unfold State.lostTurn State.lostCycle State.lostFans
  rw [h, hf]
  exact ⟨rfl, rfl, rfl⟩

theorem State.lost_off {s : State} (h : s.cyc.state = .off) :
    s.lostTurn = s.arb ∧ s.lostCycle = { s.cyc with lastStop := s.now } ∧ s.lostFans = s.act := by
  unfold State.lostTurn State.lostCycle State.lostFans
  rw [h]
  exact ⟨rfl, rfl, rfl⟩

/-- Whatever the cycle state was, a loss ends in OFF with last stop now. -/
theorem State.lostCycle_off (s : State) : s.lostCycle.state = .off ∧ s.lostCycle.lastStop = s.now := by
  unfold State.lostCycle
  cases h : s.cyc.state
  case off => exact ⟨h, rfl⟩
  all_goals exact ⟨rfl, rfl⟩

theorem State.lostFans_valve (s : State) : s.lostFans.valve = s.act.valve := by
  unfold State.lostFans
  split <;> rfl

/-! ## Drive faults (R101 to R103) -/

/-- Neither the stall count nor the runaway mark is of what the fault list and the lockout depend on (R103). -/
theorem DriveFaultRecord.enter_stall (r : DriveFaultRecord) (t n : Nat) :
    DriveFaultRecord.enter { r with stall := n } t = { r.enter t with stall := n } := by
  unfold DriveFaultRecord.enter
  repeat' split
  all_goals rfl

theorem DriveFaultRecord.enter_runaway (r : DriveFaultRecord) (t : Nat) (b : Bool) :
    DriveFaultRecord.enter { r with runaway := b } t = { r.enter t with runaway := b } := by
  unfold DriveFaultRecord.enter
  repeat' split
  all_goals rfl

/-- The event sets after a drive fault: DRIVE_FAULT, and DRIVE_LOCKOUT where the fault has set the lockout (R102, R103). -/
def State.faultEvents (s : State) : PerPort EventRecord :=
  if s.flt.lockout = none ∧ (s.flt.enter s.now).lockout.isSome = true then
    (s.events.map (·.add .driveFault)).map (·.add .driveLockout)
  else s.events.map (·.add .driveFault)

theorem State.faultEvents_told (s : State) (p : Port) : holdsKind (s.faultEvents.get p).set .driveFault = true := by
  unfold State.faultEvents
  split <;> simp [EventRecord.add]

/-- The drive fault record after a fault (R102, R103). -/
def State.faultRecord (s : State) (cause : DriveFaultCause) (code : Nat) : DriveFaultRecord :=
  { s.flt.enter s.now with
    waitEnd := some (s.now + 300), last := some (cause, code), stall := if s.cyc.state = .off then s.flt.stall else 0 }

theorem State.lostFaults_eq (s : State) :
    s.lostFaults = { s.flt with stall := if s.cyc.state = .off then s.flt.stall else 0 } := by
  unfold State.lostFaults
  split <;> rfl

theorem State.driveFault_eq (s : State) (cause : DriveFaultCause) (code : Nat) : s.driveFault cause code = { s with
    arb := s.lostTurn, cyc := s.lostCycle, act := s.lostFans, flt := s.faultRecord cause code, events := s.faultEvents } := by
  unfold State.driveFault
  extract_lets t r u
  have ht : t = { s with
      arb := s.lostTurn, cyc := s.lostCycle, act := s.lostFans, flt := s.lostFaults,
      events := s.events.map (·.add .driveFault) } := congrArg (·.raise .driveFault) s.compressorLost_eq
  have hr : r = { s.flt.enter s.now with stall := if s.cyc.state = .off then s.flt.stall else 0 } := by
    show t.flt.enter s.now = _
    rw [ht]
    exact (congrArg (·.enter s.now) s.lostFaults_eq).trans (DriveFaultRecord.enter_stall _ _ _)
  have hu : u = { s with
      arb := s.lostTurn, cyc := s.lostCycle, act := s.lostFans, flt := s.faultRecord cause code,
      events := s.events.map (·.add .driveFault) } := by
    show { t with flt := { r with waitEnd := some (s.now + 300), last := some (cause, code) } } = _
    rw [ht, hr]
    rfl
  have hlock : r.lockout = (s.flt.enter s.now).lockout := by rw [hr]
  rw [hu, hlock]
  unfold State.faultEvents
  split <;> rfl

/-- With no defrost due a drive fault is the fault alone, in OFF too (R102). -/
theorem State.faultEvent_idle {s : State} (h : s.mgr.state ≠ .due) (cause : DriveFaultCause) (code : Nat) :
    s.faultEvent cause code = s.driveFault cause code := by
  have hm : (s.driveFault cause code).mgr.state ≠ .due := by rw [State.driveFault_eq]; exact h
  unfold State.faultEvent
  dsimp only
  rw [State.managerReact_idle hm, ite_self]

theorem State.faultEvent_notOff {s : State} (h : s.cyc.state ≠ .off) (cause : DriveFaultCause) (code : Nat) :
    s.faultEvent cause code = s.driveFault cause code := if_neg h

end Sys2Proof.Machine

namespace Sys2Proof

open Sys2Proof.Machine

/-- Settles O22: the report sets yield due, which a candidate meets at once by the transfer toward the other path. -/
theorem turnMaximumYields : Obligations.TurnMaximumYields := by
  intro s p n hs hp ht htimer hn hr
  have hexec : exec .turnMaximum s = s.finish s.turnReported.candidateCheck :=
    (State.event_due (State.turnMaximum_due hs hp htimer hn hr) State.turnReport).trans (by rw [State.turnReport_eq ht])
  refine ⟨hexec, fun hh hnone => ?_, fun e hh hm he => ?_⟩
  · rw [hexec, State.candidateCheck_none (s := s.turnReported) (.inr (.inr hnone))]
    exact State.finish_same rfl rfl
  · intro all
    rw [hexec, State.turnReported_yields hs ht hh he, State.handTransfer_eq]
    exact ⟨_, State.finish_idle hm, rfl, rfl, rfl, rfl, rfl, rfl, rfl, rfl, rfl, rfl, rfl, rfl⟩

/-- Settles O23: each timer's end is its event's one operation, and each operation one equation. -/
theorem minimumTransferAndStopTimersEnd : Obligations.MinimumTransferAndStopTimersEnd := by
  refine ⟨fun s n hs ht hn hr => ?_, ⟨fun s q n hs hp ht hn hv => ?_, fun s n hs ht hn hm => ?_⟩⟩
  · have hdue := State.onTimerMinimum_due hs ht hn hr
    have hholds : s.arb.holdover = true → exec .onTimerMinimum s = s.finish s.minimumReported.handStop := fun hh =>
      (State.event_due hdue State.onTimeReport).trans (by rw [State.onTimeReport_holdover hh])
    refine ⟨fun hh => ?_, hholds, fun hh hm => ?_⟩
    · have heq := State.onTimeReport_plain hh
      exact (State.event_same hdue State.onTimeReport (by rw [heq]; rfl) (by rw [heq]; rfl)).trans (by rw [heq]; rfl)
    · rw [hholds hh, State.handStop_stops (s := s.minimumReported) (.inr (.inl hs))]
      exact ⟨_, State.finish_idle hm, rfl, rfl, rfl⟩
  · intro run
    have hdone : s.transferDone = true := (s.transferDone_iff).mpr ⟨hs, by rw [ht]; exact hn, q, hp, hv⟩
    have hexec : exec .transferTimerExpiry s = s.finish (State.reportRunning { s with cyc := run, act := s.act.onRunning (some q) }) :=
      (State.event_due (s := s) (i := .transferTimerExpiry) hdone State.completeTransfer).trans
        (by rw [State.completeTransfer, State.enterRunningFromTransfer_eq hp]; rfl)
    refine ⟨hexec, fun hserved hm => ?_⟩
    rw [hexec, State.reportRunning_serving]
    · exact ⟨_, State.finish_idle hm, rfl, rfl⟩
    · exact hserved
  · have hexec := State.event_due (State.stopTimer_due hs ht hn) State.stopped
    rw [State.stopped_eq hs] at hexec
    exact ⟨_, hexec.trans (State.finish_idle hm), rfl, rfl, rfl, rfl⟩

/-- Settles O24: the valve by the definition of a request; its arrival by the phase or transfer that waits for it; a start whose window
is over by the equation of a drive fault. -/
theorem valveArrivesOrTheStartFails : Obligations.ValveArrivesOrTheStartFails := by
  refine ⟨fun p => ⟨if_pos rfl, ?_, fun d n => ⟨if_pos rfl, ?_⟩, fun d n h => ⟨?_, ?_⟩, fun d n => Valve.arrived_of_le p⟩,
    fun s p d n hv hle => ?_, fun s n hs ht hn => ?_⟩
  · cases p <;> rfl
  · cases p <;> rfl
  · simp [Valve.tick, h]
  · simp [Valve.arrived, h]
  · intro arrived
    refine ⟨fun hs hph hp => ?_, fun m hs hp ht hm => ?_, fun m hs hp ht hm => ?_, fun h => ?_,
      fun hm u hu => State.beginTest_idle (by rw [hu]; exact hm)⟩
    · rw [exec_valveMoveComplete hv hle, State.valveReport_starts (s := s.valveAt p) hs hph hp]
      rfl
    · intro run
      have hdone : (s.valveAt p).transferDone = true := ((s.valveAt p).transferDone_iff).mpr ⟨hs, by
        show 20 ≤ s.cyc.transferTimer.getD 0
        rw [ht]
        exact hm, p, hp, rfl⟩
      have hexec : exec .valveMoveComplete s = s.finish (State.beginTest (State.reportRunning { arrived with
          cyc := run, act := arrived.act.onRunning (some p) })) := by
        rw [exec_valveMoveComplete hv hle, State.valveReport_transfers p hdone, State.completeTransfer,
          State.enterRunningFromTransfer_eq (s := s.valveAt p) hp]
        rfl
      refine ⟨hexec, fun hserved hidle => ?_⟩
      have hvalve : (arrived.act.onRunning (some p)).valve = .standing p := by cases p <;> rfl
      rw [hexec, State.reportRunning_serving, State.beginTest_idle]
      · exact ⟨_, State.finish_idle hidle, rfl, hvalve, rfl⟩
      · exact hidle
      · exact hserved
    · have hnot : (s.valveAt p).transferDone = false := by
        rw [← Bool.not_eq_true, State.transferDone_iff]
        rintro ⟨-, h20, -⟩
        have hle : 20 ≤ s.cyc.transferTimer.getD 0 := h20
        rw [ht] at hle
        exact absurd hle (Nat.not_le.mpr hm)
      have hstart : ¬ ((s.valveAt p).cyc.state = .starting ∧ (s.valveAt p).cyc.phase = some .valve ∧ (s.valveAt p).cyc.path = some p) :=
        fun k => absurd (hs.symm.trans k.1) (by simp)
      have hexec : exec .valveMoveComplete s = s.finish arrived.beginTest := by
        rw [exec_valveMoveComplete hv hle, State.valveReport_plain hstart hnot]
        rfl
      refine ⟨hexec, fun hidle => ?_⟩
      rw [hexec, State.beginTest_idle (s := arrived) hidle]
      exact State.finish_same rfl rfl
    · have hnot : (s.valveAt p).transferDone = false := by
        rw [← Bool.not_eq_true, State.transferDone_iff]
        rintro ⟨hs, -, q, hq, hvq⟩
        have hpq : p = q := by injection hvq
        rcases h with h | h | h
        · exact h (hpq ▸ hq)
        · exact h.2 hs
        · exact absurd (h.1.symm.trans hs) (by simp)
      have hstart : ¬ ((s.valveAt p).cyc.state = .starting ∧ (s.valveAt p).cyc.phase = some .valve ∧ (s.valveAt p).cyc.path = some p) := by
        rintro ⟨hs, hph, hp⟩
        rcases h with h | h | h
        · exact h hp
        · exact h.1 hs
        · exact h.2 hph
      rw [exec_valveMoveComplete hv hle, State.valveReport_plain hstart hnot]
      rfl
  · intro failed
    obtain ⟨hturn, hcycle, hfans, -⟩ := State.lost_underWay (s := s) (.inl hs)
    have hflt : s.faultRecord .startFailure 0 = { s.flt.enter s.now with
        waitEnd := some (s.now + 300), last := some (.startFailure, 0), stall := 0 } := by
      simp [State.faultRecord, hs]
    have hfault : s.faultEvent .startFailure 0 = { s with
        arb := (s.arb.servedToFront s.now).noTurn,
        cyc := { CycleRecord.initial with lastStop := s.now, stopCommandedSince := s.now },
        act := { s.fansAfter with runOn := some 60 },
        flt := { s.flt.enter s.now with waitEnd := some (s.now + 300), last := some (.startFailure, 0), stall := 0 },
        events := s.faultEvents } := by
      rw [State.faultEvent_notOff (by rw [hs]; simp), State.driveFault_eq, hturn, hcycle, hfans, hflt]
    have hexec := State.event_due (State.startWindow_due hs ht hn) fun t => t.faultEvent .startFailure 0
    rw [hfault] at hexec
    refine ⟨⟨_, hexec, ?_⟩, fun hm => ⟨_, hexec.trans (State.finish_idle hm), ?_⟩⟩
    · exact ⟨rfl, rfl, rfl, rfl, rfl, rfl, rfl, s.faultEvents_told, rfl, rfl⟩
    · exact ⟨rfl, rfl, rfl, rfl, rfl, rfl, rfl, s.faultEvents_told, rfl, rfl⟩

end Sys2Proof
end

section
/-!
The start check and the drive link (R66, R67, R83, R84, R88, R97 to R103): when a start may be made and what it leaves, the link record's
table, and what a valid reply and a miss do, case by case.
-/
namespace Sys2Proof.Machine

/-! ## The start (R66, R83, R84) -/

/-- The conditions of R66 but for the candidate. -/
def State.MayStart (s : State) : Prop :=
  s.cyc.state = .off ∧ s.cyc.lastStop + 180 ≤ s.now ∧ s.link.state = .up ∧ s.flt.waitEnd.getD 0 ≤ s.now
    ∧ s.flt.lockout = none ∧ s.act.forced = none ∧ s.arb.compressorHold = false

theorem State.mayStart_iff (s : State) : s.mayStart = true ↔ s.MayStart := by
  simp only [State.mayStart, State.startBarred, State.serviceHold, State.MayStart, Bool.and_eq_true, Bool.not_eq_true',
    Bool.or_eq_false_iff, decide_eq_true_iff, decide_eq_false_iff_not, Nat.not_lt, not_not, Option.isSome_eq_false_iff,
    Option.isNone_iff_eq_none, and_assoc, ne_eq]

/-- The state that a start on a path leaves (R83, R84). -/
def State.started (s : State) (p : Path) : State :=
  { s with
    arb := { s.arb.noTurn.select p s.now with turnPath := some p },
    cyc := { CycleRecord.initial with
      state := .starting, path := some p, lastStop := s.cyc.lastStop, stopCommandedSince := s.cyc.stopCommandedSince,
      phase := some (if s.act.valve = .standing p then .run else .valve), runFlag := decide (s.act.valve = .standing p),
      speed := if s.act.valve = .standing p then s.cap.bound 2000 else 0 },
    act := { s.act with valve := s.act.valve.request p, runOn := none },
    flt := { s.flt with runaway := s.flt.runaway && !decide (s.act.valve = .standing p) } }

theorem State.startOrder_eq (s : State) (p : Path) :
    State.startOrder { s with arb := Arbiter.select { s.arb.noTurn with turnPath := some p } p s.now } p = s.started p := by
  unfold State.startOrder State.started Valve.standsAt
  by_cases h : s.act.valve = .standing p
  · have hreq : s.act.valve.request p = s.act.valve := by rw [h]; exact if_pos rfl
    simp only [h, decide_true, if_true, Bool.not_true, Bool.and_false]
    rw [← h, hreq]
    rfl
  · simp only [h, decide_false, Bool.not_false, Bool.and_true]
    rfl

theorem State.startCheck_starts {s : State} {e : Entry} (hm : s.MayStart) (he : s.arb.noTurn.oldestCandidate = some e) :
    s.startCheck = s.started (s.arb.noTurn.choosePath s.act.valve e) := by
  unfold State.startCheck
  dsimp only
  rw [if_pos (s.mayStart_iff.mpr hm), he]
  exact s.startOrder_eq _

theorem State.startCheck_stands {s : State} (h : ¬ s.MayStart ∨ s.arb.noTurn.oldestCandidate = none) : s.startCheck = s := by
  rcases h with h | h
  · exact State.startCheck_barred (by rwa [← Bool.not_eq_true, State.mayStart_iff])
  · unfold State.startCheck
    dsimp only
    rw [h]
    exact ite_self s

/-- A start check leaves the state or makes a start. -/
theorem State.startCheck_cases (s : State) : s.startCheck = s ∨ ∃ p, s.startCheck = s.started p := by
  by_cases hm : s.MayStart
  · cases he : s.arb.noTurn.oldestCandidate with
    | none => exact .inl (State.startCheck_stands (.inr he))
    | some e => exact .inr ⟨_, State.startCheck_starts hm he⟩
  · exact .inl (State.startCheck_stands (.inl hm))

theorem State.startCheck_runaway {s : State} (h : s.flt.runaway = false) : s.startCheck.flt.runaway = false := by
  rcases s.startCheck_cases with hs | ⟨p, hs⟩
  · rw [hs, h]
  · rw [hs]
    show (s.flt.runaway && _) = false
    rw [h]
    rfl

/-! ## The link record (R98, R99) -/

section reply
variable {l : LinkRecord} (r : DriveReply)

theorem LinkRecord.reply_up (h : l.state = .up) : l.reply r = { l with lastStatus := some r, window := none, miss := 0 } := by
  unfold LinkRecord.reply
  simp only [h]

theorem LinkRecord.reply_unknown (h : l.state = .unknown) (hg : l.good ≤ 1) :
    l.reply r = { l with lastStatus := some r, window := none, miss := 0, good := l.good + 1 } := by
  have hg' : ¬ 2 ≤ l.good := by omega
  unfold LinkRecord.reply
  simp only [h, hg', if_false]

theorem LinkRecord.reply_comesUp (h : l.state = .unknown) (hg : l.good = 2) :
    l.reply r = { l with lastStatus := some r, window := none, state := .up, miss := 0, good := 0 } := by
  unfold LinkRecord.reply
  simp only [h, hg, le_refl, if_true]

theorem LinkRecord.reply_lost (h : l.state = .lost) (hg : l.good ≤ 1) :
    l.reply r = { l with lastStatus := some r, window := none, good := l.good + 1 } := by
  have hg' : ¬ 2 ≤ l.good := by omega
  unfold LinkRecord.reply
  simp only [h, hg', if_false]

theorem LinkRecord.reply_restores (h : l.state = .lost) (hg : l.good = 2) :
    l.reply r = { l with lastStatus := some r, window := none, state := .up, good := 0 } := by
  unfold LinkRecord.reply
  simp only [h, hg, le_refl, if_true]

/-- The third good reply in a row brings a link up that is not (R99). -/
theorem LinkRecord.reply_third (h : l.state ≠ .up) (hg : l.good = 2) : (l.reply r).state = .up := by
  cases hs : l.state
  case up => exact absurd hs h
  case unknown => rw [LinkRecord.reply_comesUp r hs hg]
  case lost => rw [LinkRecord.reply_restores r hs hg]

end reply

theorem LinkRecord.missed_up {l : LinkRecord} (h : l.state = .up) (hm : l.miss ≤ 3) :
    l.missed = { l with window := none, miss := l.miss + 1 } := by
  have hm' : ¬ 4 ≤ l.miss := by omega
  unfold LinkRecord.missed
  simp only [h, hm', if_false]

theorem LinkRecord.missed_unknown {l : LinkRecord} (h : l.state = .unknown) (hm : l.miss ≤ 3) :
    l.missed = { l with window := none, good := 0, miss := l.miss + 1 } := by
  have hm' : ¬ 4 ≤ l.miss := by omega
  unfold LinkRecord.missed
  simp only [h, hm', if_false]

theorem LinkRecord.missed_lost {l : LinkRecord} (h : l.state = .lost) : l.missed = { l with window := none, good := 0 } := by
  unfold LinkRecord.missed
  simp only [h]

/-- The fifth miss in a row loses the link (R99). -/
theorem LinkRecord.missed_fifth {l : LinkRecord} (h : l.state ≠ .lost) (hm : l.miss = 4) : l.missed
    = { l with window := none, state := .lost, miss := 0, good := if l.state = .unknown then 0 else l.good } := by
  unfold LinkRecord.missed
  cases hs : l.state
  case lost => exact absurd hs h
  case up => simp [hm]
  case unknown => simp [hm]

/-! ## A valid DRIVE_STATUS (R98) -/

theorem driveStateOf_iff (b : Byte) (d : DriveState) : driveStateOf b.toNat = some d
    ↔ b = 0 ∧ d = .stopped ∨ b = 1 ∧ d = .running ∨ b = 2 ∧ d = .fault := by
  have hb (k : Byte) : b = k ↔ b.toNat = k.toNat := BitVec.toNat_inj.symm
  rw [hb 0, hb 1, hb 2]
  unfold driveStateOf
  split
  case h_1 h => simp [h, eq_comm]
  case h_2 h => simp [h, eq_comm]
  case h_3 h => simp [h, eq_comm]
  case h_4 h0 h1 h2 =>
    refine iff_of_false (by simp) ?_
    rintro (⟨h, -⟩ | ⟨h, -⟩ | ⟨h, -⟩)
    · exact h0 h
    · exact h1 h
    · exact h2 h

theorem readDriveStatus_iff (l : List Byte) (r : DriveReply) : readDriveStatus l = some r
    ↔ ∃ st hi lo code : Byte, l = [0xD2, st, hi, lo, code, crc8 [st, hi, lo, code]]
      ∧ (st = 0 ∧ r.state = .stopped ∨ st = 1 ∧ r.state = .running ∨ st = 2 ∧ r.state = .fault)
      ∧ r.units = hi.toNat * 256 + lo.toNat ∧ r.units ≤ 450 ∧ r.code = code.toNat ∧ r.code ≤ 15 := by
  constructor
  · intro h
    unfold readDriveStatus at h
    split at h
    case h_2 => cases h
    case h_1 hd st hi lo code chk =>
      split at h
      case isFalse => cases h
      case isTrue hframe =>
        obtain ⟨rfl, rfl⟩ := hframe
        split at h
        case h_1 => cases h
        case h_2 d hd =>
          dsimp only at h
          split at h
          case isFalse => cases h
          case isTrue hrange =>
            cases h
            exact ⟨st, hi, lo, code, rfl, (driveStateOf_iff st d).mp hd, rfl, hrange.1, rfl, hrange.2⟩
  · rintro ⟨st, hi, lo, code, rfl, hst, hunits, hu, hcode, hc⟩
    obtain ⟨d, units, c⟩ := r
    dsimp only at hst hunits hu hcode hc
    subst hunits hcode
    unfold readDriveStatus
    dsimp only
    rw [if_pos ⟨rfl, rfl⟩, (driveStateOf_iff st d).mpr hst]
    exact if_pos ⟨hu, hc⟩

theorem exec_driveStatus {s : State} {l : List Byte} {n : Nat} {r : DriveReply} (hw : s.link.window = some n)
    (hr : readDriveStatus l = some r) : exec (.driveStatus l) s = s.finish (s.driveReply r) := by
  show execDriveStatus l s = _
  unfold execDriveStatus
  rw [hw, hr]

theorem exec_driveStatus_none {s : State} {l : List Byte} (h : s.link.window = none ∨ readDriveStatus l = none) :
    exec (.driveStatus l) s = .next s := by
  show execDriveStatus l s = _
  unfold execDriveStatus
  rcases h with h | h
  · rw [h]
  · rw [h]
    cases s.link.window <;> rfl

/-! ## The fault that a reply declares (R101) -/

section declared
variable {s : State} {r : DriveReply}

theorem replyFault_reported (hr : r.state = .fault) (h : s.link.lastStatus = none
      ∨ (∃ q, s.link.lastStatus = some q ∧ q.state ≠ .fault) ∨ s.link.state = .lost) :
    replyFault s s.link r = some (.reported, r.code) := by
  unfold replyFault
  rw [hr]
  refine if_pos ?_
  rcases h with h | ⟨q, h, hq⟩ | h
  · rw [h]
    rfl
  · rw [h]
    show (decide (q.state ≠ .fault) || _) = true
    rw [decide_eq_true hq]
    rfl
  · rw [decide_eq_true h, Bool.or_true]

theorem replyFault_reportedBefore {q : DriveReply} (hr : r.state = .fault) (hl : s.link.lastStatus = some q) (hq : q.state = .fault)
    (hu : s.link.state = .up) : replyFault s s.link r = none := by
  unfold replyFault
  simp [hr, hl, hq, hu]

theorem replyFault_runaway (hr : r.state = .running) (hf : s.cyc.runFlag = false) (hs : s.cyc.stopCommandedSince + 10 < s.now)
    (hw : s.flt.runaway = false) : replyFault s s.link r = some (.runaway, 0) := by
  unfold replyFault
  rw [hr]
  exact if_pos ⟨hf, hs, hw⟩

theorem replyFault_running (hr : r.state = .running)
    (h : s.cyc.runFlag = true ∨ s.now ≤ s.cyc.stopCommandedSince + 10 ∨ s.flt.runaway = true) : replyFault s s.link r = none := by
  unfold replyFault
  rw [hr]
  refine if_neg fun ⟨hf, hs, hw⟩ => ?_
  rcases h with h | h | h
  · rw [h] at hf
    cases hf
  · omega
  · rw [h] at hw
    cases hw

theorem replyFault_stall (hr : r.state = .stopped) (hs : s.cyc.state = .running ∨ s.cyc.state = .transfer) (h9 : 9 ≤ s.flt.stall) :
    replyFault s s.link r = some (.stall, 0) := by
  unfold replyFault
  rw [hr]
  exact if_pos ⟨hs, h9⟩

theorem replyFault_stopped (hr : r.state = .stopped)
    (h : ¬ ((s.cyc.state = .running ∨ s.cyc.state = .transfer) ∧ 9 ≤ s.flt.stall)) : replyFault s s.link r = none := by
  unfold replyFault
  rw [hr]
  exact if_neg h

end declared

/-! ## A valid reply, case by case (R98 to R103) -/

/-- The state in which a valid reply has moved the link record, the runaway mark and the stall count. -/
def State.replied (s : State) (r : DriveReply) (runaway : Bool) (stall : Nat) : State :=
  { s with link := s.link.reply r, flt := { s.flt with runaway := runaway, stall := stall } }

/-- The runaway mark after a reply: a STOPPED reply clears it, a RUNAWAY sets it (R101). -/
def State.runawayAfter (s : State) (r : DriveReply) : Bool :=
  match r.state with
  | .stopped => false
  | .running => s.flt.runaway || decide ((replyFault s s.link r).map (·.1) = some .runaway)
  | .fault => s.flt.runaway

/-- The stall count after a reply: a STOPPED reply in RUNNING or TRANSFER that declares no stall counts (R101). -/
def State.stallAfter (s : State) (r : DriveReply) : Nat :=
  if r.state = .stopped ∧ (s.cyc.state = .running ∨ s.cyc.state = .transfer) ∧ replyFault s s.link r = none then s.flt.stall + 1 else 0

/-- What a reply has noted before its fault or its cycle rule. -/
def State.noted (s : State) (r : DriveReply) : State := s.replied r (s.runawayAfter r) (s.stallAfter r)

/-- The start check of a restoration, and of nothing else (R100). -/
def State.afterRestoration (s : State) (r : DriveReply) (u : State) : State :=
  if s.link.state ≠ .up ∧ (s.link.reply r).state = .up then u.startCheck else u

theorem State.driveReply_fault {s : State} {r : DriveReply} {cause : DriveFaultCause} {code : Nat}
    (h : replyFault s s.link r = some (cause, code)) :
    s.driveReply r = s.afterRestoration r ((s.noted r).faultEvent cause code) := by
  unfold State.driveReply State.noted State.runawayAfter State.stallAfter
  rw [h]
  rfl

theorem State.driveReply_plain {s : State} {r : DriveReply} (h : replyFault s s.link r = none) :
    s.driveReply r = s.afterRestoration r ((s.noted r).cycleReply r) := by
  unfold State.driveReply State.noted State.runawayAfter State.stallAfter
  rw [h]
  rfl

theorem State.afterRestoration_up {s : State} (h : s.link.state = .up) (r : DriveReply) (u : State) : s.afterRestoration r u = u :=
  if_neg fun k => k.1 h

/-- A restoration starts nothing where no start may be made. -/
theorem State.afterRestoration_stands (s : State) (r : DriveReply) {u : State} (h : u.startCheck = u) :
    s.afterRestoration r u = u := by
  unfold State.afterRestoration
  rw [h, ite_self]

theorem State.afterRestoration_turn (s : State) (r : DriveReply) (u : State) : TurnOnly u (s.afterRestoration r u) :=
  TurnOnly.ite _ u.startCheck_turn (.refl u)

theorem State.driveFault_justStopped (s : State) (cause : DriveFaultCause) (code : Nat) :
    (s.driveFault cause code).startCheck = s.driveFault cause code := by
  refine State.startCheck_justStopped ?_
  rw [State.driveFault_eq]
  exact s.lostCycle_off.2

/-- With no defrost due, a reply that declares a fault is that fault: the start is barred after it (R102). -/
theorem State.driveReply_faults_idle {s : State} {r : DriveReply} {cause : DriveFaultCause} {code : Nat} (hm : s.mgr.state ≠ .due)
    (h : replyFault s s.link r = some (cause, code)) : s.driveReply r = (s.noted r).driveFault cause code := by
  rw [State.driveReply_fault h, State.faultEvent_idle (s := s.noted r) hm]
  exact s.afterRestoration_stands r (State.driveFault_justStopped _ _ _)

/-- A drive fault declared by a reply, in terms of the state that the reply found. -/
theorem State.replied_driveFault (s : State) (r : DriveReply) (runaway : Bool) (cause : DriveFaultCause) (code : Nat) :
    (s.replied r runaway 0).driveFault cause code = { s with
      link := s.link.reply r, arb := s.lostTurn, cyc := s.lostCycle, act := s.lostFans,
      flt := { s.flt.enter s.now with
        waitEnd := some (s.now + 300), last := some (cause, code), runaway := runaway, stall := 0 },
      events := s.faultEvents } := by
  have henter : (s.replied r runaway 0).flt.enter s.now = { s.flt.enter s.now with runaway := runaway, stall := 0 } := by
    show DriveFaultRecord.enter { s.flt with runaway := runaway, stall := 0 } s.now = _
    rw [DriveFaultRecord.enter_stall { s.flt with runaway := runaway }, DriveFaultRecord.enter_runaway]
  have hflt : (s.replied r runaway 0).faultRecord cause code = { s.flt.enter s.now with
      waitEnd := some (s.now + 300), last := some (cause, code), runaway := runaway, stall := 0 } := by
    unfold State.faultRecord
    rw [show (s.replied r runaway 0).now = s.now from rfl, henter, show (s.replied r runaway 0).flt.stall = 0 from rfl, ite_self]
  have hevents : (s.replied r runaway 0).faultEvents = s.faultEvents := by
    unfold State.faultEvents
    rw [show (s.replied r runaway 0).now = s.now from rfl, henter]
    rfl
  rw [State.driveFault_eq, hflt, hevents]
  rfl

theorem State.cycleReply_plain {s : State} {r : DriveReply}
    (hs : ¬ (s.cyc.state = .starting ∧ s.cyc.phase = some .run ∧ r.state = .running ∧ 100 ≤ r.units))
    (hd : ¬ (s.cyc.state = .stopping ∧ r.state = .stopped)) : s.cycleReply r = s := by
  unfold State.cycleReply
  rw [if_neg hs, if_neg hd]

theorem State.cycleReply_stops {s : State} {r : DriveReply} (hs : s.cyc.state = .stopping) (hr : r.state = .stopped) :
    s.cycleReply r = s.stopped := by
  unfold State.cycleReply
  rw [if_neg (by simp [hs]), if_pos ⟨hs, hr⟩]

theorem State.cycleReply_starts {s : State} {r : DriveReply} (hs : s.cyc.state = .starting) (hp : s.cyc.phase = some .run)
    (hr : r.state = .running) (hu : 100 ≤ r.units) : s.cycleReply r = s.enterRunningFromStart.reportRunning :=
  if_pos ⟨hs, hp, hr, hu⟩

/-- The end of STARTING: with a path its three timers begin, and without one, under service hold, none (R84, R104). -/
def CycleRecord.begun (c : CycleRecord) (timer : Option Nat) : CycleRecord :=
  { c with
    state := .running, phase := none, startWindow := none, target := none, turnTimer := timer, onTimer := timer,
    startHold := timer, sinceUpdate := 0, turnMaxReported := false, minOnReported := false, runMinutes := 0 }

theorem State.enterRunningFromStart_eq (s : State) : s.enterRunningFromStart = { s with
    cyc := s.cyc.begun (if s.cyc.path.isSome then some 0 else none), act := s.act.onRunning s.cyc.path } := rfl

/-- The report of RUNNING leaves RUNNING, enters TRANSFER or enters STOPPING: not OFF (R69). -/
theorem State.reportRunning_notOff {s : State} (h : s.cyc.state = .running) : s.reportRunning.cyc.state ≠ .off := by
  have hstop : s.handStop.cyc.state ≠ .off := by
    rw [State.handStop_stops (.inr (.inl h))]
    simp [CycleRecord.stopping]
  unfold State.reportRunning
  split
  case isFalse => rw [h]; simp
  case isTrue =>
    unfold State.servedEmptied
    split
    case h_1 => rw [State.handTransfer_eq]; simp [State.transferring]
    case h_2 =>
      split
      · exact hstop
      · show s.cyc.state ≠ .off
        rw [h]
        simp

/-- A RUNNING reply with no fault to declare leaves the runaway mark and returns the stall count to 0 (R101). -/
theorem State.noted_running {s : State} {r : DriveReply} (hr : r.state = .running) (h : replyFault s s.link r = none) :
    s.noted r = { s with link := s.link.reply r, flt := { s.flt with stall := 0 } } := by
  unfold State.noted State.runawayAfter State.stallAfter
  simp only [hr, h, Option.map_none, reduceCtorEq, decide_false, Bool.or_false, false_and, if_false]
  rfl

theorem State.noted_stopped {s : State} {r : DriveReply} (hr : r.state = .stopped) : s.noted r = s.replied r false (s.stallAfter r) := by
  unfold State.noted State.runawayAfter
  rw [hr]

/-- Outside RUNNING and TRANSFER a reply returns the stall count to 0, and so does one that declares a fault (R101). -/
theorem State.stallAfter_zero {s : State} {r : DriveReply}
    (h : r.state ≠ .stopped ∨ (s.cyc.state ≠ .running ∧ s.cyc.state ≠ .transfer) ∨ replyFault s s.link r ≠ none) :
    s.stallAfter r = 0 := by
  refine if_neg fun ⟨hr, hs, hn⟩ => ?_
  rcases h with h | ⟨h1, h2⟩ | h
  · exact h hr
  · exact hs.elim h1 h2
  · exact h hn

/-- A start toward a path or under service hold ends at its first RUNNING reply of 1000 rpm (R84, R104). -/
theorem State.driveReply_ends {s : State} {r : DriveReply} (hr : r.state = .running) (hu : 100 ≤ r.units)
    (hs : s.cyc.state = .starting) (hph : s.cyc.phase = some .run) (hf : s.cyc.runFlag = true) :
    s.driveReply r = State.reportRunning { s with
      link := s.link.reply r, flt := { s.flt with stall := 0 },
      cyc := s.cyc.begun (if s.cyc.path.isSome then some 0 else none), act := s.act.onRunning s.cyc.path } := by
  have hnone := replyFault_running (s := s) hr (.inl hf)
  rw [State.driveReply_plain hnone, State.cycleReply_starts (s := s.noted r) hs hph hr hu, State.noted_running hr hnone,
    State.enterRunningFromStart_eq]
  exact s.afterRestoration_stands r (State.startCheck_notOff (State.reportRunning_notOff rfl))

/-- A STOPPED reply in STOPPING is the end of it (R88). -/
theorem State.driveReply_stops {s : State} {r : DriveReply} (hr : r.state = .stopped) (hs : s.cyc.state = .stopping) :
    s.driveReply r = (s.noted r).stopped := by
  have hnone : replyFault s s.link r = none := replyFault_stopped hr (by simp [hs])
  rw [State.driveReply_plain hnone, State.cycleReply_stops (s := s.noted r) hs hr]
  refine s.afterRestoration_stands r ?_
  rw [State.stopped_eq (s := s.noted r) hs]
  exact State.startCheck_justStopped rfl

theorem State.driveReply_mgr {s : State} (hm : s.mgr.state ≠ .due) (r : DriveReply) : (s.driveReply r).mgr = s.mgr := by
  cases h : replyFault s s.link r with
  | none =>
    rw [State.driveReply_plain h]
    exact (s.afterRestoration_turn r _).mgr.trans ((s.noted r).cycleReply_turn r).mgr
  | some x =>
    obtain ⟨cause, code⟩ := x
    rw [State.driveReply_faults_idle hm h, State.driveFault_eq]
    rfl

/-- A STOPPED reply ends with the runaway mark clear (R101). -/
theorem State.driveReply_clears {s : State} (hm : s.mgr.state ≠ .due) {r : DriveReply} (hr : r.state = .stopped) :
    (s.driveReply r).flt.runaway = false := by
  cases h : replyFault s s.link r with
  | some x =>
    obtain ⟨cause, code⟩ := x
    have hz := State.stallAfter_zero (s := s) (r := r) (.inr (.inr (by rw [h]; simp)))
    rw [State.driveReply_faults_idle hm h, State.noted_stopped hr, hz, State.replied_driveFault]
  | none =>
    have hcycle : ((s.noted r).cycleReply r).flt.runaway = false := by
      by_cases hs : s.cyc.state = .stopping
      · rw [State.cycleReply_stops (s := s.noted r) hs hr, State.stopped_eq (s := s.noted r) hs, State.noted_stopped hr]
        rfl
      · rw [State.cycleReply_plain (s := s.noted r) (by simp [hr]) fun k => hs k.1, State.noted_stopped hr]
        rfl
    rw [State.driveReply_plain h]
    unfold State.afterRestoration
    split
    · exact State.startCheck_runaway hcycle
    · exact hcycle

/-- What a valid reply leaves besides the link: all but what the manager and a turn move, and the image store. -/
theorem State.driveReply_leaves (s : State) (r : DriveReply) :
    ManagerOnly (s.noted r) (s.driveReply r) ∧ (s.driveReply r).store = s.store ∧ (s.driveReply r).acct = s.acct := by
  cases h : replyFault s s.link r with
  | none =>
    have ht : TurnOnly (s.noted r) (s.driveReply r) := by
      rw [State.driveReply_plain h]
      exact ((s.noted r).cycleReply_turn r).trans (s.afterRestoration_turn r _)
    exact ⟨ht.manager, ht.store, ht.acct⟩
  | some x =>
    obtain ⟨cause, code⟩ := x
    have ht := s.afterRestoration_turn r ((s.noted r).faultEvent cause code)
    have hf : ((s.noted r).faultEvent cause code).store = s.store ∧ ((s.noted r).faultEvent cause code).acct = s.acct := by
      have hd : ((s.noted r).driveFault cause code).store = s.store ∧ ((s.noted r).driveFault cause code).acct = s.acct := by
        rw [State.driveFault_eq]
        exact ⟨rfl, rfl⟩
      unfold State.faultEvent
      dsimp only
      split
      · have ha := State.managerReact_activates ((s.noted r).driveFault cause code)
        exact ⟨ha.reacts.store.trans hd.1, ha.acct.trans hd.2⟩
      · exact hd
    rw [State.driveReply_fault h]
    exact ⟨((s.noted r).faultEvent_manager cause code).trans ht.manager, ht.store.trans hf.1, ht.acct.trans hf.2⟩

/-! ## A miss (R98, R99) -/

theorem exec_driveMiss {s : State} {n : Nat} (hw : s.link.window = some n) (hn : 10 ≤ n) :
    exec .driveMiss s = s.finish s.driveMissed :=
  State.event_due (s := s) (i := .driveMiss) (reached_of_le hw hn) State.driveMissed

/-- The state in which a miss has moved the link record and the stall count. -/
def State.missNoted (s : State) : State := { s with link := s.link.missed, flt := { s.flt with stall := 0 } }

theorem State.driveMissed_plain {s : State} (h : s.link.state = .lost ∨ s.link.missed.state ≠ .lost) :
    s.driveMissed = s.missNoted := if_neg fun ⟨h1, h2⟩ => h.elim h1 fun k => k h2

theorem State.driveMissed_loses {s : State} (h : s.link.state ≠ .lost) (hl : s.link.missed.state = .lost) :
    s.driveMissed = if s.cyc.state = .off then s.missNoted.driveLoss.managerReact else s.missNoted.driveLoss := if_pos ⟨h, hl⟩

theorem exec_driveMiss_plain {s : State} {n : Nat} (hw : s.link.window = some n) (hn : 10 ≤ n)
    (h : s.link.state = .lost ∨ s.link.missed.state ≠ .lost) : exec .driveMiss s = .next s.missNoted.settle := by
  rw [exec_driveMiss hw hn, State.driveMissed_plain h]
  exact State.finish_same rfl rfl

theorem State.driveLoss_eq (s : State) : s.driveLoss = { s with
    arb := s.lostTurn, cyc := s.lostCycle, act := s.lostFans, flt := s.lostFaults,
    events := s.events.map (·.add .driveLost) } := congrArg (·.raise .driveLost) s.compressorLost_eq

end Sys2Proof.Machine

namespace Sys2Proof

open Sys2Proof.Machine

/-- Settles O28: a frame by its definition; a reply moves the link by the table, and what follows it leaves the link alone; the fifth
miss by the equation of a loss. -/
theorem framesRepliesAndMissesMoveTheLink : Obligations.FramesRepliesAndMissesMoveTheLink := by
  refine ⟨fun s hs => ?_, ⟨fun s l => exec_driveStatus_none, readDriveStatus_iff, fun s l n r hw hr => ?_⟩, fun s n hw hn => ?_⟩
  · intro inner
    have hframe : s.cyc.commandFrame = 0xD1 :: inner ++ [crc8 inner] := by
      have hflag : byte (if s.cyc.runFlag then 1 else 0) = if s.cyc.runFlag then 1 else 0 := by cases s.cyc.runFlag <;> rfl
      unfold CycleRecord.commandFrame
      rw [hflag]
      rfl
    rw [← hframe]
    exact State.event_same (s := s) (i := .driveCommand) (decide_eq_true hs) State.sendCommand rfl rfl
  · obtain ⟨hleft, hstore, hacct⟩ := s.driveReply_leaves r
    have hq := (State.handOver_quiet s (s.driveReply r)).trans (State.settle_quiet _)
    have hlink : (State.handOver s (s.driveReply r)).settle.link = s.link.reply r :=
      (hq .link (by simp)).trans hleft.link
    refine ⟨_, exec_driveStatus hw hr, fun h => ?_, fun h hg => ?_, fun h hg => ?_, fun h hg => ?_, fun h hg => ?_,
      (hq .zones (by simp)).trans hleft.zones, (hq .channels (by simp)).trans hleft.channels,
      (hq .doors (by simp)).trans hleft.doors, (hq .cap (by simp)).trans hleft.cap, (hq .acct (by simp)).trans hacct,
      (hq .ports (by simp)).trans hleft.ports, (State.handOver_reacts s _).store.trans hstore,
      (hq .tables (by simp)).trans hleft.tables⟩
    · rw [hlink, LinkRecord.reply_up r h]
    · rw [hlink, LinkRecord.reply_unknown r h hg]
    · rw [hlink, LinkRecord.reply_comesUp r h hg]
    · rw [hlink, LinkRecord.reply_lost r h hg]
    · rw [hlink, LinkRecord.reply_restores r h hg]
  · intro lost
    refine ⟨fun h hm => ?_, fun h hm => ?_, fun h => ?_, fun h hm => ?_⟩
    · have hmiss := LinkRecord.missed_up h hm
      rw [exec_driveMiss_plain hw hn (.inr (by rw [hmiss]; simp [h])), State.missNoted, hmiss]
    · have hmiss := LinkRecord.missed_unknown h hm
      rw [exec_driveMiss_plain hw hn (.inr (by rw [hmiss]; simp [h])), State.missNoted, hmiss]
    · rw [exec_driveMiss_plain hw hn (.inl h), State.missNoted, LinkRecord.missed_lost h]
    · have hmiss := LinkRecord.missed_fifth h hm
      have hexec : exec .driveMiss s
          = s.finish (if s.cyc.state = .off then s.missNoted.driveLoss.managerReact else s.missNoted.driveLoss) := by
        rw [exec_driveMiss hw hn, State.driveMissed_loses h (by rw [hmiss])]
      have hlost : ∀ x : Actuators, x.runOn = s.missNoted.lostFans.runOn → lost { s.missNoted.driveLoss with act := x } := by
        intro x hx
        rw [State.driveLoss_eq]
        refine ⟨hmiss, s.missNoted.lostCycle_off.2, fun p => by simp [EventRecord.add], s.missNoted.lostCycle_off.1, ?_, fun hu => ?_⟩
        · show s.lostCycle.runFlag = _
          by_cases ho : s.cyc.state = .off
          · rw [(State.lost_off ho).2.1, if_pos ho]
          · rw [if_neg ho]
            unfold State.lostCycle
            cases hs : s.cyc.state
            case off => exact absurd hs ho
            all_goals rfl
        · obtain ⟨hturn, hcycle, hfans, -⟩ := State.lost_underWay (s := s.missNoted) hu
          refine ⟨congrArg CycleRecord.stopCommandedSince hcycle, ?_, hturn⟩
          exact hx.trans (congrArg Actuators.runOn hfans)
      have hrun : s.missNoted.driveLoss.act.runOn = s.missNoted.lostFans.runOn := by rw [State.driveLoss_eq]
      refine ⟨⟨_, hexec, hlost s.missNoted.driveLoss.act hrun⟩, fun hidle => ?_⟩
      have hd : s.missNoted.driveLoss.mgr.state ≠ .due := by
        rw [State.driveLoss_eq]
        exact hidle
      refine ⟨s.missNoted.driveLoss.settle, ?_, hlost s.missNoted.driveLoss.settledActuators hrun⟩
      rw [hexec, State.managerReact_idle hd, ite_self]
      exact State.finish_idle hd

/-- Settles O29: a reply that declares a fault is that fault's equation, and any other one at most ends STARTING or STOPPING; with a link
that was up no start check follows, and after a fault or a stop none can start. -/
theorem repliesEndStartsAndStopsAndDeclareFaults : Obligations.RepliesEndStartsAndStopsAndDeclareFaults := by
  intro s l n r hw hread
  have hexec := exec_driveStatus hw hread
  refine ⟨fun p hr hu hs hph hp hf => ?_, fun hr hu hs hph hp hf => ?_, fun hm => ?_⟩
  · intro run
    have heq : s.driveReply r = State.reportRunning { s with
        link := s.link.reply r, flt := { s.flt with stall := 0 }, cyc := run, act := s.act.onRunning (some p) } := by
      rw [State.driveReply_ends hr hu hs hph hf, hp]
      rfl
    rw [hexec, heq]
    refine ⟨rfl, fun hserved hm => ?_⟩
    rw [State.reportRunning_serving]
    · exact ⟨_, State.finish_idle hm, rfl, rfl⟩
    · exact hserved
  · intro run ended
    have heq : s.driveReply r = ended.reportRunning := by
      rw [State.driveReply_ends hr hu hs hph hf, hp]
      rfl
    rw [hexec, heq]
    refine ⟨rfl, fun ht => ?_⟩
    have hsame : ended.reportRunning = ended := if_neg fun k => by
      have hsome : s.arb.turnPath.isSome = true := k.1
      rw [ht] at hsome
      cases hsome
    rw [hsame]
    exact ⟨rfl, fun hm => State.finish_idle hm⟩
  · intro starts faulted
    have hplain : s.link.state = .up → replyFault s s.link r = none → s.driveReply r = (s.noted r).cycleReply r := fun hup hn =>
      (State.driveReply_plain hn).trans (State.afterRestoration_up hup r _)
    have hfaulted : ∀ cause code b, s.driveReply r = (s.replied r b 0).driveFault cause code →
        faulted cause code (s.driveReply r).settle ∧ (s.driveReply r).settle.flt.runaway = b := by
      intro cause code b heq
      rw [heq, State.replied_driveFault]
      refine ⟨⟨rfl, rfl, rfl, rfl, rfl, s.lostCycle_off.1, s.lostCycle_off.2, s.faultEvents_told, rfl, fun hs => ?_, fun hs => ?_,
        fun hs => ?_, s.lostFans_valve, rfl⟩, rfl⟩
      · obtain ⟨hturn, hcycle, hfans, -⟩ := State.lost_underWay hs
        exact ⟨hcycle, congrArg Actuators.runOn hfans, hturn⟩
      · obtain ⟨hturn, hcycle, hfans⟩ := State.lost_stopping hs
        exact ⟨hcycle, congrArg Actuators.runOn hfans, hturn⟩
      · obtain ⟨hturn, hcycle, hfans⟩ := State.lost_off hs
        have hrun : s.lostFans.runOn = s.act.runOn := by rw [hfans]
        exact ⟨hcycle, hturn, hrun⟩
    have hdeclared : ∀ cause code, replyFault s s.link r = some (cause, code) →
        faulted cause code (s.driveReply r).settle ∧ (s.driveReply r).settle.flt.runaway = s.runawayAfter r := by
      intro cause code h
      refine hfaulted cause code _ ?_
      rw [State.driveReply_faults_idle hm h, State.noted, State.stallAfter_zero (.inr (.inr (by rw [h]; simp)))]
    have hdone : exec (.driveStatus l) s = .next (s.driveReply r).settle :=
      hexec.trans (State.finish_idle (by rw [State.driveReply_mgr hm]; exact hm))
    refine ⟨_, hdone, fun hr hu hf hup => ?_, fun hr hs => ?_, fun hr h => ?_, fun q hr hl hq hup => ?_, fun hr hf hsince hw => ?_,
      fun hr hs hup h => ?_, fun hr => State.driveReply_clears hm hr, fun hr hs h9 => ?_, fun hr hs h9 hup => ?_⟩
    · have hu' : ¬ 100 ≤ r.units := Nat.not_le.mpr hu
      have heq := hplain hup (replyFault_running hr (.inl hf))
      rw [State.cycleReply_plain (by simp [hu']) (by simp [hr])] at heq
      rw [heq]
      rfl
    · rw [State.driveReply_stops hr hs, State.stopped_eq (s := s.noted r) hs]
      exact ⟨rfl, rfl⟩
    · obtain ⟨hall, hrun⟩ := hdeclared _ _ (replyFault_reported hr h)
      exact ⟨hall, hrun.trans (by rw [State.runawayAfter, hr])⟩
    · have heq := hplain hup (replyFault_reportedBefore hr hl hq hup)
      rw [State.cycleReply_plain (by simp [hr]) (by simp [hr])] at heq
      rw [heq]
      exact ⟨rfl, rfl, rfl⟩
    · have hsome := replyFault_runaway hr hf hsince hw
      obtain ⟨hall, hrun⟩ := hdeclared _ _ hsome
      exact ⟨hall, hrun.trans (by simp [State.runawayAfter, hr, hsome])⟩
    · have hnone := replyFault_running hr h
      have heq := hplain hup hnone
      rw [State.cycleReply_plain (s := s.noted r) (fun k => by rcases hs with hs | hs <;> exact absurd (hs.symm.trans k.1) (by simp))
        (by simp [hr]), State.noted_running hr hnone] at heq
      rw [heq]
      exact ⟨rfl, rfl, rfl⟩
    · exact (hdeclared _ _ (replyFault_stall hr hs h9.ge)).1
    · have hnone : replyFault s s.link r = none := replyFault_stopped hr fun k => absurd k.2 (Nat.not_le.mpr h9)
      have hstall : s.stallAfter r = s.flt.stall + 1 := if_pos ⟨hr, hs, hnone⟩
      have heq := hplain hup hnone
      rw [State.cycleReply_plain (s := s.noted r) (by simp [hr])
        (fun k => by rcases hs with hs | hs <;> exact absurd (hs.symm.trans k.1) (by simp)), State.noted_stopped hr, hstall] at heq
      rw [heq]
      exact ⟨rfl, rfl⟩

end Sys2Proof
end

section
/-!
The events that make the start check (R66, R67, R89, R100), and what the end of service hold leaves (R104, R123).
-/
namespace Sys2Proof.Machine

/-! ## The requests of service hold -/

/-- An admitted request of a row that takes its frame is answered by the row's rule, and ends. -/
theorem Admitted.answered {s : State} {e : Ending} {c : Command} {p : Port} {f : Frame} {q : Ports} (h : Admitted s e c p f q)
    {mine : Frame → Bool} (hm : mine f = true) {rule : State → Port → Frame → Answer} {a : Answer}
    (ha : rule { s with ports := q } p f = a) : s.finish (s.request e mine rule) = s.finish (a.respond p c) := by
  rw [State.request_admitted h hm rule, ha, Frame.echo_of_command h.2.2]
  rfl

section hold
variable {s : State} {e : Ending} {p : Port} {f : Frame} {q : Ports} (h : Admitted s e .serviceHold p f q)
include h

theorem Admitted.holdOn (h1 : f.arg 0 = 1) {a : Answer} (ha : ruleServiceHoldOn { s with ports := q } p f = a) :
    exec (.serviceHoldOn e) s = s.finish (a.respond p .serviceHold) :=
  h.answered (mine := fun f => f.names .serviceHold && decide (f.arg 0 = 1)) (by simp [h.names, h1]) ha

theorem Admitted.holdOff (h1 : f.arg 0 ≠ 1) {a : Answer} (ha : ruleServiceHoldOff { s with ports := q } p f = a) :
    exec (.serviceHoldOff e) s = s.finish (a.respond p .serviceHold) :=
  h.answered (mine := fun f => f.names .serviceHold && !decide (f.arg 0 = 1)) (by simp [h.names, h1]) ha

/-- The end of the hold by request (R123). -/
theorem Admitted.holdEnds (h0 : f.arg 0 = 0) (hf : s.act.forced ≠ none) : exec (.serviceHoldOff e) s
    = s.finish (State.respond (State.endHold { s with ports := q }) p { status := .ok, echo := 0x32, data := [] }) := by
  refine h.holdOff (by omega) (a := .ok (State.endHold { s with ports := q })) ?_
  have hon : State.serviceHold { s with ports := q } = true := Option.isSome_iff_ne_none.mpr hf
  unfold ruleServiceHoldOff
  rw [if_neg (by simp [h0]), if_pos hon]

end hold

theorem State.holdTimeout_due {s : State} (hf : s.act.forced ≠ none) (ht : s.act.lastValidS + 600 ≤ s.now) :
    s.due .holdTimeout = true := by
  have hon : s.serviceHold = true := Option.isSome_iff_ne_none.mpr hf
  show s.holdTimeoutDue = true
  rw [State.holdTimeoutDue, hon, decide_eq_true ht]
  rfl

/-- The state in which the start check and the due test of the hold's end have drawn their order (log entry 17). -/
def State.drawn (s : State) : State := { s with free := s.free + 1 }

/-- The end of the hold makes the start check and the due test, in a free order (R67, R129; log entry 17). -/
theorem State.afterHold_order (s : State) : s.afterHold = s.drawn.startCheck.dueTest ∨ s.afterHold = s.drawn.dueTest.startCheck := by
  unfold State.afterHold
  dsimp only
  split
  · exact .inl rfl
  · exact .inr rfl

/-! ## The ends of the bars (R89) -/

theorem State.barEnds_now {s : State} {moment : Option Nat} (hc : s.clock % 100 = 0) (h : moment = some s.now) :
    s.barEnds moment = true := by
  unfold State.barEnds State.wholeSecond
  rw [decide_eq_true hc, decide_eq_true h]
  rfl

theorem exec_minimumOffTimeOver {s : State} (hc : s.clock % 100 = 0) (h : s.now = s.cyc.lastStop + 180) :
    exec .minimumOffTimeOver s = s.finish s.startCheck :=
  State.event_due (s := s) (i := .minimumOffTimeOver) (State.barEnds_now hc (by rw [h])) State.startCheck

theorem exec_faultWaitEnd {s : State} (hc : s.clock % 100 = 0) (h : s.flt.waitEnd = some s.now) :
    exec .faultWaitEnd s = s.finish s.startCheck :=
  State.event_due (s := s) (i := .faultWaitEnd) (State.barEnds_now hc h) State.startCheck

/-- A STOPPED reply in OFF that restores the link is followed by the start check (R67, R100). -/
theorem State.driveReply_restores {s : State} {r : DriveReply} (hl : s.link.state ≠ .up) (hg : s.link.good = 2)
    (hs : s.cyc.state = .off) (hr : r.state = .stopped) : s.driveReply r = State.startCheck { s with
      link := s.link.reply r, flt := { s.flt with runaway := false, stall := 0 } } := by
  have hnone : replyFault s s.link r = none := replyFault_stopped hr (by simp [hs])
  have hnoted : s.noted r = s.replied r false 0 := by
    rw [State.noted_stopped hr, State.stallAfter_zero (.inr (.inl (by simp [hs])))]
  have hcycle : (s.noted r).cycleReply r = s.noted r :=
    State.cycleReply_plain (s := s.noted r) (by simp [hr]) fun k => absurd (hs.symm.trans k.1) (by simp)
  rw [State.driveReply_plain hnone, hcycle, hnoted]
  exact if_pos ⟨hl, LinkRecord.reply_third r hl hg⟩

/-! ## What the end of service hold leaves (R123) -/

/-- What the start check and the due test at the end of the hold leave: no forced values, no limit, and a stop under way. -/
structure HoldEnded (s t : State) : Prop where
  forced : t.act.forced = s.act.forced
  heater : t.act.lowerHeater = s.act.lowerHeater
  stopping : s.cyc.state = .stopping → t.cyc = s.cyc

theorem HoldEnded.refl (s : State) : HoldEnded s s := ⟨rfl, rfl, fun _ => rfl⟩

theorem HoldEnded.trans {s t u : State} (h : HoldEnded s t) (k : HoldEnded t u) : HoldEnded s u :=
  ⟨k.forced.trans h.forced, k.heater.trans h.heater, fun hs => (k.stopping (by rw [h.stopping hs]; exact hs)).trans (h.stopping hs)⟩

theorem State.startCheck_holdEnded (s : State) : HoldEnded s s.startCheck :=
  ⟨s.startCheck_turn.forced, s.startCheck_turn.lowerHeater, fun hs => by rw [State.startCheck_notOff (by rw [hs]; simp)]⟩

theorem State.beginTest_cyc (s : State) : s.beginTest.cyc = s.cyc := by
  unfold State.beginTest
  split
  · split
    · rw [State.beginProgram_eq]
    · rfl
  · rfl

/-- In STOPPING the manager's reaction leaves the cycle controller: it is current on no path (R131). -/
theorem State.managerReact_holdEnded (s : State) : HoldEnded s s.managerReact := by
  refine ⟨s.managerReact_manager.forced, s.managerReact_activates.heater, fun hs => ?_⟩
  have hno : ∀ p, s.cyc.currentOn p = false := fun p => by simp [CycleRecord.currentOn, hs]
  unfold State.managerReact
  split
  · rw [hno, if_neg (by simp)]
    exact s.beginTest_cyc
  · rfl

theorem State.dueTest_holdEnded (s : State) : HoldEnded s s.dueTest := by
  have hwait (u : State) (n : Nat) : HoldEnded u (u.beginWait n) :=
    HoldEnded.trans (t := { u with mgr := { u.mgr with waitStart := some n } }) ⟨rfl, rfl, fun _ => rfl⟩
      (State.managerReact_holdEnded _)
  have hdue : HoldEnded s s.enterDue := by
    unfold State.enterDue
    extract_lets m t
    have ht : HoldEnded s t := ⟨rfl, rfl, fun _ => rfl⟩
    split
    · exact ht
    · exact ht.trans (hwait t _)
  unfold State.dueTest
  split
  · exact hdue
  · exact .refl s

theorem State.afterHold_holdEnded (s : State) : HoldEnded s s.afterHold := by
  have hd : HoldEnded s s.drawn := ⟨rfl, rfl, fun _ => rfl⟩
  rcases s.afterHold_order with h | h
  · rw [h]
    exact (hd.trans s.drawn.startCheck_holdEnded).trans (State.dueTest_holdEnded _)
  · rw [h]
    exact (hd.trans s.drawn.dueTest_holdEnded).trans (State.startCheck_holdEnded _)

theorem State.handOver_holdEnded (s t : State) : HoldEnded t (State.handOver s t) := by
  unfold State.handOver
  split
  · exact t.managerReact_holdEnded
  · exact .refl t

/-- The hold is over: no forced values, the lower heater not limited, and a forced run in STOPPING (R104, R123). -/
structure HoldOver (s t : State) : Prop where
  forced : t.act.forced = none
  limited : t.act.lowerHeater.limited = false
  stops : s.cyc.state = .starting ∨ s.cyc.state = .running → t.cyc.state = .stopping ∧ t.cyc.runFlag = false

theorem HoldOver.after {s t u : State} (h : HoldOver s t) (k : HoldEnded t u) : HoldOver s u :=
  ⟨k.forced.trans h.forced, by rw [k.heater, h.limited], fun hs => by rw [k.stopping (h.stops hs).1]; exact h.stops hs⟩

theorem State.stopForced_holdOver (s : State) : HoldOver s s.discardForced.stopForced := by
  by_cases hs : s.cyc.state = .starting ∨ s.cyc.state = .running
  · have heq : s.discardForced.stopForced = s.discardForced.stopOrder := if_pos hs
    have ho : s.discardForced.cyc.state ≠ .off := fun k => by
      have hk : s.cyc.state = .off := k
      simp [hk] at hs
    have hst : s.discardForced.cyc.state ≠ .stopping := fun k => by
      have hk : s.cyc.state = .stopping := k
      simp [hk] at hs
    rw [heq, State.stopOrder_stops ho hst]
    exact ⟨rfl, rfl, fun _ => ⟨rfl, rfl⟩⟩
  · have heq : s.discardForced.stopForced = s.discardForced := if_neg hs
    rw [heq]
    exact ⟨rfl, rfl, fun k => absurd k hs⟩

theorem State.endHold_holdOver (s : State) : HoldOver s s.endHold := s.stopForced_holdOver.after (State.afterHold_holdEnded _)

theorem State.respond_holdEnded (s : State) (p : Port) (x : Response) : HoldEnded s (s.respond p x) := by
  obtain ⟨n, hn⟩ := s.respond_act p x
  exact ⟨by rw [hn], by rw [hn], fun _ => rfl⟩

theorem DefrostHeater.follow_limit (h : DefrostHeater) (r i : Bool) : (h.follow r i).limited = h.limited := rfl

/-- The outputs that follow leave what the end of the hold has left. -/
theorem HoldOver.settle {s t : State} (h : HoldOver s t) : HoldOver s t.settle :=
  ⟨h.forced, (DefrostHeater.follow_limit _ _ _).trans h.limited, h.stops⟩

end Sys2Proof.Machine

namespace Sys2Proof

open Sys2Proof.Machine

/-- Settles O21: the start check by its conditions, and each event of R67 as the event that ends in it. -/
theorem barEndMakesTheStart : Obligations.BarEndMakesTheStart := by
  refine ⟨fun s => ?_, fun s => ?_, fun s c hc h0 hs hl hlink hw hlock hf hh hm => ?_⟩
  · intro may fresh
    exact ⟨State.startCheck_stands, fun e => State.startCheck_starts⟩
  · intro freed ended counted
    refine ⟨exec_minimumOffTimeOver, exec_faultWaitEnd, fun l n r hw hread hl hg hs hr => ?_, fun p hp => ?_, fun p => rfl, rfl, rfl,
      fun n hs ht hn => ?_, fun hf ht => ?_, fun e p f q h h0 hf => h.holdEnds h0 hf, s.afterHold_order⟩
    · exact ⟨LinkRecord.reply_third r hl hg, (exec_driveStatus hw hread).trans (by rw [State.driveReply_restores hl hg hs hr])⟩
    · exact State.event_due (s := s) (i := .faultTimerExpiry p) (decide_eq_true hp) fun t => t.faultTimerOut p
    · exact (State.event_due (State.stopTimer_due hs ht hn) State.stopped).trans (by rw [State.stopped_enters hs]; rfl)
    · exact State.event_due (State.holdTimeout_due hf ht) fun t => t.endHold.raise .serviceHoldEnd
  · have hexec : exec c s = s.finish s.startCheck := by
      rcases hc with ⟨rfl, hnow⟩ | ⟨rfl, hwait⟩
      · exact exec_minimumOffTimeOver h0 hnow
      · exact exec_faultWaitEnd h0 hwait
    refine ⟨fun e he => ?_, fun hnone => ?_⟩
    · intro p
      have hstart : s.startCheck = s.started p := State.startCheck_starts ⟨hs, hl, hlink, hw, hlock, hf, hh⟩ he
      rw [hexec, hstart]
      refine ⟨_, State.finish_idle hm, rfl, rfl, rfl, rfl, ?_⟩
      rw [decide_not]
      rfl
    · rw [hexec, State.startCheck_stands (.inr hnone)]
      exact State.finish_same rfl rfl

end Sys2Proof
end

section
/-!
Fan supervision (R57, R75, R96, R108, R112, R113): what a tach reading writes into the fan's record, when it makes the fan fault or reports
good running, and the state each of them leaves.
-/
namespace Sys2Proof.Machine

/-! ## The reading and the fan's record (R108) -/

theorem State.supervised_iff (s : State) (f : Fan) : s.supervised f = true
    ↔ 5 ≤ (s.act.fans.get f).spinUp ∧ ¬ (f = .condenser ∧ s.act.condenserFault = .faulted) := by
  simp [State.supervised, imp_iff_not_or]

theorem lowReading_iff (f : Fan) (duty rpm : Nat) : lowReading f duty rpm = true ↔ 2 * rpm < fullSpeed f * duty / 100 :=
  decide_eq_true_iff

section read
variable {r : FanRecord} (f : Fan) (rpm : Nat)

theorem FanRecord.read_spinUp (watch : Bool) (h : r.spinUp < 5) :
    r.read f rpm watch = { r with tach := rpm, spinUp := r.spinUp + 1 } := if_pos h

theorem FanRecord.read_unwatched (h : 5 ≤ r.spinUp) : r.read f rpm false = { r with tach := rpm } := if_neg (by omega)

variable {f rpm}

theorem FanRecord.read_low (h : 5 ≤ r.spinUp) (hlow : lowReading f r.duty rpm = true) :
    r.read f rpm true = { r with tach := rpm, low := if 9 ≤ r.low then 0 else r.low + 1, good := 0 } := by
  rw [FanRecord.read, if_neg (by omega), if_neg (by simp), if_pos hlow]

theorem FanRecord.read_good (h : 5 ≤ r.spinUp) (hlow : lowReading f r.duty rpm = false) : r.read f rpm true
    = { r with tach := rpm, low := 0, good := if r.good < 300 then r.good + 1 else r.good } := by
  rw [FanRecord.read, if_neg (by omega), if_neg (by simp), if_neg (by simp [hlow])]

theorem faultReading_iff (r : FanRecord) (f : Fan) (rpm : Nat) (watch : Bool) : faultReading r f rpm watch = true
    ↔ 5 ≤ r.spinUp ∧ watch = true ∧ lowReading f r.duty rpm = true ∧ 9 ≤ r.low := by
  simp [faultReading, and_assoc]

/-- A reading that does not advance the good timer reports nothing. -/
theorem goodReaches_of_le {n : Nat} {r x : FanRecord} (h : x.good ≤ r.good) : goodReaches n r x = false := by
  simp only [goodReaches, Bool.and_eq_false_iff, decide_eq_false_iff_not]
  omega

/-- A good reading reaches a value of the good timer only from the value before it. -/
theorem goodReaches_next {n : Nat} {r x : FanRecord} (hn : n ≤ 300) (hx : x.good = if r.good < 300 then r.good + 1 else r.good) :
    goodReaches n r x = decide (r.good + 1 = n) := by
  rw [goodReaches, hx, ← Bool.decide_and, decide_eq_decide]
  split <;> omega

end read

/-! ## What a reading reports (R57, R112, R113) -/

/-- The state with a fan's record written. -/
def State.fanRead (s : State) (f : Fan) (x : FanRecord) : State := { s with act := { s.act with fans := s.act.fans.set f x } }

/-- The good timer stands at no value at which the fan's good running is reported. -/
def State.GoodUnreported (s : State) (f : Fan) (before after : FanRecord) : Prop :=
  (f = .condenser → ¬ (s.act.condenserFault = .retry ∧ goodReaches 10 before after = true))
    ∧ (f ≠ .condenser → goodReaches 300 before after = false)

theorem State.fanGood_unreported {s : State} {f : Fan} {x y : FanRecord} (h : s.GoodUnreported f x y) : s.fanGood f x y = s := by
  obtain ⟨hcondenser, hevaporator⟩ := h
  cases f with
  | upper => exact if_neg (by rw [hevaporator (by simp)]; simp)
  | lower => exact if_neg (by rw [hevaporator (by simp)]; simp)
  | condenser => exact if_neg (hcondenser rfl)

theorem State.fanGood_path (s : State) (p : Path) {x y : FanRecord} (h : goodReaches 300 x y = true) :
    s.fanGood p.fan x y = s.goodRunning p := by
  cases p <;> exact if_pos h

theorem State.fanGood_condenser {s : State} {x y : FanRecord} (hr : s.act.condenserFault = .retry) (h : goodReaches 10 x y = true) :
    s.fanGood .condenser x y = s.condenserClears := if_pos ⟨hr, h⟩

theorem State.fanFaults_path (s : State) (p : Path) : s.fanFaults p.fan = (s.raise .fanFault).pathFault p := by
  cases p <;> rfl

/-! ## A tach reading by its cases -/

theorem State.tach_faults {s : State} {f : Fan} {rpm : Nat} {x : FanRecord} (hx : (s.act.fans.get f).read f rpm (s.supervised f) = x)
    (h : faultReading (s.act.fans.get f) f rpm (s.supervised f) = true) : s.tach f rpm = (s.fanRead f x).fanFaults f := by
  rw [← hx]
  exact if_pos h

theorem State.tach_stands {s : State} {f : Fan} {rpm : Nat} {x : FanRecord} (hx : (s.act.fans.get f).read f rpm (s.supervised f) = x)
    (h : faultReading (s.act.fans.get f) f rpm (s.supervised f) = false) :
    s.tach f rpm = (s.fanRead f x).fanGood f (s.act.fans.get f) x := by
  rw [← hx]
  exact if_neg (by rw [h]; simp)

/-- A reading that neither faults the fan nor advances its good timer writes the fan's record, and nothing else. -/
theorem State.tach_records {s : State} {f : Fan} {rpm : Nat} {x : FanRecord} (hx : (s.act.fans.get f).read f rpm (s.supervised f) = x)
    (h : faultReading (s.act.fans.get f) f rpm (s.supervised f) = false) (hg : x.good ≤ (s.act.fans.get f).good) :
    s.tach f rpm = s.fanRead f x := by
  rw [State.tach_stands hx h]
  exact State.fanGood_unreported ⟨fun _ k => by simp [goodReaches_of_le hg] at k, fun _ => goodReaches_of_le hg⟩

section driven
variable {s : State} {f : Fan} {rpm : Nat}

theorem State.tach_spinUp (h : (s.act.fans.get f).spinUp < 5) : s.tach f rpm
    = s.fanRead f { s.act.fans.get f with tach := rpm, spinUp := (s.act.fans.get f).spinUp + 1 } := by
  refine State.tach_records (FanRecord.read_spinUp f rpm _ h) ?_ (Nat.le_refl _)
  exact Bool.eq_false_iff.mpr fun k => by have := ((faultReading_iff ..).mp k).1; omega

theorem State.tach_unsupervised (h : 5 ≤ (s.act.fans.get f).spinUp) (hw : s.supervised f = false) :
    s.tach f rpm = s.fanRead f { s.act.fans.get f with tach := rpm } := by
  refine State.tach_records (by rw [hw]; exact FanRecord.read_unwatched f rpm h) ?_ (Nat.le_refl _)
  rw [hw]
  exact Bool.eq_false_iff.mpr fun k => by simp [faultReading_iff] at k

theorem State.supervised_spunUp (hw : s.supervised f = true) : 5 ≤ (s.act.fans.get f).spinUp := ((s.supervised_iff f).mp hw).1

theorem State.tach_low (hw : s.supervised f = true) (hlow : lowReading f (s.act.fans.get f).duty rpm = true)
    (hn : (s.act.fans.get f).low < 9) : s.tach f rpm
      = s.fanRead f { s.act.fans.get f with tach := rpm, low := (s.act.fans.get f).low + 1, good := 0 } := by
  refine State.tach_records ?_ ?_ (Nat.zero_le _)
  · rw [hw, FanRecord.read_low (State.supervised_spunUp hw) hlow, if_neg (by omega)]
  · exact Bool.eq_false_iff.mpr fun k => by have := ((faultReading_iff ..).mp k).2.2.2; omega

/-- The tenth consecutive low reading returns the low count to 0 and makes the fan fault. -/
theorem State.tach_tenthLow (hw : s.supervised f = true) (hlow : lowReading f (s.act.fans.get f).duty rpm = true)
    (hn : (s.act.fans.get f).low = 9) : s.tach f rpm
      = (s.fanRead f { s.act.fans.get f with tach := rpm, low := 0, good := 0 }).fanFaults f := by
  have h5 := State.supervised_spunUp hw
  refine State.tach_faults ?_ ((faultReading_iff ..).mpr ⟨h5, hw, hlow, by omega⟩)
  rw [hw, FanRecord.read_low h5 hlow, if_pos (by omega)]

/-- The fan's record after a good reading. -/
def FanRecord.goodRead (r : FanRecord) (rpm : Nat) : FanRecord :=
  { r with tach := rpm, low := 0, good := if r.good < 300 then r.good + 1 else r.good }

theorem FanRecord.goodRead_reaches (r : FanRecord) (rpm : Nat) {n : Nat} (hn : n ≤ 300) :
    goodReaches n r (r.goodRead rpm) = decide (r.good + 1 = n) := goodReaches_next hn rfl

theorem State.tach_good (hw : s.supervised f = true) (hlow : lowReading f (s.act.fans.get f).duty rpm = false) : s.tach f rpm
    = (s.fanRead f ((s.act.fans.get f).goodRead rpm)).fanGood f (s.act.fans.get f) ((s.act.fans.get f).goodRead rpm) := by
  refine State.tach_stands ?_ ?_
  · rw [hw]
    exact FanRecord.read_good (State.supervised_spunUp hw) hlow
  · exact Bool.eq_false_iff.mpr fun k => by simp [faultReading_iff, hlow] at k

end driven

theorem exec_tachReading_driven {s : State} {f : Fan} (rpm : Word16) (h : 0 < (s.act.fans.get f).duty) :
    exec (.tachReading f rpm) s = s.finish (s.tach f rpm.toNat) := if_pos h

end Sys2Proof.Machine

namespace Sys2Proof

open Sys2Proof.Machine

/-- Settles O30: each clause is the reading's case of the fan's record, and the report that the case makes. -/
theorem tachReadingsSuperviseTheFans : Obligations.TachReadingsSuperviseTheFans := by
  intro s f rpm r supervised full low read after failing
  have hwatch : supervised ↔ s.supervised f = true := (s.supervised_iff f).symm
  have hlowIff : low ↔ lowReading f r.duty rpm.toNat = true := by
    rw [lowReading_iff]
    cases f <;> exact Iff.rfl
  have hgoodIff : ¬ low ↔ lowReading f r.duty rpm.toNat = false := by rw [hlowIff, Bool.not_eq_true]
  have same {t u : State} (ht : t = u) (hc : u.cyc = s.cyc) : s.finish t = .next u.settle := by
    rw [ht]
    exact State.finish_same (by rw [hc]) (by rw [hc])
  refine ⟨fun h0 => if_neg (by simp [show (s.act.fans.get f).duty = 0 from h0]), fun hd => ?_⟩
  rw [exec_tachReading_driven rpm hd]
  refine ⟨fun h => same (State.tach_spinUp h) rfl, fun h hw => ?_, fun hw hl hn => ?_, fun hw hl hc he => ?_, fun p hp hw hl hn => ?_,
    fun p hp hw hl hn => ?_, fun hf hw hl hn => ?_, fun hf hw hl hn hr => ?_⟩
  · exact same (State.tach_unsupervised h (Bool.eq_false_iff.mpr (mt hwatch.mpr hw))) rfl
  · exact same (State.tach_low (hwatch.mp hw) (hlowIff.mp hl) hn) rfl
  · refine same ((State.tach_good (hwatch.mp hw) (hgoodIff.mp hl)).trans (State.fanGood_unreported ⟨fun hf => ?_, fun hf => ?_⟩)) rfl
    · rw [FanRecord.goodRead_reaches _ _ (by omega), decide_eq_true_iff]
      exact fun k => hc hf ⟨k.1, Nat.succ.inj k.2⟩
    · rw [FanRecord.goodRead_reaches _ _ (by omega), decide_eq_false_iff_not]
      exact fun k => he hf (Nat.succ.inj k)
  · subst hp
    refine same ((State.tach_good (hwatch.mp hw) (hgoodIff.mp hl)).trans (State.fanGood_path _ p ?_)) rfl
    exact (FanRecord.goodRead_reaches _ _ (by omega)).trans (decide_eq_true (congrArg (· + 1) hn))
  · subst hp
    rw [State.tach_tenthLow (hwatch.mp hw) (hlowIff.mp hl) hn, State.fanFaults_path]
    rfl
  · subst hf
    rw [State.tach_tenthLow (hwatch.mp hw) (hlowIff.mp hl) hn]
    rfl
  · subst hf
    refine congrArg s.finish ((State.tach_good (hwatch.mp hw) (hgoodIff.mp hl)).trans (State.fanGood_condenser hr ?_))
    exact (FanRecord.goodRead_reaches _ _ (by omega)).trans (decide_eq_true (congrArg (· + 1) hn))

end Sys2Proof
end

section
/-!
Service hold (R77, R104, R110, R114 to R117, R121, R123, R145): what its entry leaves of the arbiter, the cycle controller and the manager,
the outputs under the forced values at rest, and its two ends.
-/
namespace Sys2Proof.Machine

/-! ## The arbiter under the hold (R66, R77) -/

theorem State.mayStart_held {s : State} (h : s.act.forced ≠ none) : s.mayStart = false := by
  have hon : s.serviceHold = true := Option.isSome_iff_ne_none.mpr h
  simp [State.mayStart, hon]

/-- Under the hold and with no turn the arbiter's checks order nothing. -/
theorem State.arbiterCheck_held {s : State} (h : s.act.forced ≠ none) (ht : s.arb.turnPath = none) : s.arbiterCheck = s := by
  unfold State.arbiterCheck
  rw [State.startCheck_barred (State.mayStart_held h), State.candidateCheck_none (.inr (.inl ht)), ite_self]

/-- The end of a program under the hold, with no turn: the block and the compressor hold end, and nothing is ordered. -/
theorem State.programEnded_held {s : State} (h : s.act.forced ≠ none) (ht : s.arb.turnPath = none) (g : Program) :
    s.programEnded g = { s.armedAfter g with
      arb := { s.arb with
        paths := s.arb.paths.set g.path { s.arb.paths.get g.path with blocked := false },
        compressorHold := s.arb.compressorHold && !g.compressorOff } } := by
  have hun : (s.armedAfter g).unblock g.path = { s.armedAfter g with
      arb := { s.arb with paths := s.arb.paths.set g.path { s.arb.paths.get g.path with blocked := false } } } :=
    State.arbiterCheck_held h ht
  rw [State.programEnded_eq, hun]
  split
  case isTrue ho =>
    rw [ho, Bool.not_true, Bool.and_false]
    exact State.startCheck_barred (State.mayStart_held h)
  case isFalse ho =>
    rw [Bool.not_eq_true] at ho
    rw [ho, Bool.not_false, Bool.and_true]

/-- The manager's cancellation under the hold, with no turn (R145). -/
theorem State.cancelManager_held {s : State} (h : s.act.forced ≠ none) (ht : s.arb.turnPath = none) :
    ∃ paths hold limited delay window events, s.cancelManager = { s with
      arb := { s.arb with paths := paths, compressorHold := hold },
      act := { s.act with lowerHeater := { s.act.lowerHeater with limited := limited }, fanDelay := delay },
      window := window, mgr := s.cancelled, events := events } := by
  unfold State.cancelManager State.cancelled
  cases hr : s.runningProgram with
  | none => exact ⟨s.arb.paths, s.arb.compressorHold, s.act.lowerHeater.limited, s.act.fanDelay, s.window, s.events, rfl⟩
  | some g =>
    have he := State.programEnded_held (s := s.recordOutcome .cancelled) h ht g
    dsimp only
    rw [he]
    exact ⟨_, _, _, _, _, _, rfl⟩

theorem State.cancelled_outcome {s : State} {i : Nat} (h : s.mgr.inProgram = true) (hi : s.mgr.program = some i) :
    s.cancelled.lastOutcome = some (i, .cancelled, s.now) := by
  have hr : s.runningProgram = some (s.tables.program i) := by
    rw [State.runningProgram, if_pos h, State.programRecord, hi]
    rfl
  simp only [State.cancelled, hr, hi, Option.isSome_some, if_true, Option.map_some]

/-! ## The turn at the entry to the hold (R77) -/

theorem State.arbiterHoldEntry_stands {s : State} (h : s.arb.turnPath = none) : s.arbiterHoldEntry = s := by
  unfold State.arbiterHoldEntry
  rw [h]
  rfl

theorem State.arbiterHoldEntry_stops {s : State} (h : s.arb.turnPath ≠ none) : s.arbiterHoldEntry = s.fronted.handStop :=
  if_pos (Option.isSome_iff_ne_none.mpr h)

theorem State.handStop_arb (s : State) : s.handStop.arb = s.arb.noTurn := State.stopOrder_arb _

/-- A stop handed outside OFF leaves the cycle in STOPPING; a stop already under way keeps its run flag. -/
theorem State.handStop_cyc {s : State} (h : s.cyc.state ≠ .off) :
    s.handStop.cyc.state = .stopping ∧ s.handStop.cyc.runFlag = if s.cyc.state = .stopping then s.cyc.runFlag else false := by
  unfold State.handStop
  by_cases hs : s.cyc.state = .stopping
  · rw [State.stopOrder_rest (s := { s with arb := s.arb.noTurn }) (.inr hs), if_pos hs]
    exact ⟨hs, rfl⟩
  · rw [State.stopOrder_stops (s := { s with arb := s.arb.noTurn }) h hs, if_neg hs]
    exact ⟨rfl, rfl⟩

/-- The arbiter has no turn under the hold; a current one has been given up and stopped (R77). -/
structure TurnHeld (s t : State) : Prop where
  noTurn : t.arb.turnPath = none
  front : s.arb.turnPath ≠ none →
    t.arb.queue = s.arb.served.map (fun e => { e with time := s.now }) ++ s.arb.queue ∧ t.arb.served = []
  stops : s.arb.turnPath ≠ none → s.cyc.state ≠ .off →
    t.cyc.state = .stopping ∧ t.cyc.runFlag = if s.cyc.state = .stopping then s.cyc.runFlag else false
  stands : s.arb.turnPath = none → t.arb.queue = s.arb.queue ∧ t.cyc = s.cyc

theorem State.arbiterHoldEntry_held (s : State) : TurnHeld s s.arbiterHoldEntry := by
  by_cases ht : s.arb.turnPath = none
  · rw [State.arbiterHoldEntry_stands ht]
    exact { noTurn := ht, front := (absurd ht ·), stops := (absurd ht ·), stands := fun _ => ⟨rfl, rfl⟩ }
  · rw [State.arbiterHoldEntry_stops ht]
    have harb := s.fronted.handStop_arb
    exact
      { noTurn := by rw [harb]; rfl
        front := fun _ => by rw [harb]; exact ⟨rfl, rfl⟩
        stops := fun _ => State.handStop_cyc (s := s.fronted)
        stands := (absurd · ht) }

/-! ## The entry to the hold (R121) -/

/-- What the entry to the hold leaves but for the outputs that follow the forced values. -/
structure HoldBegun (s t : State) : Prop where
  forced : t.act.forced = some Forced.rest
  afterRun : t.act.afterRun = none
  valve : t.act.valve = .standing .upper ∨ ∃ d n, t.act.valve = .moving .upper d n
  mgr : t.mgr = s.cancelled
  turn : TurnHeld s t
  others : t.acct = s.acct ∧ t.zones = s.zones ∧ t.doors = s.doors ∧ t.tables = s.tables ∧ t.cap = s.cap ∧ t.link = s.link

theorem Valve.request_toward (v : Valve) (p : Path) : v.request p = .standing p ∨ ∃ d n, v.request p = .moving p d n := by
  unfold Valve.request
  split
  case h_1 q =>
    split
    case isTrue h => exact .inl (by rw [h])
    case isFalse => exact .inr ⟨_, _, rfl⟩
  case h_2 q d n =>
    split
    case isTrue h => exact .inr ⟨d, n, by rw [h]⟩
    case isFalse => exact .inr ⟨_, _, rfl⟩

theorem TurnOnly.cancelled {s t : State} (h : TurnOnly s t) : t.cancelled = s.cancelled := by
  obtain ⟨_, _, _, _, _, _, _, rfl⟩ := h
  rfl

theorem State.enterHold_begun (s : State) : HoldBegun s s.enterHold := by
  let u : State := { s with act := { s.act with forced := some Forced.rest, afterRun := none } }
  have hturn : TurnOnly u u.arbiterHoldEntry := u.arbiterHoldEntry_turn
  obtain ⟨noTurn, front, stops, stands⟩ := u.arbiterHoldEntry_held
  have hforced : u.arbiterHoldEntry.act.forced = some Forced.rest := hturn.forced
  obtain ⟨paths, hold, limited, delay, window, events, heq⟩ := State.cancelManager_held (by rw [hforced]; simp) noTurn
  have hbegun : s.enterHold = { { u.arbiterHoldEntry.cancelManager with
      act := { u.arbiterHoldEntry.cancelManager.act with afterRun := none } } with
      act := { u.arbiterHoldEntry.cancelManager.act with
        afterRun := none, valve := u.arbiterHoldEntry.cancelManager.act.valve.request .upper } } := rfl
  rw [hbegun, heq]
  exact
    { forced := hforced
      afterRun := rfl
      valve := Valve.request_toward _ _
      mgr := hturn.cancelled
      turn := ⟨noTurn, front, stops, stands⟩
      others := ⟨hturn.acct, hturn.zones, hturn.doors, hturn.tables, hturn.cap, hturn.link⟩ }

theorem HoldBegun.respond {s t : State} (h : HoldBegun s t) (p : Port) (x : Response) : HoldBegun s (t.respond p x) := by
  obtain ⟨n, hn⟩ := t.respond_act p x
  exact
    { forced := by rw [hn]; exact h.forced
      afterRun := by rw [hn]; exact h.afterRun
      valve := by rw [hn]; exact h.valve
      mgr := h.mgr
      turn := ⟨h.turn.noTurn, h.turn.front, h.turn.stops, h.turn.stands⟩
      others := h.others }

/-- The response registers have no part in the entry. -/
theorem HoldBegun.of_ports {s t : State} {q : Ports} (h : HoldBegun { s with ports := q } t) : HoldBegun s t :=
  { forced := h.forced, afterRun := h.afterRun, valve := h.valve, mgr := h.mgr,
    turn := ⟨h.turn.noTurn, h.turn.front, h.turn.stops, h.turn.stands⟩, others := h.others }

theorem HoldBegun.settle {s t : State} (h : HoldBegun s t) : HoldBegun s t.settle :=
  { forced := h.forced, afterRun := h.afterRun, valve := h.valve, mgr := h.mgr,
    turn := ⟨h.turn.noTurn, h.turn.front, h.turn.stops, h.turn.stands⟩, others := h.others }

/-! ## The outputs under the forced values at rest (R104, R114, R117, R121) -/

section rest
variable {s : State} (h : s.act.forced = some Forced.rest)
include h

theorem State.settle_upperFan_rest : s.settle.act.fans.upper.duty = 0 := by
  have hd : s.upperDuty = 0 := by rw [State.upperDuty, h]; rfl
  exact (FanRecord.drive_duty _ _).trans hd

theorem State.settle_lowerFan_rest : s.settle.act.fans.lower.duty = 0 := by
  have hd : s.lowerDuty = 0 := by rw [State.lowerDuty, h]; rfl
  exact (FanRecord.drive_duty _ _).trans hd

theorem State.settle_heater_rest : s.settle.act.lowerHeater.output = false := by
  have hr : s.lowerHeaterRequest = false := by rw [State.lowerHeaterRequest, h]; rfl
  show (s.lowerHeaterRequest && !s.interlocked && !s.act.lowerHeater.limited) = false
  rw [hr]
  rfl

theorem State.settle_damper_rest (d : Damper) : (s.settle.act.dampers.get d).target = 0 := by
  have hd : s.damperOpen d = false := by
    unfold State.damperOpen
    rw [h]
    cases d <;> rfl
  rw [State.settle_damper, DamperRecord.aim_target, hd]
  rfl

end rest

end Sys2Proof.Machine

namespace Sys2Proof

open Sys2Proof.Machine

/-- Settles O33: the entry by what it leaves of each part, and each end by what the end of the hold leaves. -/
theorem serviceHoldBeginsAndEnds : Obligations.ServiceHoldBeginsAndEnds := by
  refine ⟨fun s e p f q h h1 => ⟨fun hf => ?_, fun hf => ?_⟩, fun s => ⟨fun g hf ht => ?_, fun e p f q h => ⟨fun h0 hf => ?_, fun h2 => ?_,
    fun g h0 hf => ?_⟩⟩⟩
  · have hrule : ruleServiceHoldOn { s with ports := q } p f = .ok { s with ports := q } := if_pos (Option.isSome_iff_ne_none.mpr hf)
    rw [h.holdOn h1 hrule]
    exact State.finish_same rfl rfl
  · have hrule : ruleServiceHoldOn { s with ports := q } p f = .ok (State.enterHold { s with ports := q }) :=
      if_neg fun k => Option.isSome_iff_ne_none.mp k hf
    let x : Response := { status := .ok, echo := 0x32, data := [] }
    let t : State := (State.enterHold { s with ports := q }).respond p x
    have hbegun : HoldBegun s t := ((State.enterHold_begun { s with ports := q }).respond p x).of_ports
    have hend := hbegun.settle
    have hidle : t.mgr.state ≠ .due := by rw [hbegun.mgr]; simp [State.cancelled]
    obtain ⟨hacct, hzones, hdoors, htables, hcap, hlink⟩ := hend.others
    refine ⟨t.settle, (h.holdOn h1 hrule).trans (State.finish_idle hidle), State.respond_answer _ p x, hend.forced, hend.afterRun,
      hend.valve, State.settle_upperFan_rest hbegun.forced, State.settle_lowerFan_rest hbegun.forced,
      State.settle_heater_rest hbegun.forced, State.settle_damper_rest hbegun.forced, ?_, ?_, ?_, hacct, hend.turn.noTurn,
      hend.turn.front, hend.turn.stops, hend.turn.stands, fun i hin hi => ?_, hzones, hdoors, htables, hcap, hlink⟩
    · rw [hend.mgr]; rfl
    · rw [hend.mgr]; rfl
    · rw [hend.mgr]; rfl
    · rw [hend.mgr]; exact State.cancelled_outcome hin hi
  · have hover : HoldOver s (s.endHold.raise .serviceHoldEnd) := s.endHold_holdOver.after ⟨rfl, rfl, fun _ => rfl⟩
    obtain ⟨hforced, hlimited, hstops⟩ := (hover.after (State.handOver_holdEnded s _)).settle
    refine ⟨_, State.event_due (State.holdTimeout_due (by simp [hf]) ht) fun t => t.endHold.raise .serviceHoldEnd, hforced, hlimited,
      fun p => ?_, hstops⟩
    refine (State.handOver_reacts s _).grow.keeps p _ ?_
    rw [State.raise_holds, decide_eq_true rfl, Bool.or_true]
  · have hrule : ruleServiceHoldOff { s with ports := q } p f = .refuse { s with ports := q } .notRunning := by
      have hoff : State.serviceHold { s with ports := q } = false := by simp [State.serviceHold, hf]
      unfold ruleServiceHoldOff
      rw [if_neg (by simp [h0]), if_neg (by simp [hoff])]
    rw [h.holdOff (by omega) hrule]
    exact State.finish_same rfl rfl
  · have hrule : ruleServiceHoldOff { s with ports := q } p f = .refuse { s with ports := q } .badArgument := if_pos (by omega)
    rw [h.holdOff (by omega) hrule]
    exact State.finish_same rfl rfl
  · have hover : HoldOver s (State.endHold { s with ports := q }) := by
      obtain ⟨hforced, hlimited, hstops⟩ := State.endHold_holdOver { s with ports := q }
      exact ⟨hforced, hlimited, hstops⟩
    obtain ⟨hforced, hlimited, hstops⟩ :=
      ((hover.after (State.respond_holdEnded _ p _)).after (State.handOver_holdEnded s _)).settle
    exact ⟨_, h.holdEnds h0 (by simp [hf]), hforced, hlimited, State.ended_answer s _ p _, hstops⟩

end Sys2Proof
end

section
/-!
The path wait of a due defrost (R74, R131 to R133): the manager's reaction to a hand-over, the begin test, and the release that the manager
asks for once the wait has run its time.
-/
namespace Sys2Proof.Machine

theorem CycleRecord.currentOn_iff (c : CycleRecord) (p : Path) : c.currentOn p = true
    ↔ (c.state = .starting ∨ c.state = .running ∨ c.state = .transfer) ∧ c.path = some p := by
  simp [CycleRecord.currentOn, or_assoc]

/-! ## The path wait -/

/-- Program `i` is due, and its path wait began at `w` (R131). -/
def State.Waits (s : State) (i w : Nat) : Prop := s.mgr.state = .due ∧ s.mgr.program = some i ∧ s.mgr.waitStart = some w

/-- Outside the path wait the manager takes no hand-over and makes no begin test. -/
theorem State.outside_wait {s : State} (h : s.mgr.state ≠ .due ∨ s.mgr.waitStart = none) : s.managerReact = s ∧ s.beginTest = s := by
  rcases h with hs | hw
  · exact ⟨State.managerReact_idle hs, State.beginTest_idle hs⟩
  · unfold State.managerReact State.beginTest
    rw [hw]
    cases s.mgr.state <;> exact ⟨rfl, rfl⟩

section waits
variable {s : State} {i w : Nat} (h : s.Waits i w)
include h

theorem State.Waits.programRecord : s.programRecord = some (s.tables.program i) := by
  obtain ⟨-, hi, -⟩ := h
  rw [State.programRecord, hi]
  rfl

theorem State.Waits.beginTest : s.beginTest
    = if s.beginCondition (s.tables.program i).path then s.beginProgram (s.tables.program i) else s := by
  have hg := h.programRecord
  obtain ⟨hs, -, hw⟩ := h
  unfold State.beginTest
  rw [hs, hw, hg]

theorem State.Waits.beginTest_stays (hb : s.beginCondition (s.tables.program i).path = false) : s.beginTest = s := by
  rw [h.beginTest, hb]
  rfl

theorem State.Waits.beginTest_begins (hb : s.beginCondition (s.tables.program i).path = true) :
    s.beginTest = s.beginProgram (s.tables.program i) := by
  rw [h.beginTest, if_pos hb]

theorem State.Waits.managerReact : s.managerReact
    = if w + 1800 ≤ s.now ∧ s.cyc.currentOn (s.tables.program i).path = true
      then (s.askRelease (s.tables.program i).path).beginTest else s.beginTest := by
  have hg := h.programRecord
  obtain ⟨hs, -, hw⟩ := h
  unfold State.managerReact
  rw [hs, hw, hg]

theorem State.Waits.pathWaitDue_iff : s.due .pathWaitExpiry = true
    ↔ w + 1800 ≤ s.now ∧ s.cyc.currentOn (s.tables.program i).path = true := by
  have hg := h.programRecord
  obtain ⟨hs, -, hw⟩ := h
  show s.pathWaitDue = true ↔ _
  unfold State.pathWaitDue
  rw [hs, hw, hg]
  simp only [Bool.and_eq_true, decide_eq_true_iff]

theorem State.Waits.pathWaitOver : s.pathWaitOver = (s.askRelease (s.tables.program i).path).beginTest := by
  unfold State.pathWaitOver
  rw [h.programRecord]

/-- In STOPPING a due program waits on: neither the reaction nor the begin test does anything. -/
theorem State.Waits.stopping (hs : s.cyc.state = .stopping) : s.beginTest = s ∧ s.managerReact = s := by
  have hno (p : Path) : s.cyc.currentOn p = false := by simp [CycleRecord.currentOn, hs]
  have htest : s.beginTest = s := h.beginTest_stays (by simp [State.beginCondition, hs, hno])
  refine ⟨htest, ?_⟩
  rw [h.managerReact, if_neg (by simp [hno]), htest]

end waits

/-- In TRANSFER toward the other path a due program may begin, unless the valve moves toward its own (R132). -/
theorem State.beginCondition_transfer {s : State} {p : Path} (hs : s.cyc.state = .transfer) (hp : s.cyc.path = some p.other)
    (hv : s.act.valve.movingToward p = false) : s.beginCondition p = true := by
  have hc : s.cyc.currentOn p.other = true := (CycleRecord.currentOn_iff _ _).mpr ⟨.inr (.inr hs), hp⟩
  rw [State.beginCondition, hc, hv, Bool.or_true]
  rfl

/-- A valve sent to the other path does not move toward this one. -/
theorem Valve.request_other (v : Valve) (p : Path) : (v.request p.other).movingToward p = false := by
  rcases Valve.request_toward v p.other with h | ⟨d, n, h⟩
  · rw [h]
    rfl
  · rw [h]
    exact decide_eq_false (by cases p <;> simp [Path.other])

/-! ## The release at the end of the wait (R74, R131) -/

/-- The manager has asked for the release of its path (R131). -/
def State.asked (s : State) : State := { s with mgr := { s.mgr with releaseAsked := true } }

section release
variable {s : State} {i w : Nat} (h : s.Waits i w)
include h

theorem State.Waits.expires (hw : w + 1800 ≤ s.now) (hc : s.cyc.currentOn (s.tables.program i).path = true) :
    exec .pathWaitExpiry s = s.finish (s.asked.release (s.tables.program i).path).beginTest :=
  (State.event_due (h.pathWaitDue_iff.mpr ⟨hw, hc⟩) State.pathWaitOver).trans (congrArg s.finish h.pathWaitOver)

/-- The release that stops the turn leaves the program due, and asked for (R74). -/
theorem State.Waits.release_stops {p : Path} (ht : s.arb.turnPath = some p) (hu : s.cyc.state.underWay)
    (hn : s.cyc.state = .starting ∨ s.fronted.arb.oldestCandidate = none) :
    s.finish (s.asked.release p).beginTest = .next (s.asked.fronted.handStop).settle := by
  have hrelease : s.asked.release p = s.asked.fronted.handStop := by
    refine (State.release_current (s := s.asked) ht).trans (State.giveUp_stops fun k => hn.resolve_left fun hs => ?_)
    have hk : s.cyc.state = .running ∨ s.cyc.state = .transfer := k
    simp [hs] at hk
  have heq := State.handStop_stops (s := s.asked.fronted) hu
  have hwaits : State.Waits s.asked.fronted.handStop i w := by rw [heq]; exact h
  obtain ⟨htest, hreact⟩ := hwaits.stopping (by rw [heq]; rfl)
  rw [hrelease, htest, State.finish_eq, State.handOver, hreact, ite_self]

/-- The release that transfers the turn lets the program begin at once (R74, R132). -/
theorem State.Waits.release_transfers (ht : s.arb.turnPath = some (s.tables.program i).path) {e : Entry}
    (hs : s.cyc.state = .running ∨ s.cyc.state = .transfer) (he : s.fronted.arb.oldestCandidate = some e) :
    s.finish (s.asked.release (s.tables.program i).path).beginTest
      = .next (State.beginProgram (s.asked.fronted.handTransfer (s.tables.program i).path.other) (s.tables.program i)).settle := by
  have hrelease : s.asked.release (s.tables.program i).path = s.asked.fronted.handTransfer (s.tables.program i).path.other :=
    (State.release_current (s := s.asked) ht).trans (State.giveUp_transfers (s := s.asked) ht hs he)
  have heq := State.handTransfer_eq s.asked.fronted (s.tables.program i).path.other
  have hwaits : State.Waits (s.asked.fronted.handTransfer (s.tables.program i).path.other) i w := by rw [heq]; exact h
  have htables : (s.asked.fronted.handTransfer (s.tables.program i).path.other).tables = s.tables := by rw [heq]; rfl
  have hcond : (s.asked.fronted.handTransfer (s.tables.program i).path.other).beginCondition (s.tables.program i).path = true := by
    rw [heq]
    exact State.beginCondition_transfer rfl rfl (Valve.request_other _ _)
  have hbegins := hwaits.beginTest_begins (by rw [htables]; exact hcond)
  rw [htables] at hbegins
  rw [hrelease, hbegins]
  exact State.finish_idle (by rw [State.beginProgram_eq]; simp)

end release

/-- The begin of a program, with the actuator block by the program's path (R133). -/
theorem State.beginProgram_act (s : State) (g : Program) : s.beginProgram g = { s with
    mgr := { s.mgr with
      state := .running, runMeasurement := none, dueMoment := none, waitStart := none, releaseAsked := false,
      deferralEnd := if s.mgr.kind = some .automatic then none else s.mgr.deferralEnd,
      step := some g.head, stepTimer := some 0 },
    arb := { s.arb with
      paths := s.arb.paths.set g.path { s.arb.paths.get g.path with blocked := true },
      compressorHold := s.arb.compressorHold || g.compressorOff },
    act := if g.path = .upper then { s.act with afterRun := none } else s.act,
    window := if g.path = .lower then .running else s.window,
    events := s.events.map (·.add .defrostBegin) } := by
  rw [State.beginProgram_eq]
  cases g.path <;> rfl

end Sys2Proof.Machine

namespace Sys2Proof

open Sys2Proof.Machine

/-- Settles O36: the manager's reaction by its cases, and the expiry by what the release does to the turn. -/
theorem dueProgramsWaitForTheirPath : Obligations.DueProgramsWaitForTheirPath := by
  refine ⟨fun s u i w => ?_, fun s i w hs hi hw hlate => ?_⟩
  · intro g waits current asked
    have hcur : current ↔ u.cyc.currentOn g.path = true := (u.cyc.currentOn_iff g.path).symm
    refine ⟨?_, State.outside_wait, fun h hno => ?_, fun h hl hc => ?_, fun h hb => ?_, fun h hb => ?_⟩
    · have hsame : cycleHanded s u = true ↔ ¬ (s.cyc.state = u.cyc.state ∧ s.cyc.path = u.cyc.path) := by
        simp only [cycleHanded, Bool.or_eq_true, decide_eq_true_iff, not_and_or]
      rw [State.finish_eq, State.handOver]
      simp only [hsame, ite_not]
    · rw [State.Waits.managerReact h, if_neg]
      rintro ⟨hl, hc⟩
      exact hno.elim (fun k => by omega) (absurd (hcur.mpr hc))
    · rw [State.Waits.managerReact h, if_pos ⟨hl, hcur.mp hc⟩]
      rfl
    · exact State.Waits.beginTest_stays h hb
    · rw [State.Waits.beginTest_begins h hb, State.beginProgram_act]
  · intro p current front
    have h : s.Waits i w := ⟨hs, hi, hw⟩
    have hcur : current ↔ s.cyc.currentOn p = true := (s.cyc.currentOn_iff p).symm
    have hexec (hc : current) : exec .pathWaitExpiry s = s.finish (s.asked.release p).beginTest := h.expires hlate (hcur.mp hc)
    refine ⟨fun hno => ?_, hexec, fun hc ht hn => ?_, fun e hc ht hst he => ?_⟩
    · exact State.event_not (Bool.eq_false_iff.mpr fun k => hno (hcur.mpr (h.pathWaitDue_iff.mp k).2)) State.pathWaitOver
    · refine ⟨_, (hexec hc).trans (h.release_stops ht hc.1 hn), ?_⟩
      rw [State.handStop_stops (s := s.asked.fronted) hc.1]
      exact ⟨rfl, rfl, rfl, rfl⟩
    · refine ⟨_, (hexec hc).trans (h.release_transfers ht hst he), ?_⟩
      rw [State.beginProgram_eq, State.handTransfer_eq]
      refine ⟨rfl, hi, rfl, rfl, rfl, rfl, rfl, ?_, rfl, rfl, fun x => ?_⟩
      · exact congrArg PathRecord.blocked (PerPath.get_set_same _ _ _)
      · exact (State.raise_holds s .defrostBegin .defrostBegin x).trans (by rw [decide_eq_true rfl, Bool.or_true])

end Sys2Proof
end

section
/-!
SUPPORT. The moves of the compressor: what the invariants of the commanded speed, the off time and the lockout read of a state
(`DriveView`), the moves that the rules make on it (`DriveMove`), and the invariants told and kept on it.
-/
namespace Sys2Proof.Machine

/-! ## What the invariants read -/

/-- What the rules on the commanded speed, the off time and the lockout read (R89, R92, R97, R103, R104). -/
structure DriveView where
  state : CycleState
  path : Option Path
  phase : Option StartPhase
  runFlag : Bool
  speed : Nat
  lastStop : Nat
  cap : CapRecord
  forced : Option Forced
  lockout : Option Nat
  now : Nat

def State.drive (s : State) : DriveView :=
  { state := s.cyc.state, path := s.cyc.path, phase := s.cyc.phase, runFlag := s.cyc.runFlag, speed := s.cyc.speed,
    lastStop := s.cyc.lastStop, cap := s.cap, forced := s.act.forced, lockout := s.flt.lockout, now := s.now }

/-- The forced values of a forced run (R104): the run flag is 1 and no path is named. -/
def DriveView.forcedRun (v : DriveView) : Option Forced := if v.runFlag = true ∧ v.path = none then v.forced else none

theorem DriveView.forcedRun_eq_some (v : DriveView) {g : Forced} :
    v.forcedRun = some g ↔ v.runFlag = true ∧ v.path = none ∧ v.forced = some g := by
  unfold DriveView.forcedRun
  split
  case isTrue h => simp [h]
  case isFalse h => simpa using fun hr hp _ => h ⟨hr, hp⟩

theorem DriveView.forcedRun_eq_none (v : DriveView) :
    v.forcedRun = none ↔ ¬ (v.runFlag = true ∧ v.path = none ∧ v.forced ≠ none) := by
  unfold DriveView.forcedRun
  split
  case isTrue h => simp [h]
  case isFalse h => exact ⟨fun _ k => h ⟨k.1, k.2.1⟩, fun _ => rfl⟩

/-- The commanded speed as caps arrive (R93, R104). -/
def DriveView.cappedSpeed (v : DriveView) (c : CapRecord) : Nat :=
  match v.forcedRun with
  | some g => c.bound g.speed / 10 * 10
  | none => if v.runFlag then c.bound v.speed else v.speed

/-- The commanded speed as a cap is lifted (R95, R104). -/
def DriveView.liftedSpeed (v : DriveView) (c : CapRecord) : Nat :=
  match v.forcedRun with
  | some g => c.bound g.speed / 10 * 10
  | none => v.speed

/-- A stop order (R88). -/
def DriveView.halted (v : DriveView) : DriveView :=
  if v.state = .off ∨ v.state = .stopping then v
  else { v with state := .stopping, path := none, phase := none, runFlag := false, speed := 0 }

/-- A power cap lies in its domain (R94). -/
def CapRecord.InDomain (c : CapRecord) : Prop := ∀ p, c.power = some p → 1200 ≤ p.rpm ∧ p.rpm ≤ 4500 ∧ 10 ∣ p.rpm

/-- A nonzero forced speed (R104). -/
def Forced.Runs (g : Forced) : Prop := 1200 ≤ g.speed ∧ g.speed ≤ 4500

/-! ## The moves -/

/-- One move of the compressor. -/
inductive DriveMove (v : DriveView) : DriveView → Prop
  /-- A start, which is barred within 180 s of the last stop (R83, R89). -/
  | starts (p : Path) (hs : v.state = .off) (ht : v.lastStop + 180 ≤ v.now) :
      DriveMove v { v with state := .starting, path := some p, phase := some .valve, runFlag := false, speed := 0 }
  /-- The RUN phase of a start on a path (R84). -/
  | turns (p : Path) (hs : v.state = .starting) (hp : v.path = some p) :
      DriveMove v { v with phase := some .run, runFlag := true, speed := v.cap.bound 2000 }
  /-- A forced run begins (R104). -/
  | forcedOn (g : Forced) (hg : g.Runs) (hs : v.state = .off) (ht : v.lastStop + 180 ≤ v.now) :
      DriveMove v { v with
        state := .starting, path := none, phase := some .run, runFlag := true, speed := v.cap.bound g.speed / 10 * 10,
        forced := some g }
  /-- A forced speed of a compressor that runs (R104). -/
  | forcedTo (g : Forced) (hg : g.Runs) (hr : v.runFlag = true) :
      DriveMove v { v with speed := v.cap.bound g.speed / 10 * 10, forced := some g }
  /-- The end of STARTING or of TRANSFER (R84, R86). -/
  | runs (ph : Option StartPhase) (h : (v.state = .starting ∧ v.phase = some .run) ∨ v.state = .transfer) :
      DriveMove v { v with state := .running, phase := ph }
  /-- A transfer (R86, R87). -/
  | transfers (q : Path) (h : v.state = .running ∨ v.state = .transfer) :
      DriveMove v { v with state := .transfer, path := some q, speed := v.cap.bound 1800 }
  /-- A speed update (R92). -/
  | updates (raw : Int) (hs : v.state = .running) :
      DriveMove v { v with speed := slew v.speed (v.cap.bound (clampInt 1200 4500 raw).toNat / 10 * 10) }
  /-- A stop order, in whatever state; the forced values may change with it (R88, R104). -/
  | halts (f : Option Forced) : DriveMove v { v.halted with forced := f }
  /-- OFF (R88, R99, R102, R107). -/
  | rests (n : Nat) :
      DriveMove v { v with state := .off, path := none, phase := none, runFlag := false, speed := 0, lastStop := n }
  /-- A loss in OFF (R99, R102). -/
  | marks (n : Nat) (hs : v.state = .off) : DriveMove v { v with lastStop := n }
  /-- A cap arrives (R93). -/
  | caps (c : CapRecord) (hc : c.InDomain ∨ c.power = v.cap.power) : DriveMove v { v with cap := c, speed := v.cappedSpeed c }
  /-- A cap is lifted (R95, R96). -/
  | lifts (c : CapRecord) (hp : c.power = none ∨ c.power = v.cap.power) (hc : c.condenser = true → v.cap.condenser = true) :
      DriveMove v { v with cap := c, speed := v.liftedSpeed c }
  /-- Forced values of a run: in its domain, or of the speed that stands (R122). -/
  | forces (g : Forced) (hg : g.Runs ∨ ∃ x, v.forced = some x ∧ g.speed = x.speed) : DriveMove v { v with forced := some g }
  /-- Service hold begins, or ends in TRANSFER (R121, R123). -/
  | holds (f : Option Forced) (h : v.forced = none ∨ v.state = .transfer) : DriveMove v { v with forced := f }
  /-- A lockout (R103). -/
  | locks (l : Option Nat) (h : v.lockout = none) : DriveMove v { v with lockout := l }
  /-- Time (R89). -/
  | waits (n : Nat) (h : v.now ≤ n) : DriveMove v { v with now := n }

/-! ## Speeds under the caps -/

/-- A speed under the condenser cap alone (R93). -/
def CapRecord.cooled (c : CapRecord) (v : Nat) : Nat := if c.condenser then min v 2400 else v

theorem CapRecord.bound_none {c : CapRecord} (h : c.power = none) (v : Nat) : c.bound v = c.cooled v := by
  unfold CapRecord.bound
  rw [h]
  rfl

theorem CapRecord.bound_some {c : CapRecord} {p : PowerCap} (h : c.power = some p) (v : Nat) : c.bound v = min (c.cooled v) p.rpm := by
  unfold CapRecord.bound
  rw [h]
  rfl

theorem CapRecord.cooled_cases (c : CapRecord) (v : Nat) : c.cooled v = v ∨ c.condenser = true ∧ c.cooled v = 2400 := by
  unfold CapRecord.cooled
  split
  case isTrue hc =>
    rcases Nat.le_total v 2400 with h | h
    · exact .inl (Nat.min_eq_left h)
    · exact .inr ⟨hc, Nat.min_eq_right h⟩
  case isFalse => exact .inl rfl

theorem CapRecord.bound_le_cooled (c : CapRecord) (v : Nat) : c.bound v ≤ c.cooled v := by
  cases hp : c.power with
  | none => exact (CapRecord.bound_none hp v).le
  | some p => exact (CapRecord.bound_some hp v).le.trans (Nat.min_le_left _ _)

theorem CapRecord.bound_le (c : CapRecord) (v : Nat) : c.bound v ≤ v := by
  refine (c.bound_le_cooled v).trans ?_
  unfold CapRecord.cooled
  split
  · exact Nat.min_le_left _ _
  · exact le_rfl

theorem CapRecord.bound_le_power {c : CapRecord} {p : PowerCap} (h : c.power = some p) (v : Nat) : c.bound v ≤ p.rpm :=
  (CapRecord.bound_some h v).le.trans (Nat.min_le_right _ _)

theorem CapRecord.bound_le_condenser {c : CapRecord} (h : c.condenser = true) (v : Nat) : c.bound v ≤ 2400 := by
  refine (c.bound_le_cooled v).trans ?_
  rw [CapRecord.cooled, if_pos h]
  exact Nat.min_le_right _ _

/-- The bound is one of the speed and the caps (R92, R93). -/
theorem CapRecord.bound_cases (c : CapRecord) (v : Nat) : c.bound v = v ∨ (∃ p, c.power = some p ∧ c.bound v = p.rpm)
    ∨ c.condenser = true ∧ c.bound v = 2400 := by
  have hb := c.cooled_cases v
  cases hp : c.power with
  | none =>
    rw [CapRecord.bound_none hp]
    exact hb.imp_right .inr
  | some p =>
    rw [CapRecord.bound_some hp]
    rcases Nat.le_total (c.cooled v) p.rpm with h | h
    · rw [Nat.min_eq_left h]
      exact hb.imp_right .inr
    · exact .inr (.inl ⟨p, rfl, Nat.min_eq_right h⟩)

/-- A speed of 1200 rpm or more stays there under caps in their domain. -/
theorem CapRecord.InDomain.le_bound {c : CapRecord} (hc : c.InDomain) {v : Nat} (hv : 1200 ≤ v) : 1200 ≤ c.bound v := by
  rcases c.bound_cases v with h | ⟨p, hp, h⟩ | ⟨-, h⟩
  · rwa [h]
  · rw [h]; exact (hc p hp).1
  · rw [h]; decide

theorem CapRecord.InDomain.dvd_bound {c : CapRecord} (hc : c.InDomain) {v : Nat} (hv : 10 ∣ v) : 10 ∣ c.bound v := by
  rcases c.bound_cases v with h | ⟨p, hp, h⟩ | ⟨-, h⟩
  · rwa [h]
  · rw [h]; exact (hc p hp).2.2
  · rw [h]; decide

theorem CapRecord.admits_bound {c : CapRecord} (hc : c.InDomain) {v : Nat} (hl : 1200 ≤ v) (hu : v ≤ 4500) (hd : 10 ∣ v) :
    c.admits (c.bound v) :=
  ⟨hc.le_bound hl, (c.bound_le v).trans hu, hc.dvd_bound hd, fun _ hp => c.bound_le_power hp v, fun h => c.bound_le_condenser h v⟩

/-- A bounded speed rounded down is admitted: the least cap is a multiple of 10 rpm itself (R92, R104). -/
theorem CapRecord.admits_down {c : CapRecord} (hc : ∀ p, c.power = some p → 1200 ≤ p.rpm) {v : Nat} (hl : 1200 ≤ v) (hu : v ≤ 4500) :
    c.admits (c.bound v / 10 * 10) := by
  have hge : 1200 ≤ c.bound v := by
    rcases c.bound_cases v with h | ⟨p, hp, h⟩ | ⟨-, h⟩
    · rwa [h]
    · rw [h]; exact hc p hp
    · rw [h]; decide
  have hle := c.bound_le v
  refine ⟨by omega, by omega, Nat.dvd_mul_left 10 _, fun p hp => ?_, fun h => ?_⟩
  · have := c.bound_le_power hp v
    omega
  · have := c.bound_le_condenser h v
    omega

/-- A slew toward an admitted target is admitted: it stays between the speed and the target (R92). -/
theorem CapRecord.admits_slew {c : CapRecord} {v t : Nat} (hv : c.admits v) (ht : c.admits t) : c.admits (slew v t) := by
  obtain ⟨hv1, hv2, hvd, hvp, hvc⟩ := hv
  obtain ⟨ht1, ht2, htd, htp, htc⟩ := ht
  unfold slew
  split
  · refine ⟨by omega, by omega, ?_, fun p hp => ?_, fun h => ?_⟩
    · rcases Nat.le_total t (v + 200) with h | h
      · rwa [Nat.min_eq_left h]
      · rw [Nat.min_eq_right h]; omega
    · exact (Nat.min_le_left _ _).trans (htp p hp)
    · exact (Nat.min_le_left _ _).trans (htc h)
  · have hmax : max t (v - 200) ≤ v := by omega
    refine ⟨by omega, by omega, ?_, fun p hp => hmax.trans (hvp p hp), fun h => hmax.trans (hvc h)⟩
    rcases Nat.le_total t (v - 200) with h | h
    · rw [Nat.max_eq_right h]; omega
    · rwa [Nat.max_eq_left h]

theorem CapRecord.admits_lifted {c d : CapRecord} {v : Nat} (hv : c.admits v) (hp : d.power = none ∨ d.power = c.power)
    (hd : d.condenser = true → c.condenser = true) : d.admits v := by
  obtain ⟨h1, h2, h3, hpow, hcon⟩ := hv
  refine ⟨h1, h2, h3, fun p hq => ?_, fun h => hcon (hd h)⟩
  rcases hp with hp | hp
  · rw [hp] at hq; cases hq
  · exact hpow p (hp ▸ hq)

/-! ## The invariants on the view -/

/-- The states in which the run flag is 1 (R97). -/
def DriveView.mustRun (v : DriveView) : Prop := v.state = .running ∨ v.state = .transfer ∨ (v.state = .starting ∧ v.phase = some .run)

/-- The commanded speed in its domain and under every cap (R82, R93, R97, R104). -/
structure DriveView.Bounded (v : DriveView) : Prop where
  flag : v.runFlag = true ↔ v.mustRun
  stopped : v.runFlag = false → v.speed = 0
  running : v.runFlag = true → v.cap.admits v.speed
  caps : v.cap.InDomain
  forced : v.runFlag = true → v.path = none → ∃ g, v.forced = some g ∧ g.Runs
  transfer : v.state = .transfer → v.path.isSome = true

theorem State.speedBounded_iff (s : State) : s.SpeedBounded ↔ s.drive.Bounded :=
  ⟨fun ⟨a, b, c, d, e, f⟩ => ⟨a, b, c, d, e, f⟩, fun ⟨a, b, c, d, e, f⟩ => ⟨a, b, c, d, e, f⟩⟩

/-- No run within 180 s of start-up and of the last stop (R89). -/
def DriveView.OffTimeKept (v : DriveView) : Prop :=
  v.state = .starting ∨ v.state = .running ∨ v.state = .transfer → v.lastStop + 180 ≤ v.now

theorem State.offTimeKept_iff (s : State) : s.OffTimeKept ↔ s.drive.OffTimeKept := Iff.rfl

/-! ## What each move keeps -/

section kept
variable {v : DriveView}

theorem DriveView.Bounded.runFlag_of (hv : v.Bounded) (h : v.mustRun) : v.runFlag = true := hv.flag.mpr h

/-- In OFF and STOPPING the run flag is 0. -/
theorem DriveView.Bounded.flag_rests (hv : v.Bounded) (h : v.state = .off ∨ v.state = .stopping) : v.runFlag = false := by
  rw [Bool.eq_false_iff]
  intro hr
  rcases hv.flag.mp hr with k | k | ⟨k, -⟩ <;> rw [k] at h <;> simp at h

theorem DriveView.Bounded.forcedRun_runs (hv : v.Bounded) {g : Forced} (h : v.forcedRun = some g) : v.runFlag = true ∧ g.Runs := by
  unfold DriveView.forcedRun at h
  split at h
  case isTrue hr =>
    obtain ⟨x, hx, hg⟩ := hv.forced hr.1 hr.2
    rw [hx] at h
    cases h
    exact ⟨hr.1, hg⟩
  case isFalse => cases h

theorem DriveView.Bounded.halted (hv : v.Bounded) (f : Option Forced) : DriveView.Bounded { v.halted with forced := f } := by
  unfold DriveView.halted
  split
  case isTrue h =>
    have hr := hv.flag_rests h
    exact ⟨hv.flag, hv.stopped, hv.running, hv.caps, fun k => absurd (hr.symm.trans k) (by simp), hv.transfer⟩
  case isFalse => exact ⟨by simp [DriveView.mustRun], fun _ => rfl, by simp, hv.caps, by simp, by simp⟩

theorem DriveView.Bounded.capped (hv : v.Bounded) {c : CapRecord} (hc : c.InDomain) :
    DriveView.Bounded { v with cap := c, speed := v.cappedSpeed c } := by
  unfold DriveView.cappedSpeed
  cases hf : v.forcedRun with
  | some g =>
    obtain ⟨hr, hg⟩ := hv.forcedRun_runs hf
    exact ⟨hv.flag, fun k => absurd (hr.symm.trans k) (by simp),
      fun _ => CapRecord.admits_down (fun p hp => (hc p hp).1) hg.1 hg.2, hc, hv.forced, hv.transfer⟩
  | none =>
    refine ⟨hv.flag, fun hr => ?_, fun hr => ?_, hc, hv.forced, hv.transfer⟩
    · rw [if_neg (by simpa using hr)]
      exact hv.stopped hr
    · obtain ⟨h1, h2, hd, -⟩ := hv.running hr
      rw [if_pos hr]
      exact CapRecord.admits_bound hc h1 h2 hd

theorem DriveView.Bounded.lifted (hv : v.Bounded) {c : CapRecord} (hp : c.power = none ∨ c.power = v.cap.power)
    (hd : c.condenser = true → v.cap.condenser = true) : DriveView.Bounded { v with cap := c, speed := v.liftedSpeed c } := by
  have hc : c.InDomain := fun p hq => by
    rcases hp with hp | hp
    · rw [hp] at hq; cases hq
    · exact hv.caps p (hp ▸ hq)
  unfold DriveView.liftedSpeed
  cases hf : v.forcedRun with
  | some g =>
    obtain ⟨hr, hg⟩ := hv.forcedRun_runs hf
    exact ⟨hv.flag, fun k => absurd (hr.symm.trans k) (by simp),
      fun _ => CapRecord.admits_down (fun p hp => (hc p hp).1) hg.1 hg.2, hc, hv.forced, hv.transfer⟩
  | none => exact ⟨hv.flag, hv.stopped, fun hr => CapRecord.admits_lifted (hv.running hr) hp hd, hc, hv.forced, hv.transfer⟩

theorem clampInt_speed (raw : Int) : 1200 ≤ (clampInt 1200 4500 raw).toNat ∧ (clampInt 1200 4500 raw).toNat ≤ 4500 := by
  obtain ⟨hl, hu⟩ := clampInt_range (lo := 1200) (hi := 4500) (by decide) raw
  omega

theorem DriveMove.bounded {w : DriveView} (h : DriveMove v w) (hv : v.Bounded) : w.Bounded := by
  have hcap : ∀ p, v.cap.power = some p → 1200 ≤ p.rpm := fun p hp => (hv.caps p hp).1
  cases h
  case starts => exact ⟨by simp [DriveView.mustRun], fun _ => rfl, by simp, hv.caps, by simp, by simp⟩
  case turns p hs hp =>
    exact ⟨by simp [DriveView.mustRun, hs], by simp, fun _ => CapRecord.admits_bound hv.caps (by decide) (by decide) (by decide), hv.caps,
      fun _ hn => absurd (hp.symm.trans hn) (by simp), fun k => absurd (hs.symm.trans k) (by simp)⟩
  case forcedOn g hg hs ht =>
    exact ⟨by simp [DriveView.mustRun], by simp, fun _ => CapRecord.admits_down hcap hg.1 hg.2, hv.caps,
      fun _ _ => ⟨g, rfl, hg⟩, by simp⟩
  case forcedTo g hg hr =>
    exact ⟨hv.flag, fun k => absurd (hr.symm.trans k) (by simp), fun _ => CapRecord.admits_down hcap hg.1 hg.2, hv.caps,
      fun _ _ => ⟨g, rfl, hg⟩, hv.transfer⟩
  case runs ph h =>
    have hr : v.runFlag = true := hv.runFlag_of (h.elim (fun k => .inr (.inr k)) fun k => .inr (.inl k))
    exact ⟨by simp [DriveView.mustRun, hr], hv.stopped, hv.running, hv.caps, hv.forced, by simp⟩
  case transfers q h =>
    have hr : v.runFlag = true := hv.runFlag_of (h.elim .inl fun k => .inr (.inl k))
    exact ⟨by simp [DriveView.mustRun, hr], fun k => absurd (hr.symm.trans k) (by simp),
      fun _ => CapRecord.admits_bound hv.caps (by decide) (by decide) (by decide), hv.caps, by simp, by simp⟩
  case updates raw hs =>
    have hr : v.runFlag = true := hv.runFlag_of (.inl hs)
    obtain ⟨h1, h2⟩ := clampInt_speed raw
    exact ⟨hv.flag, fun k => absurd (hr.symm.trans k) (by simp),
      fun _ => CapRecord.admits_slew (hv.running hr) (CapRecord.admits_down hcap h1 h2), hv.caps, hv.forced, hv.transfer⟩
  case halts f => exact hv.halted f
  case rests => exact ⟨by simp [DriveView.mustRun], fun _ => rfl, by simp, hv.caps, by simp, by simp⟩
  case marks => exact ⟨hv.flag, hv.stopped, hv.running, hv.caps, hv.forced, hv.transfer⟩
  case caps c hc => exact hv.capped (hc.elim id fun hp p hq => hv.caps p (hp ▸ hq))
  case lifts c hp hc => exact hv.lifted hp hc
  case forces g hg =>
    refine ⟨hv.flag, hv.stopped, hv.running, hv.caps, fun hr hp => ⟨g, rfl, hg.elim id ?_⟩, hv.transfer⟩
    rintro ⟨x, hx, hs⟩
    obtain ⟨y, hy, hk⟩ := hv.forced hr hp
    obtain rfl : x = y := Option.some.inj (hx.symm.trans hy)
    exact ⟨hs ▸ hk.1, hs ▸ hk.2⟩
  case holds f h =>
    refine ⟨hv.flag, hv.stopped, hv.running, hv.caps, fun hr hp => ?_, hv.transfer⟩
    rcases h with h | h
    · obtain ⟨x, hx, -⟩ := hv.forced hr hp
      exact absurd (h.symm.trans hx) (by simp)
    · have hk : v.path.isSome = true := hv.transfer h
      rw [show v.path = none from hp] at hk
      cases hk
  case locks => exact ⟨hv.flag, hv.stopped, hv.running, hv.caps, hv.forced, hv.transfer⟩
  case waits => exact ⟨hv.flag, hv.stopped, hv.running, hv.caps, hv.forced, hv.transfer⟩

theorem DriveMove.offTimeKept {w : DriveView} (h : DriveMove v w) (hv : v.OffTimeKept) : w.OffTimeKept := by
  cases h
  case starts p hs ht => exact fun _ => ht
  case forcedOn g hg hs ht => exact fun _ => ht
  case runs ph h => exact fun _ => hv (h.elim (fun k => .inl k.1) fun k => .inr (.inr k))
  case transfers q h => exact fun _ => hv (.inr h)
  case halts f =>
    unfold DriveView.halted
    split
    · exact hv
    · simp [DriveView.OffTimeKept]
  case rests => simp [DriveView.OffTimeKept]
  case marks n hs => simp [DriveView.OffTimeKept, hs]
  case waits n hn => exact fun h => (hv h).trans hn
  case turns | forcedTo | updates | caps | lifts | forces | holds | locks => exact hv

theorem DriveMove.lockout {w : DriveView} (h : DriveMove v w) (hv : v.lockout ≠ none) : w.lockout = v.lockout := by
  cases h
  case halts =>
    unfold DriveView.halted
    split <;> rfl
  case locks l hl => exact absurd hl hv
  all_goals rfl

end kept

/-! ## Sequences of moves -/

/-- A state follows another by moves of the compressor. -/
def Drives (s t : State) : Prop := Relation.ReflTransGen DriveMove s.drive t.drive

theorem Drives.refl (s : State) : Drives s s := Relation.ReflTransGen.refl

theorem Drives.trans {s t u : State} (h : Drives s t) (k : Drives t u) : Drives s u := Relation.ReflTransGen.trans h k

/-- What the invariants read is as it was. -/
theorem Drives.same {s t : State} (h : t.drive = s.drive) : Drives s t := by
  unfold Drives
  rw [h]

theorem Drives.after {s t u : State} (k : Drives t u) (h : t.drive = s.drive) : Drives s u := (Drives.same h).trans k

theorem Drives.move {s t : State} {w : DriveView} (m : DriveMove s.drive w) (h : t.drive = w) : Drives s t := by
  unfold Drives
  rw [h]
  exact .single m

theorem Drives.ite {s t u : State} (b : Prop) [Decidable b] (h : b → Drives s t) (k : ¬ b → Drives s u) :
    Drives s (if b then t else u) := by
  split
  · exact h ‹_›
  · exact k ‹_›

/-- What every move keeps, a sequence of moves keeps. -/
theorem DriveMove.keeps {P : DriveView → Prop} (hP : ∀ v w, DriveMove v w → P v → P w) {v w : DriveView}
    (h : Relation.ReflTransGen DriveMove v w) (hv : P v) : P w := by
  induction h with
  | refl => exact hv
  | tail _ m ih => exact hP _ _ m ih

theorem Drives.lockout {s t : State} (h : Drives s t) (hs : s.flt.lockout ≠ none) : t.flt.lockout = s.flt.lockout :=
  DriveMove.keeps (P := fun v => v.lockout = s.flt.lockout) (fun _ _ m hv => (m.lockout (by rwa [hv])).trans hv) h rfl

end Sys2Proof.Machine
end

section
/-!
SUPPORT. Every operation of the part as moves of the compressor: the cycle controller's orders, the arbiter's checks, the defrost manager,
losses and faults, service hold and the forced outputs, the command rules, and every command but a restart.
-/
namespace Sys2Proof.Machine

/-! ## The cycle controller's orders -/

theorem DriveView.halted_forced (v : DriveView) (f : Option Forced) :
    DriveView.halted { v with forced := f } = { v.halted with forced := f } := by
  unfold DriveView.halted
  dsimp only
  split <;> rfl

theorem State.stopOrder_drive (s : State) : s.stopOrder.drive = s.drive.halted := by
  unfold DriveView.halted
  by_cases h : s.cyc.state = .off ∨ s.cyc.state = .stopping
  · rw [State.stopOrder_rest h]
    exact (if_pos h).symm
  · obtain ⟨ho, hs⟩ := not_or.mp h
    rw [State.stopOrder_stops ho hs]
    exact (if_neg h).symm

/-- A stop order made as the forced values are replaced (R104, R123). -/
theorem State.stopOrder_drivesWith {s u : State} {f : Option Forced} (h : u.drive = { s.drive with forced := f }) :
    Drives s u.stopOrder :=
  .move (.halts f) (by rw [State.stopOrder_drive, h, DriveView.halted_forced])

theorem State.enterOff_drives (s : State) : Drives s s.enterOff := by
  rw [State.enterOff_eq]
  exact .move (.rests s.cyc.lastStop) rfl

theorem Actuators.onRunning_forced (a : Actuators) (p : Option Path) : (a.onRunning p).forced = a.forced := by
  obtain ⟨ar, fd, h⟩ := a.onRunning_eq p
  rw [h]

theorem State.enterRunningFromStart_drives {s : State} (hs : s.cyc.state = .starting) (hp : s.cyc.phase = some .run) :
    Drives s s.enterRunningFromStart := by
  refine .move (.runs none (.inl ⟨hs, hp⟩)) ?_
  unfold State.enterRunningFromStart State.drive
  dsimp only
  rw [Actuators.onRunning_forced]
  rfl

theorem State.enterRunningFromTransfer_drives {s : State} (hs : s.cyc.state = .transfer) : Drives s s.enterRunningFromTransfer := by
  refine .move (.runs s.cyc.phase (.inr hs)) ?_
  unfold State.enterRunningFromTransfer State.drive
  dsimp only
  rw [Actuators.onRunning_forced]
  rfl

/-- A start that may be made: the VALVE phase, and where the valve stands at the path the RUN phase at once (R83, R84). -/
theorem State.started_drives {s : State} (hm : s.MayStart) (p : Path) : Drives s (s.started p) := by
  obtain ⟨hs, ht, -⟩ := hm
  have hstart : DriveMove s.drive
      { s.drive with state := .starting, path := some p, phase := some .valve, runFlag := false, speed := 0 } := .starts p hs ht
  by_cases hv : s.act.valve = .standing p
  · have hd : (s.started p).drive = { s.drive with
        state := .starting, path := some p, phase := some .run, runFlag := true, speed := s.cap.bound 2000 } := by
      simp [State.started, State.drive, State.now, hv]
    unfold Drives
    rw [hd]
    exact .tail (.single hstart) (.turns p rfl rfl)
  · exact .move hstart (by simp [State.started, State.drive, State.now, hv])

theorem State.applyCaps_forced {s : State} {g : Forced} (h : s.drive.forcedRun = some g) :
    s.applyCaps = { s with cyc := { s.cyc with speed := s.cap.bound g.speed / 10 * 10 } } := by
  obtain ⟨hr, hp, hg⟩ : s.cyc.runFlag = true ∧ s.cyc.path = none ∧ s.act.forced = some g := s.drive.forcedRun_eq_some.mp h
  unfold State.applyCaps
  rw [if_pos hr, hg]
  exact if_pos hp

theorem State.applyCaps_plain {s : State} (h : s.drive.forcedRun = none) : s.applyCaps = { s with
    cyc := if s.cyc.runFlag then
        { s.cyc with speed := s.cap.bound s.cyc.speed, target := s.cyc.target.map s.cap.bound }
      else s.cyc } := by
  have hno : ¬ (s.cyc.runFlag = true ∧ s.cyc.path = none ∧ s.act.forced ≠ none) := s.drive.forcedRun_eq_none.mp h
  unfold State.applyCaps
  by_cases hr : s.cyc.runFlag = true
  · rw [if_pos hr, if_pos hr]
    cases hf : s.act.forced with
    | none => rfl
    | some g => exact if_neg fun hp => hno ⟨hr, hp, by simp [hf]⟩
  · rw [if_neg hr, if_neg hr]

theorem State.capLifted_forced {s : State} {g : Forced} (h : s.drive.forcedRun = some g) :
    s.capLifted = { s with cyc := { s.cyc with speed := s.cap.bound g.speed / 10 * 10 } } := by
  obtain ⟨hr, hp, hg⟩ : s.cyc.runFlag = true ∧ s.cyc.path = none ∧ s.act.forced = some g := s.drive.forcedRun_eq_some.mp h
  unfold State.capLifted
  rw [if_pos hr, hg]
  exact if_pos hp

theorem State.capLifted_plain {s : State} (h : s.drive.forcedRun = none) : s.capLifted = s := by
  have hno : ¬ (s.cyc.runFlag = true ∧ s.cyc.path = none ∧ s.act.forced ≠ none) := s.drive.forcedRun_eq_none.mp h
  unfold State.capLifted
  by_cases hr : s.cyc.runFlag = true
  · rw [if_pos hr]
    cases hf : s.act.forced with
    | none => rfl
    | some g => exact if_neg fun hp => hno ⟨hr, hp, by simp [hf]⟩
  · rw [if_neg hr]

theorem State.applyCaps_drive (s : State) : s.applyCaps.drive = { s.drive with speed := s.drive.cappedSpeed s.cap } := by
  unfold DriveView.cappedSpeed
  cases h : s.drive.forcedRun with
  | some g => rw [State.applyCaps_forced h]; rfl
  | none =>
    rw [State.applyCaps_plain h]
    unfold State.drive State.now
    dsimp only
    split <;> rfl

theorem State.capLifted_drive (s : State) : s.capLifted.drive = { s.drive with speed := s.drive.liftedSpeed s.cap } := by
  unfold DriveView.liftedSpeed
  cases h : s.drive.forcedRun with
  | some g => rw [State.capLifted_forced h]; rfl
  | none => rw [State.capLifted_plain h]

theorem State.applyCaps_drives (s : State) {c : CapRecord} (hc : c.InDomain ∨ c.power = s.cap.power) :
    Drives s (State.applyCaps { s with cap := c }) :=
  .move (.caps c hc) (State.applyCaps_drive _)

theorem State.capLifted_drives (s : State) {c : CapRecord} (hp : c.power = none ∨ c.power = s.cap.power)
    (hc : c.condenser = true → s.cap.condenser = true) : Drives s (State.capLifted { s with cap := c }) :=
  .move (.lifts c hp hc) (State.capLifted_drive _)

theorem State.setCondenserCap_drives (s : State) : Drives s s.setCondenserCap :=
  Drives.ite _ (fun _ => .refl s) fun _ => s.applyCaps_drives (c := { s.cap with condenser := true }) (.inr rfl)

theorem State.clearCondenserCap_drives (s : State) : Drives s s.clearCondenserCap :=
  Drives.ite _ (fun _ => s.capLifted_drives (c := { s.cap with condenser := false }) (.inr rfl) nofun) fun _ => .refl s

/-! ## The arbiter's operations -/

theorem State.handStop_drives (s : State) : Drives s s.handStop := State.stopOrder_drivesWith (f := s.act.forced) rfl

theorem State.handTransfer_drives {s : State} (h : s.cyc.state = .running ∨ s.cyc.state = .transfer) (q : Path) :
    Drives s (s.handTransfer q) := by
  rw [State.handTransfer_eq]
  exact .move (.transfers q h) rfl

theorem State.startCheck_drives (s : State) : Drives s s.startCheck := by
  by_cases hm : s.MayStart
  · cases he : s.arb.noTurn.oldestCandidate with
    | none => rw [State.startCheck_stands (.inr he)]; exact .refl s
    | some e => rw [State.startCheck_starts hm he]; exact State.started_drives hm _
  · rw [State.startCheck_stands (.inl hm)]
    exact .refl s

/-- The arbiter is no part of what the invariants read. -/
theorem Drives.arb (s : State) (a : Arbiter) : Drives s { s with arb := a } := .same rfl

theorem State.candidateCheck_drives (s : State) : Drives s s.candidateCheck := by
  unfold State.candidateCheck
  refine Drives.ite _ (fun hr => ?_) fun _ => .refl s
  split
  · exact .refl s
  · exact Drives.ite _ (fun _ => State.handTransfer_drives (.inl hr.1) _) fun _ =>
      Drives.ite _ (fun _ => (State.handTransfer_drives (s := { s with arb := s.arb.servedToBack s.now }) (.inl hr.1) _).after rfl)
        fun _ => .refl s

theorem State.arbiterCheck_drives (s : State) : Drives s s.arbiterCheck :=
  Drives.ite _ (fun _ => s.startCheck_drives) fun _ => s.candidateCheck_drives

theorem State.servedEmptied_drives {s : State} (h : s.cyc.state = .running) : Drives s s.servedEmptied := by
  unfold State.servedEmptied
  split
  · exact State.handTransfer_drives (.inl h) _
  · exact Drives.ite _ (fun _ => s.handStop_drives) fun _ => .arb s _

theorem State.reportRunning_drives {s : State} (h : s.cyc.state = .running) : Drives s s.reportRunning :=
  Drives.ite _ (fun _ => State.servedEmptied_drives h) fun _ => .refl s

theorem State.join_drives (s : State) (z : Zone) (ps : PathSet) (l : CallLevel) : Drives s (s.join z ps l) := by
  unfold State.join
  extract_lets e rides a
  exact Drives.ite _ (fun _ => .arb s a) fun _ => (Drives.arb s _).trans (State.arbiterCheck_drives _)

theorem State.leave_drives (s : State) (z : Zone) : Drives s (s.leave z) := by
  unfold State.leave
  exact Drives.ite _ (fun h => (Drives.arb s _).trans (State.servedEmptied_drives h.2.2.1)) fun _ => .arb s _

theorem State.demandChanged_drives (s : State) (z : Zone) (b a : Demand) (ps : PathSet) : Drives s (s.demandChanged z b a ps) := by
  unfold State.demandChanged
  split
  · exact .refl s
  · exact s.join_drives _ _ _
  · exact s.leave_drives _
  · exact Drives.ite _ (fun _ => .refl s) fun _ => .arb s _

theorem State.demandEvaluated_drives (s : State) (z : Zone) (b a : Demand) (ps : PathSet) :
    Drives s (s.demandEvaluated z b a ps) := by
  unfold State.demandEvaluated
  split
  · split
    · exact Drives.ite _ (fun _ => s.demandChanged_drives _ _ _ _) fun _ => (s.leave_drives _).trans (State.join_drives _ _ _ _)
    · exact s.demandChanged_drives _ _ _ _
  · exact s.demandChanged_drives _ _ _ _

theorem State.giveUp_drives (s : State) : Drives s s.giveUp := by
  have ht : Drives s s.fronted := .arb s _
  unfold State.giveUp
  refine Drives.ite _ (fun h => ?_) fun _ => ht.trans (State.handStop_drives _)
  split
  · exact ht.trans (State.handTransfer_drives (s := s.fronted) h _)
  · exact ht.trans (State.handStop_drives _)

theorem State.release_drives (s : State) (p : Path) : Drives s (s.release p) :=
  Drives.ite _ (fun _ => s.giveUp_drives) fun _ => .refl s

theorem State.pathFault_drives (s : State) (p : Path) : Drives s (s.pathFault p) :=
  Drives.ite _ (fun _ => (Drives.arb s _).trans (State.giveUp_drives _)) fun _ => .arb s _

theorem State.faultTimerOut_drives (s : State) (p : Path) : Drives s (s.faultTimerOut p) :=
  (Drives.arb s _).trans (State.arbiterCheck_drives _)

theorem State.unblock_drives (s : State) (p : Path) : Drives s (s.unblock p) :=
  (Drives.arb s _).trans (State.arbiterCheck_drives _)

theorem State.endCompressorHold_drives (s : State) : Drives s s.endCompressorHold :=
  (Drives.arb s _).trans (State.startCheck_drives _)

theorem State.arbiterHoldEntry_drives (s : State) : Drives s s.arbiterHoldEntry :=
  Drives.ite _ (fun _ => (Drives.arb s _).trans (State.handStop_drives _)) fun _ => .refl s

theorem State.stopped_drives {s : State} (h : s.cyc.state = .stopping) : Drives s s.stopped := by
  rw [State.stopped_eq h]
  exact .move (.rests s.now) rfl

theorem State.completeTransfer_drives {s : State} (h : s.cyc.state = .transfer) : Drives s s.completeTransfer :=
  (State.enterRunningFromTransfer_drives h).trans (State.reportRunning_drives rfl)

theorem State.turnReport_drives (s : State) : Drives s s.turnReport :=
  (State.candidateCheck_drives _).after rfl

theorem State.onTimeReport_drives (s : State) : Drives s s.onTimeReport :=
  Drives.ite _ (fun _ => Drives.trans (t := s.minimumReported) (.same rfl) (State.handStop_drives _)) fun _ => .same rfl

theorem State.valveReport_drives (s : State) (p : Path) : Drives s (s.valveReport p) :=
  Drives.ite _ (fun h => .move (.turns p h.1 h.2.2) rfl) fun _ =>
    Drives.ite _ (fun h => State.completeTransfer_drives (s.transferDone_iff.mp h).1) fun _ => .refl s

theorem State.cycleReply_drives (s : State) (r : DriveReply) : Drives s (s.cycleReply r) :=
  Drives.ite _ (fun h => (State.enterRunningFromStart_drives h.1 h.2.1).trans (State.reportRunning_drives rfl)) fun _ =>
    Drives.ite _ (fun h => State.stopped_drives h.1) fun _ => .refl s

/-! ## Losses and faults -/

theorem State.lostFans_forced (s : State) : s.lostFans.forced = s.act.forced := by
  unfold State.lostFans
  split <;> rfl

theorem State.lostFaults_lockout (s : State) : s.lostFaults.lockout = s.flt.lockout := by
  unfold State.lostFaults
  split <;> rfl

theorem State.compressorLost_drives (s : State) : Drives s s.compressorLost := by
  have hd : s.compressorLost.drive = { ({ s with cyc := s.lostCycle } : State).drive with
      forced := s.act.forced, lockout := s.flt.lockout } := by
    rw [State.compressorLost_eq]
    simp only [State.drive, State.lostFans_forced, State.lostFaults_lockout, State.now]
  cases hs : s.cyc.state
  case off => exact .move (.marks s.now hs) (by rw [hd, (State.lost_off hs).2.1]; rfl)
  case stopping => exact .move (.rests s.now) (by rw [hd, (State.lost_stopping hs).2.1]; rfl)
  all_goals exact .move (.rests s.now) (by rw [hd, (State.lost_underWay (by simp [hs, CycleState.underWay])).2.1]; rfl)

/-- A lockout that is set stands (R103). -/
theorem DriveFaultRecord.enter_locked {r : DriveFaultRecord} (h : r.lockout ≠ none) (t : Nat) : r.enter t = r :=
  if_pos (Option.isSome_iff_ne_none.mpr h)

theorem State.driveFault_drives (s : State) (cause : DriveFaultCause) (code : Nat) : Drives s (s.driveFault cause code) := by
  have hd : (s.driveFault cause code).drive = { s.compressorLost.drive with lockout := (s.flt.enter s.now).lockout } := by
    rw [State.driveFault_eq, State.compressorLost_eq]
    rfl
  have hl : s.compressorLost.drive.lockout = s.flt.lockout := by
    rw [State.compressorLost_eq]
    exact s.lostFaults_lockout
  refine s.compressorLost_drives.trans ?_
  by_cases h : s.flt.lockout = none
  · exact .move (.locks _ (hl.trans h)) hd
  · exact .same (by rw [hd, DriveFaultRecord.enter_locked h, ← hl])

/-! ## The defrost manager's operations -/

theorem State.beginProgram_drives (s : State) (g : Program) : Drives s (s.beginProgram g) := by
  rw [State.beginProgram_eq]
  exact .same rfl

theorem State.beginTest_drives (s : State) : Drives s s.beginTest := by
  unfold State.beginTest
  split
  · exact Drives.ite _ (fun _ => s.beginProgram_drives _) fun _ => .refl s
  · exact .refl s

theorem State.askRelease_drives (s : State) (p : Path) : Drives s (s.askRelease p) :=
  Drives.trans (t := s.asked) (.same rfl) (State.release_drives _ p)

theorem State.managerReact_drives (s : State) : Drives s s.managerReact := by
  unfold State.managerReact
  split
  · exact Drives.ite _ (fun _ => (s.askRelease_drives _).trans (State.beginTest_drives _)) fun _ => s.beginTest_drives
  · exact .refl s

theorem State.handOver_drives (s t : State) : Drives t (State.handOver s t) :=
  Drives.ite _ (fun _ => t.managerReact_drives) fun _ => .refl t

theorem State.beginWait_drives (s : State) (n : Nat) : Drives s (s.beginWait n) :=
  (State.managerReact_drives _).after rfl

theorem State.dueTest_drives (s : State) : Drives s s.dueTest := by
  have h : Drives s s.enterDue :=
    Drives.ite _ (fun _ => .same rfl) fun _ => (State.beginWait_drives _ _).after rfl
  exact Drives.ite _ (fun _ => h) fun _ => .refl s

theorem State.credit_drives (s : State) (n : Nat) : Drives s (s.credit n) :=
  (State.dueTest_drives _).after rfl

theorem State.programEnded_drives (s : State) (g : Program) : Drives s (s.programEnded g) := by
  unfold State.programEnded
  extract_lets h a s1 b s2 s3
  have h2 : Drives s s2 := by unfold s2; split <;> exact .same rfl
  have h3 : Drives s s3 := h2.trans (s2.unblock_drives g.path)
  exact Drives.ite _ (fun _ => h3.trans (State.endCompressorHold_drives _)) fun _ => h3

theorem State.complete_drives (s : State) (g : Program) : Drives s (s.complete g) := by
  unfold State.complete
  extract_lets s1 s2 s3
  have h2 : Drives s s2 := by unfold s2; split <;> exact .same rfl
  have h3 : Drives s s3 := (h2.trans (s2.programEnded_drives g)).trans (.same rfl)
  exact h3.trans ((State.dueTest_drives _).after rfl)

theorem State.exitEnded_drives (s : State) (g : Program) : Drives s (s.exitEnded g) :=
  Drives.trans (t := s.recordOutcome .aborted) (.same rfl) ((State.programEnded_drives _ g).trans (.same rfl))

theorem State.cancelManager_drives (s : State) : Drives s s.cancelManager := by
  unfold State.cancelManager
  dsimp only
  split
  · exact Drives.trans (t := s.recordOutcome .cancelled) (.same rfl) ((State.programEnded_drives _ _).trans (.same rfl))
  · exact .same rfl

theorem State.noteStepEnd_drives (s : State) (st : Step) (c : EndCause) : Drives s (s.noteStepEnd st c) := by
  rw [State.noteStepEnd_eq]
  exact .same rfl

theorem State.endStep_drives (s : State) (g : Program) (st : Step) (c : EndCause) : Drives s (s.endStep g st c) := by
  have h := s.noteStepEnd_drives st c
  unfold State.endStep
  refine Drives.ite _ (fun _ => h.trans (.same rfl)) fun _ => Drives.ite _ (fun _ => Drives.ite _ (fun _ => ?_) fun _ => ?_)
    fun _ => h.trans (.same rfl)
  · exact h.trans (State.complete_drives _ g)
  · exact h.trans (State.exitEnded_drives _ g)

theorem State.stepReport_drives (s : State) (r : Report) : Drives s (s.stepReport r) := by
  unfold State.stepReport
  split
  · exact Drives.ite _ (fun _ => s.endStep_drives _ _ _) fun _ => .refl s
  · exact .refl s

theorem State.stepEnds_drives (s : State) (c : EndCause) : Drives s (s.stepEnds c) := by
  unfold State.stepEnds
  split
  · exact s.endStep_drives _ _ _
  · exact .refl s

theorem State.heaterLimitToManager_drives (s : State) : Drives s s.heaterLimitToManager := by
  unfold State.heaterLimitToManager
  split <;> exact .same rfl

theorem State.pathWaitOver_drives (s : State) : Drives s s.pathWaitOver := by
  unfold State.pathWaitOver
  split
  · exact (s.askRelease_drives _).trans (State.beginTest_drives _)
  · exact .refl s

theorem State.valveArrives_drives (s : State) : Drives s s.valveArrives := by
  unfold State.valveArrives
  split
  · exact .refl s
  · exact (Drives.trans (t := s.valveAt _) (.same rfl) (State.valveReport_drives _ _)).trans (State.beginTest_drives _)

/-! ## Replies, misses, tach readings -/

theorem State.faultEvent_drives (s : State) (c : DriveFaultCause) (n : Nat) : Drives s (s.faultEvent c n) :=
  Drives.ite _ (fun _ => (s.driveFault_drives c n).trans (State.managerReact_drives _)) fun _ => s.driveFault_drives c n

theorem State.driveReply_drives (s : State) (r : DriveReply) : Drives s (s.driveReply r) := by
  have hn : Drives s (s.noted r) := .same rfl
  have hu (u : State) : Drives u (s.afterRestoration r u) := Drives.ite _ (fun _ => u.startCheck_drives) fun _ => .refl u
  cases h : replyFault s s.link r with
  | none => rw [State.driveReply_plain h]; exact (hn.trans (State.cycleReply_drives _ r)).trans (hu _)
  | some x =>
    obtain ⟨c, n⟩ := x
    rw [State.driveReply_fault h]
    exact (hn.trans (State.faultEvent_drives _ c n)).trans (hu _)

theorem State.driveMissed_drives (s : State) : Drives s s.driveMissed := by
  have hn : Drives s s.missNoted := .same rfl
  have hl : Drives s s.missNoted.driveLoss := (hn.trans (State.compressorLost_drives _)).trans (.same rfl)
  exact Drives.ite _ (fun _ => Drives.ite _ (fun _ => hl.trans (State.managerReact_drives _)) fun _ => hl) fun _ => hn

theorem State.fanFaults_drives (s : State) (f : Fan) : Drives s (s.fanFaults f) := by
  cases f
  · exact Drives.trans (t := s.raise .fanFault) (.same rfl) (State.pathFault_drives _ _)
  · exact Drives.trans (t := s.raise .fanFault) (.same rfl) (State.pathFault_drives _ _)
  · exact (State.setCondenserCap_drives _).after rfl

theorem State.fanGood_drives (s : State) (f : Fan) (x y : FanRecord) : Drives s (s.fanGood f x y) := by
  cases f
  · exact Drives.ite _ (fun _ => .same rfl) fun _ => .refl s
  · exact Drives.ite _ (fun _ => .same rfl) fun _ => .refl s
  · exact Drives.ite _ (fun _ => (State.clearCondenserCap_drives _).after rfl) fun _ => .refl s

theorem State.tach_drives (s : State) (f : Fan) (rpm : Nat) : Drives s (s.tach f rpm) :=
  Drives.ite _ (fun _ => (State.fanFaults_drives _ f).after rfl) fun _ =>
    (State.fanGood_drives _ f _ _).after rfl

/-! ## Sensors, zones, doors, the image store -/

theorem Sensed.drives {s t : State} (h : Sensed s t) : Drives s t := by
  obtain ⟨_, _, _, rfl, ha⟩ := h
  exact .same (by simp only [State.drive, ha, State.now])

theorem StoreOnly.drives {s t : State} (h : StoreOnly s t) : Drives s t := by
  obtain ⟨_, _, _, rfl⟩ := h
  exact .same rfl

theorem SettingsOnly.drives {s t : State} (h : SettingsOnly s t) : Drives s t := by
  obtain ⟨_, _, _, rfl⟩ := h
  exact .same rfl

theorem State.raiseAll_drives (s : State) (ks : List EventKind) : Drives s (s.raiseAll ks) := by
  rw [State.raiseAll_eq]
  exact .same rfl

theorem State.takeReport_drives (s : State) (r : Report) : Drives s (s.takeReport r) := by
  unfold State.takeReport
  split
  · rw [State.evaluateZone_eq]
    exact (Drives.trans (t := s.setZone _ _) (.same rfl) (State.raiseAll_drives _ _)).trans (State.demandEvaluated_drives _ _ _ _ _)
  · exact (s.evaporatorReport_sensed r).drives.trans (State.stepReport_drives _ r)

theorem State.sample_drives (s : State) (ch : Channel) (code : Nat) : Drives s (s.sample ch code) :=
  Drives.trans (t := s.sensed ch code) ((State.raiseAll_drives _ _).after rfl) (State.takeReport_drives _ _)

theorem State.setDemand_drives (s : State) (z : Zone) (d : Demand) : Drives s (s.setDemand z d) :=
  Drives.trans (t := s.setZone z _) (.same rfl) (State.demandChanged_drives _ _ _ _ _)

theorem State.removeBoost_drives (s : State) (z : Zone) : Drives s (s.removeBoost z) :=
  (State.setDemand_drives _ z _).after rfl

theorem State.boost_drives (s : State) (z : Zone) (m : Nat) (p : Port) : Drives s (s.boost z m p) :=
  (State.setDemand_drives _ z _).after rfl

theorem State.changeMode_drives (s : State) (p : Port) (z : Zone) (i : Nat) : Drives s (s.changeMode p z i) :=
  (Drives.trans (t := s.setZone z _) (.same rfl) (State.demandChanged_drives _ _ _ _ _)).trans (.same rfl)

theorem State.doorTurn_drives (s : State) (d : Door) : Drives s (s.doorTurn d) :=
  Drives.ite _ (fun _ => .same rfl) fun _ => .same rfl

theorem State.loadImage_drives (s : State) (header body : List Byte) : Drives s (s.loadImage header body) := by
  unfold State.loadImage
  split <;> exact .same rfl

theorem State.loadSettings_drives (s : State) (record : List Byte) : Drives s (s.loadSettings record) := by
  unfold State.loadSettings
  split <;> exact .same rfl

/-! ## Service hold and the forced outputs (R104, R121 to R123) -/

/-- The entry to service hold from a state without it. -/
theorem State.enterHold_drives {s : State} (h : s.act.forced = none) : Drives s s.enterHold := by
  unfold State.enterHold
  extract_lets a s1 s2
  have h1 : Drives s s1 := .move (.holds (some Forced.rest) (.inl h)) rfl
  exact (h1.trans (s1.arbiterHoldEntry_drives.trans (State.cancelManager_drives _))).trans (.same rfl)

/-- The forced values are discarded, and a forced run is stopped with them; in TRANSFER there is none (R104, R123). -/
theorem State.stopForced_drives (s : State) : Drives s s.discardForced.stopForced := by
  by_cases h : s.cyc.state = .starting ∨ s.cyc.state = .running
  · have heq : s.discardForced.stopForced = s.discardForced.stopOrder := if_pos h
    rw [heq]
    exact State.stopOrder_drivesWith (f := none) rfl
  · have heq : s.discardForced.stopForced = s.discardForced := if_neg h
    rw [heq]
    by_cases ht : s.cyc.state = .transfer
    · exact .move (.holds none (.inr ht)) rfl
    · have hr : s.discardForced.cyc.state = .off ∨ s.discardForced.cyc.state = .stopping := by
        show s.cyc.state = .off ∨ s.cyc.state = .stopping
        cases hs : s.cyc.state <;> simp_all
      rw [← State.stopOrder_rest hr]
      exact State.stopOrder_drivesWith (f := none) rfl

theorem State.afterHold_drives (s : State) : Drives s s.afterHold := by
  have hd : Drives s s.drawn := .same rfl
  rcases s.afterHold_order with h | h
  · rw [h]
    exact (hd.trans s.drawn.startCheck_drives).trans (State.dueTest_drives _)
  · rw [h]
    exact (hd.trans s.drawn.dueTest_drives).trans (State.startCheck_drives _)

theorem State.endHold_drives (s : State) : Drives s s.endHold := s.stopForced_drives.trans (State.afterHold_drives _)

theorem clampNat_mem {lo hi : Nat} (h : lo ≤ hi) (v : Nat) : lo ≤ clampNat lo hi v ∧ clampNat lo hi v ≤ hi := by
  rw [clampNat_eq h]
  omega

theorem State.forceRefused_off {s : State} (h : s.forceRefused = false) (hs : s.cyc.state = .off) : s.cyc.lastStop + 180 ≤ s.now := by
  have hb : s.startBarred = false := by
    unfold State.forceRefused at h
    rw [hs] at h
    simpa using h
  simp only [State.startBarred, Bool.or_eq_false_iff, decide_eq_false_iff_not, Nat.not_lt] at hb
  exact hb.1.1.1

/-- A nonzero forced speed that is not refused is recorded and handed on (R104). -/
theorem State.forceSpeed_drives {s : State} {g : Forced} (hg : g.Runs) (h : s.forceRefused = false) :
    Drives s ((s.setForced g).forceSpeed g.speed) := by
  have h0 : g.speed ≠ 0 := fun h0 => by
    have hl := hg.1
    omega
  unfold State.forceSpeed
  rw [if_neg h0]
  refine Drives.ite _ (fun hs => ?_) fun _ => Drives.ite _ (fun hr => ?_) fun _ => ?_
  · exact .move (.forcedOn g hg hs (State.forceRefused_off h hs)) rfl
  · exact .move (.forcedTo g hg hr) rfl
  · exact .move (.forces g (.inl hg)) rfl

theorem forceCompressor_drives {s : State} (g : Forced) (asked : Nat) : Drives s (forceCompressor s g asked).state := by
  unfold forceCompressor
  extract_lets v
  split
  · exact .refl s
  · rename_i h
    by_cases hv : v = 0
    · have h0 : State.forceSpeed (s.setForced { g with speed := v }) v = (s.setForced { g with speed := v }).stopOrder := if_pos hv
      show Drives s (State.forceSpeed (s.setForced { g with speed := v }) v)
      rw [h0]
      exact State.stopOrder_drivesWith (f := some { g with speed := v }) rfl
    · have ha : asked ≠ 0 := fun h0 => hv (if_pos h0)
      have hc : v = clampNat 1200 4500 asked := if_neg ha
      have hb := clampNat_mem (lo := 1200) (hi := 4500) (by decide) asked
      rw [← hc] at hb
      exact State.forceSpeed_drives (g := { g with speed := v }) hb (Bool.eq_false_iff.mpr fun k => h ⟨hv, k⟩)

/-- A forced value of another output leaves the forced speed (R122). -/
theorem State.setForced_drives {s : State} {g x : Forced} (hf : s.act.forced = some g) (hx : x.speed = g.speed) :
    Drives s (s.setForced x) := .move (.forces x (.inr ⟨g, hf, hx⟩)) rfl

theorem forceOutput_drives {s : State} {g : Forced} (hf : s.act.forced = some g) (output v : Nat) :
    Drives s (forceOutput s g output v).state := by
  unfold forceOutput
  split
  · exact forceCompressor_drives g v
  · exact Drives.trans (t := s.setForced { g with valve := if v = 0 then .upper else .lower })
      (State.setForced_drives (g := g) hf rfl) (.same rfl)
  all_goals exact State.setForced_drives (g := g) hf rfl

/-! ## The command rules -/

theorem Drives.answer {s : State} {x y : Answer} (b : Prop) [Decidable b] (h : b → Drives s x.state) (k : ¬ b → Drives s y.state) :
    Drives s (if b then x else y).state := by
  split
  · exact h ‹_›
  · exact k ‹_›

theorem ruleGetZone_drives (s : State) (p : Port) (f : Frame) : Drives s (ruleGetZone s p f).state := by
  unfold ruleGetZone
  split <;> exact .refl s

theorem ruleReadTable_drives (s : State) (p : Port) (f : Frame) : Drives s (ruleReadTable s p f).state := by
  unfold ruleReadTable
  split <;> exact .refl s

theorem ruleSetSetpoint_drives (s : State) (p : Port) (f : Frame) : Drives s (ruleSetSetpoint s p f).state := by
  unfold ruleSetSetpoint
  split
  · exact .refl s
  · exact (s.storeSetpoint_settings p _ _).drives

theorem ruleSetMode_drives (s : State) (p : Port) (f : Frame) : Drives s (ruleSetMode s p f).state := by
  unfold ruleSetMode
  split
  · exact .refl s
  · exact Drives.answer _ (fun _ => .refl s) fun _ => Drives.answer _ (fun _ => .refl s) fun _ => s.changeMode_drives p _ _

theorem ruleStartBoost_drives (s : State) (p : Port) (f : Frame) : Drives s (ruleStartBoost s p f).state := by
  unfold ruleStartBoost
  split
  · exact .refl s
  · exact Drives.answer _ (fun _ => .refl s) fun _ => s.boost_drives _ _ p

theorem ruleCancelBoost_drives (s : State) (p : Port) (f : Frame) : Drives s (ruleCancelBoost s p f).state := by
  unfold ruleCancelBoost
  split
  · exact .refl s
  · split
    · exact .refl s
    · exact Drives.answer _ (fun _ => s.removeBoost_drives _) fun _ => .refl s

/-- LIMIT_POWER sets a cap in its domain, or takes it away (R94). -/
theorem ruleLimitPower_drives (s : State) (p : Port) (f : Frame) : Drives s (ruleLimitPower s p f).state := by
  unfold ruleLimitPower
  refine Drives.answer _ (fun _ => ?_) fun _ => ?_
  · exact s.capLifted_drives (c := { s.cap with power := none }) (.inl rfl) id
  · refine s.applyCaps_drives (c := { s.cap with power := some _ }) (.inl fun q hq => ?_)
    cases hq
    have hb := clampNat_mem (lo := 1200) (hi := 4500) (by decide) (f.arg16 0)
    refine ⟨?_, ?_, Nat.dvd_mul_left 10 _⟩ <;> show _ ≤ _ <;> simp only [downToTen] <;> omega

theorem ruleRunProgram_drives (s : State) (p : Port) (f : Frame) : Drives s (ruleRunProgram s p f).state :=
  Drives.answer _ (fun _ => .refl s) fun _ => Drives.answer _ (fun _ => .refl s) fun _ =>
    (State.beginWait_drives _ _).after rfl

theorem ruleAbortProgram_drives (s : State) (p : Port) (f : Frame) : Drives s (ruleAbortProgram s p f).state := by
  unfold ruleAbortProgram
  split
  · split <;> exact .same rfl
  all_goals exact .refl s

theorem ruleSetPanelMap_drives (s : State) (p : Port) (f : Frame) : Drives s (ruleSetPanelMap s p f).state :=
  Drives.answer _ (fun _ => .refl s) fun _ => .same rfl

theorem ruleWriteConversion_drives (s : State) (p : Port) (f : Frame) : Drives s (ruleWriteConversion s p f).state :=
  Drives.answer _ (fun _ => .refl s) fun _ => .same rfl

theorem ruleWritePreset_drives (s : State) (p : Port) (f : Frame) : Drives s (ruleWritePreset s p f).state := by
  unfold ruleWritePreset
  dsimp only
  split
  · exact .refl s
  · refine Drives.answer _ (fun _ => .refl s) fun _ => ?_
    rw [Answer.ok, State.writePreset_eq]
    exact .same rfl

theorem ruleWriteLadder_drives (s : State) (p : Port) (f : Frame) : Drives s (ruleWriteLadder s p f).state := by
  unfold ruleWriteLadder
  dsimp only
  split
  · exact .refl s
  · refine Drives.answer _ (fun _ => .refl s) fun _ => ?_
    rw [Answer.ok, State.writeLadder_eq]
    exact .same rfl

theorem ruleWriteStep_drives (s : State) (p : Port) (f : Frame) : Drives s (ruleWriteStep s p f).state := by
  unfold ruleWriteStep
  dsimp only
  split
  · exact .refl s
  · exact Drives.answer _ (fun _ => .refl s) fun _ => Drives.answer _ (fun _ => .refl s) fun _ => .same rfl

theorem ruleWriteProgram_drives (s : State) (p : Port) (f : Frame) : Drives s (ruleWriteProgram s p f).state := by
  unfold ruleWriteProgram
  dsimp only
  split
  · exact .refl s
  · exact Drives.answer _ (fun _ => .refl s) fun _ => Drives.answer _ (fun _ => .refl s) fun _ =>
      Drives.answer _ (fun _ => .refl s) fun _ => Drives.answer _ (fun _ => .refl s) fun _ => .same rfl

theorem ruleWriteGlobal_drives (s : State) (p : Port) (f : Frame) : Drives s (ruleWriteGlobal s p f).state := by
  unfold ruleWriteGlobal
  split
  · split <;> exact .same rfl
  · exact .refl s

theorem ruleSaveTables_drives (s : State) (p : Port) (f : Frame) : Drives s (ruleSaveTables s p f).state :=
  Drives.answer _ (fun _ => .same rfl) fun _ => .refl s

theorem ruleServiceHoldOn_drives (s : State) (p : Port) (f : Frame) : Drives s (ruleServiceHoldOn s p f).state :=
  Drives.answer _ (fun _ => .refl s) fun h => State.enterHold_drives (by simpa [State.serviceHold] using h)

theorem ruleServiceHoldOff_drives (s : State) (p : Port) (f : Frame) : Drives s (ruleServiceHoldOff s p f).state :=
  Drives.answer _ (fun _ => .refl s) fun _ => Drives.answer _ (fun _ => s.endHold_drives) fun _ => .refl s

theorem ruleForceOutput_drives (s : State) (p : Port) (f : Frame) : Drives s (ruleForceOutput s p f).state := by
  unfold ruleForceOutput
  refine Drives.answer _ (fun _ => .refl s) fun _ => ?_
  split
  · exact .refl s
  · exact forceOutput_drives ‹_› _ _

/-! ## Every command but a restart -/

theorem State.respond_drives (s : State) (p : Port) (x : Response) : Drives s (s.respond p x) := by
  obtain ⟨n, hn⟩ := s.respond_act p x
  have hf : (s.respond p x).act.forced = s.act.forced := by rw [hn]
  exact .same (by unfold State.drive; rw [hf]; rfl)

theorem State.finish_drives {s u t : State} (hf : s.finish u = .next t) (h : Drives s u) : Drives s t := by
  rw [State.finish_eq] at hf
  cases hf
  exact (h.trans (State.handOver_drives s u)).trans (.same rfl)

theorem State.event_drives {s t : State} {i : Instr} {f : State → State} (he : s.event i f = .next t)
    (h : s.due i = true → Drives s (f s)) : Drives s t := by
  unfold State.event at he
  split at he
  · exact State.finish_drives he (h ‹_›)
  · cases he
    exact .refl s

theorem State.request_drives {s : State} (e : Ending) (mine : Frame → Bool) {rule : State → Port → Frame → Answer}
    (h : ∀ u p f, Drives u (rule u p f).state) : Drives s (s.request e mine rule) := by
  have ha : ∀ t, Drives s (s.afterTaking t) := fun _ => .same rfl
  obtain k | ⟨t, -, -, ⟨st, -, k⟩ | ⟨-, x, k⟩⟩ := s.request_cases e mine rule
  · rw [k]; exact .refl s
  · rw [k]; exact (ha t).trans (State.respond_drives _ _ _)
  · rw [k]; exact ((ha t).trans (h _ _ _)).trans (State.respond_drives _ _ _)

/-- A request row other than a restart makes moves of the compressor. -/
theorem exec_request_drives {c : Instr} {s t : State} (h : exec c s = .next t) (hr : c.resets = false) (hc : c.row ≠ none)
    (hn : ∀ e, c ≠ .coolingRestart e) : Drives s t := by
  cases c
  case fullRestart => cases hr
  case coolingRestart => exact absurd rfl (hn _)
  case getZone => exact State.finish_drives h (s.request_drives _ _ ruleGetZone_drives)
  case setSetpoint => exact State.finish_drives h (s.request_drives _ _ ruleSetSetpoint_drives)
  case setMode => exact State.finish_drives h (s.request_drives _ _ ruleSetMode_drives)
  case startBoost => exact State.finish_drives h (s.request_drives _ _ ruleStartBoost_drives)
  case cancelBoost => exact State.finish_drives h (s.request_drives _ _ ruleCancelBoost_drives)
  case limitPower => exact State.finish_drives h (s.request_drives _ _ ruleLimitPower_drives)
  case runProgram => exact State.finish_drives h (s.request_drives _ _ ruleRunProgram_drives)
  case abortProgram => exact State.finish_drives h (s.request_drives _ _ ruleAbortProgram_drives)
  case setPanelMap => exact State.finish_drives h (s.request_drives _ _ ruleSetPanelMap_drives)
  case readTable => exact State.finish_drives h (s.request_drives _ _ ruleReadTable_drives)
  case writeTableConversion => exact State.finish_drives h (s.request_drives _ _ ruleWriteConversion_drives)
  case writeTablePreset => exact State.finish_drives h (s.request_drives _ _ ruleWritePreset_drives)
  case writeTableLadder => exact State.finish_drives h (s.request_drives _ _ ruleWriteLadder_drives)
  case writeTableStep => exact State.finish_drives h (s.request_drives _ _ ruleWriteStep_drives)
  case writeTableProgram => exact State.finish_drives h (s.request_drives _ _ ruleWriteProgram_drives)
  case writeTableGlobal => exact State.finish_drives h (s.request_drives _ _ ruleWriteGlobal_drives)
  case saveTables => exact State.finish_drives h (s.request_drives _ _ ruleSaveTables_drives)
  case serviceHoldOn => exact State.finish_drives h (s.request_drives _ _ ruleServiceHoldOn_drives)
  case serviceHoldOff => exact State.finish_drives h (s.request_drives _ _ ruleServiceHoldOff_drives)
  case forceOutput => exact State.finish_drives h (s.request_drives _ _ ruleForceOutput_drives)
  case unknownCommand | identify | getSystem | readEvents | ackEvents | setEventMask | deferDefrost =>
    exact State.finish_drives h (s.request_drives _ _ fun _ _ _ => .same rfl)
  all_goals exact absurd rfl hc

/-- A command other than a reset or a cooling restart makes moves of the compressor. -/
theorem exec_drives {c : Instr} {s t : State} (h : exec c s = .next t) (hr : c.resets = false) (hn : ∀ e, c ≠ .coolingRestart e) :
    Drives s t := by
  by_cases hc : c.row = none
  case neg => exact exec_request_drives h hr hc hn
  cases c
  case deviceReset => cases hr
  case fullRestart => cases hr
  case imageLoadComplete =>
    obtain rfl | ⟨-, h⟩ := execImageLoadComplete_next h
    · exact .refl _
    · exact State.finish_drives h (s.loadImage_drives _ _)
  case settingsLoadComplete =>
    obtain rfl | ⟨-, -, h⟩ := execSettingsLoadComplete_next h
    · exact .refl _
    · exact State.finish_drives h (s.loadSettings_drives _)
  case sampleCompletion =>
    obtain rfl | h := execSampleCompletion_next h
    · exact .refl _
    · exact State.finish_drives h (s.sample_drives _ _)
  case doorEdge =>
    obtain rfl | h := execDoorEdge_next h
    · exact .refl _
    · exact State.finish_drives h (.same rfl)
  case driveStatus =>
    obtain rfl | ⟨r, h⟩ := execDriveStatus_next h
    · exact .refl _
    · exact State.finish_drives h (s.driveReply_drives r)
  case tachReading =>
    obtain rfl | h := execTachReading_next h
    · exact .refl _
    · exact State.finish_drives h (s.tach_drives _ _)
  case portSLengthReject =>
    obtain rfl | h := execPortSLengthReject_next h
    · exact .refl _
    · exact State.finish_drives h ((State.respond_drives _ _ _).after rfl)
  case portSByteReceived =>
    obtain rfl | ⟨x, h⟩ := execPortSByteReceived_next h
    · exact .refl _
    · exact State.finish_drives h (.same rfl)
  case pageWriteComplete =>
    obtain rfl | ⟨j, h⟩ := execPageWriteComplete_next h
    · exact .refl _
    · exact State.finish_drives h (s.pageWritten_only j _).drives
  case portSFrameSent | writeTransactionByte => exact State.finish_drives h (.same rfl)
  case ready => exact State.event_drives (show execReady s = _ from h) fun _ => (State.dueTest_drives _).after rfl
  case doorTransition => exact State.event_drives (show execDoorTransition _ s = _ from h) fun _ => s.doorTurn_drives _
  case doorMinute =>
    exact State.event_drives (show execDoorMinute _ s = _ from h) fun _ => (State.credit_drives _ _).after rfl
  case boostExpiry => exact State.event_drives (show execBoostExpiry _ s = _ from h) fun _ => s.removeBoost_drives _
  case faultTimerExpiry => exact State.event_drives (show execFaultTimerExpiry _ s = _ from h) fun _ => s.faultTimerOut_drives _
  case turnMaximum => exact State.event_drives (show execTurnMaximum s = _ from h) fun _ => s.turnReport_drives
  case onTimerMinimum => exact State.event_drives (show execOnTimerMinimum s = _ from h) fun _ => s.onTimeReport_drives
  case lowerRunMinute =>
    exact State.event_drives (show execLowerRunMinute s = _ from h) fun _ => (State.credit_drives _ _).after rfl
  case valveMoveComplete => exact State.event_drives (show execValveMoveComplete s = _ from h) fun _ => s.valveArrives_drives
  case startWindowExpiry => exact State.event_drives (show execStartWindowExpiry s = _ from h) fun _ => s.faultEvent_drives _ _
  case startHoldEnd =>
    refine State.event_drives (show execStartHoldEnd s = _ from h) fun hd => .move (.updates s.rawSpeed ?_) rfl
    exact of_decide_eq_true ((Bool.and_eq_true _ _).mp hd).1
  case speedUpdate =>
    refine State.event_drives (show execSpeedUpdate s = _ from h) fun hd => .move (.updates s.rawSpeed ?_) rfl
    simp only [State.due, Bool.and_eq_true, decide_eq_true_iff] at hd
    exact hd.1.1.1
  case transferTimerExpiry =>
    exact State.event_drives (show execTransferTimerExpiry s = _ from h) fun hd =>
      State.completeTransfer_drives (s.transferDone_iff.mp hd).1
  case stopTimerExpiry =>
    exact State.event_drives (show execStopTimerExpiry s = _ from h) fun hd =>
      State.stopped_drives (of_decide_eq_true ((Bool.and_eq_true _ _).mp hd).1)
  case minimumOffTimeOver => exact State.event_drives (show execMinimumOffTimeOver s = _ from h) fun _ => s.startCheck_drives
  case faultWaitEnd => exact State.event_drives (show execFaultWaitEnd s = _ from h) fun _ => s.startCheck_drives
  case powerCapExpiry =>
    exact State.event_drives (show execPowerCapExpiry s = _ from h) fun _ =>
      s.capLifted_drives (c := { s.cap with power := none }) (.inl rfl) id
  case driveMiss => exact State.event_drives (show execDriveMiss s = _ from h) fun _ => s.driveMissed_drives
  case heaterLimit =>
    exact State.event_drives (show execHeaterLimit s = _ from h) fun _ =>
      (State.heaterLimitToManager_drives _).after rfl
  case holdTimeout => exact State.event_drives (show execHoldTimeout s = _ from h) fun _ => s.endHold_drives.trans (.same rfl)
  case defrostAgeLimit => exact State.event_drives (show execDefrostAgeLimit s = _ from h) fun _ => s.dueTest_drives
  case deferralEnd => exact State.event_drives (show execDeferralEnd s = _ from h) fun _ => s.beginWait_drives _
  case pathWaitExpiry => exact State.event_drives (show execPathWaitExpiry s = _ from h) fun _ => s.pathWaitOver_drives
  case stepDurationExpiry => exact State.event_drives (show execStepDurationExpiry s = _ from h) fun _ => s.stepEnds_drives _
  case stepTimeoutExpiry => exact State.event_drives (show execStepTimeoutExpiry s = _ from h) fun _ => s.stepEnds_drives _
  case holdoffEnd =>
    exact State.event_drives (show execHoldoffEnd s = _ from h) fun _ => (State.dueTest_drives _).after rfl
  case quietTimerExpiry =>
    exact State.event_drives (show execQuietTimerExpiry s = _ from h) fun _ =>
      ((StoreOnly.record s _).trans (State.settingsSaveDue_only _)).drives
  case hourlyMark =>
    exact State.event_drives (show execHourlyMark s = _ from h) fun _ => Drives.ite _ (fun _ => .same rfl) fun _ =>
      ((StoreOnly.record s _).trans (State.settingsSaveDue_only _)).drives
  case pageBusyTimeout => exact State.event_drives (show execPageBusyTimeout s = _ from h) fun _ => s.pageTimedOut_only.drives
  case saveRetryExpiry => exact State.event_drives (show execSaveRetryExpiry _ s = _ from h) fun _ => (s.retrySave_only _).drives
  case doorLong => exact State.event_drives (show execDoorLong _ s = _ from h) fun _ => .same rfl
  case lapse => exact State.event_drives (show execLapse _ s = _ from h) fun _ => .same rfl
  case defrostWindowClose => exact State.event_drives (show execDefrostWindowClose s = _ from h) fun _ => .same rfl
  case driveCommand => exact State.event_drives (show execDriveCommand s = _ from h) fun _ => .same rfl
  case condenserRetryExpiry => exact State.event_drives (show execCondenserRetryExpiry s = _ from h) fun _ => .same rfl
  case condenserRunOnExpiry => exact State.event_drives (show execCondenserRunOnExpiry s = _ from h) fun _ => .same rfl
  case afterRunExpiry => exact State.event_drives (show execAfterRunExpiry s = _ from h) fun _ => .same rfl
  case fanDelayExpiry => exact State.event_drives (show execFanDelayExpiry s = _ from h) fun _ => .same rfl
  case damperMoveComplete => exact State.event_drives (show execDamperMoveComplete _ s = _ from h) fun _ => .same rfl
  case damperHomingComplete => exact State.event_drives (show execDamperHomingComplete _ s = _ from h) fun _ => .same rfl
  case flexHeaterLimit => exact State.event_drives (show execFlexHeaterLimit s = _ from h) fun _ => .same rfl
  case flexHeaterRestEnd => exact State.event_drives (show execFlexHeaterRestEnd s = _ from h) fun _ => .same rfl
  case portSGapTimeout => exact State.event_drives (show execPortSGapTimeout s = _ from h) fun _ => .same rfl
  all_goals cases hc

/-! ## 10 ms and a cooling restart -/

theorem State.tick_drives (s : State) : Drives s s.tick := by
  have hn : s.now ≤ (s.clock + 1) / 100 := Nat.div_le_div_right (Nat.le_succ _)
  refine .move (.waits _ hn) ?_
  unfold State.tick State.elapse
  split <;> rfl

/-- The forced values are gone. -/
def State.unforced (s : State) : State := { s with act := { s.act with forced := none } }

theorem DriveView.liftedSpeed_unforced {v : DriveView} (h : v.forced = none) (c : CapRecord) : v.liftedSpeed c = v.speed := by
  unfold DriveView.liftedSpeed DriveView.forcedRun
  rw [h, ite_self]

/-- Through STOPPING where the compressor may be turning, straight to OFF from the VALVE phase, with the forced values gone (R107,
R125). -/
theorem State.restartCycleState_drives (s : State) : Drives s s.restartCycleState.unforced := by
  unfold State.restartCycleState
  split
  · refine s.enterOff_drives.trans (.move (.halts none) ?_)
    have hoff : s.enterOff.drive.halted = s.enterOff.drive := if_pos (.inl rfl)
    rw [hoff]
    rfl
  · have hd : s.stopOrder.unforced.drive = s.unforced.stopOrder.drive := by
      rw [State.stopOrder_drive, show s.unforced.drive = { s.drive with forced := none } from rfl, DriveView.halted_forced,
        ← State.stopOrder_drive]
      rfl
    exact (State.stopOrder_drivesWith (s := s) (u := s.unforced) rfl).trans (.same hd)

/-- The state that a cooling restart leaves before the due test, but for the lockout. -/
def State.recycled (s : State) : State :=
  let a := s.restartZones.restartArbiter.cancelManager.restartCycleState.unforced
  { a with cap := { a.cap with power := none } }

theorem State.recycled_drives (s : State) : Drives s s.recycled := by
  have ha : Drives s s.restartZones.restartArbiter.cancelManager := (State.cancelManager_drives _).after rfl
  refine (ha.trans (State.restartCycleState_drives _)).trans (.move (.lifts
    { s.restartZones.restartArbiter.cancelManager.restartCycleState.cap with power := none } (.inl rfl) id) ?_)
  rw [DriveView.liftedSpeed_unforced rfl]
  rfl

/-- A cooling restart makes moves of the compressor, clears the lockout, and makes the due test (R107, R149, R159). -/
theorem State.coolingRestart_drives (s : State) :
    Drives { s.recycled with flt := { s.recycled.flt with lockout := none } } s.coolingRestart :=
  (State.dueTest_drives s.restartZones.restartArbiter.cancelManager.restartCycle.restartActuators).after rfl

end Sys2Proof.Machine
end

section
/-!
The commanded speed (R92, R97) and the off time (R89) over every step: what every move keeps and no lockout changes, every step keeps.
-/
namespace Sys2Proof.Machine

/-- A rule of the compressor's view that every move keeps, that no lockout changes, and that holds after reset. -/
structure DriveView.Invariant (P : DriveView → Prop) : Prop where
  kept : ∀ v w, DriveMove v w → P v → P w
  unlocked : ∀ (v : DriveView) (l : Option Nat), P v → P { v with lockout := l }
  reset : P State.reset.drive

section keeps
variable {P : DriveView → Prop} (hP : DriveView.Invariant P) {s t : State}
include hP

theorem DriveView.Invariant.drives (h : Drives s t) (hs : P s.drive) : P t.drive := DriveMove.keeps hP.kept h hs

/-- A cooling restart clears the lockout, and else makes moves (R159). -/
theorem DriveView.Invariant.coolingRestart (hs : P s.drive) : P s.coolingRestart.drive :=
  hP.drives s.coolingRestart_drives (hP.unlocked _ none (hP.drives s.recycled_drives hs))

theorem ruleCoolingRestart_keeps (p : Port) (f : Frame) (hs : P s.drive) : P (ruleCoolingRestart s p f).state.drive := by
  unfold ruleCoolingRestart
  split
  · exact hP.coolingRestart hs
  · exact hs

theorem execCoolingRestart_keeps {e : Ending} (h : execCoolingRestart e s = .next t) (hs : P s.drive) : P t.drive := by
  have hk : P (s.request e (fun f => f.names .restart && !f.fullRestart) ruleCoolingRestart).drive := by
    obtain k | ⟨x, -, -, ⟨st, -, k⟩ | ⟨-, y, k⟩⟩ := s.request_cases e (fun f => f.names .restart && !f.fullRestart) ruleCoolingRestart
    · rwa [k]
    · rw [k]
      exact hP.drives (State.respond_drives _ _ _) hs
    · rw [k]
      exact hP.drives (State.respond_drives _ _ _) (ruleCoolingRestart_keeps hP (s := s.afterTaking x) _ _ hs)
  cases (State.finish_eq _ _).symm.trans h
  exact hP.drives (State.handOver_drives s _) hk

theorem DriveView.Invariant.exec {c : Instr} (h : exec c s = .next t) (hr : c.resets = false) (hs : P s.drive) : P t.drive := by
  by_cases hn : ∃ e, c = .coolingRestart e
  · obtain ⟨e, rfl⟩ := hn
    exact execCoolingRestart_keeps hP h hs
  · exact hP.drives (exec_drives h hr fun e k => hn ⟨e, k⟩) hs

theorem DriveView.Invariant.step (h : step s = .next t) (hs : P s.drive) : P t.drive := by
  refine step_induction (P := fun s => P s.drive) (fun s l hs => hs) (fun s hs => hP.drives s.tick_drives hs)
    (fun s raw _ => hP.reset) ?_ (fun c s t => hP.exec) h hs
  intro e s t h hs
  obtain rfl | rfl | ⟨x, y, -, rfl⟩ := execFullRestart_next h
  · exact hP.reset
  · exact hs
  · exact hP.drives (State.respond_drives (s.afterTaking x) x.port y) hs

end keeps

theorem DriveView.Bounded.invariant : DriveView.Invariant DriveView.Bounded where
  kept _ _ := DriveMove.bounded
  unlocked _ _ h := ⟨h.flag, h.stopped, h.running, h.caps, h.forced, h.transfer⟩
  reset := State.reset.speedBounded_iff.mp State.reset_speedBounded

theorem DriveView.OffTimeKept.invariant : DriveView.Invariant DriveView.OffTimeKept where
  kept _ _ := DriveMove.offTimeKept
  unlocked _ _ h := h
  reset := State.reset.offTimeKept_iff.mp State.reset_offTimeKept

end Sys2Proof.Machine

namespace Sys2Proof

open Sys2Proof.Machine

/-- Settles O54: every operation of the part is a sequence of moves of the compressor, and every move keeps the run flag, the speed and
the caps together. -/
theorem speedStaysBounded : Obligations.SpeedStaysBounded := fun s t hs h =>
  t.speedBounded_iff.mpr (DriveView.Bounded.invariant.step h (s.speedBounded_iff.mp hs))

/-- Settles O55: a start and a forced run are made 180 s after the last stop alone, and no other move begins a run. -/
theorem offTimeIsKept : Obligations.OffTimeIsKept := fun s t hs h =>
  t.offTimeKept_iff.mpr (DriveView.OffTimeKept.invariant.step h (s.offTimeKept_iff.mp hs))

end Sys2Proof
end

section
/-!
The drive fault list and the lockout (R102, R103): what an entry makes of the list, the sets that a fault's kinds join, and what clears
the lockout.
-/
namespace Sys2Proof.Machine

/-! ## An entry of the list -/

section enter
variable {r : DriveFaultRecord} {t a b c : Nat}

theorem DriveFaultRecord.enter_short (hl : r.lockout = none) (hn : r.times.length < 3) :
    r.enter t = { r with times := r.times ++ [t] } := by
  unfold DriveFaultRecord.enter
  rw [hl, if_neg (by simp), if_pos hn]

theorem DriveFaultRecord.enter_full (hl : r.lockout = none) (ht : r.times = [a, b, c]) :
    r.enter t = if t < a + 3600 then { r with lockout := some t } else { r with times := [b, c, t] } := by
  unfold DriveFaultRecord.enter
  rw [hl, ht]
  rfl

end enter

/-! ## The kinds of a fault -/

/-- A fault is told, and where it locks the drive out the lockout too (R102, R103, R163). -/
theorem State.faultEvents_holds (s : State) (p : Port) (k : EventKind) :
    holdsKind (s.faultEvents.get p).set k = (holdsKind (s.events.get p).set k || decide (k = .driveFault)
      || (decide (k = .driveLockout) && decide (s.flt.lockout = none ∧ (s.flt.enter s.now).lockout ≠ none))) := by
  unfold State.faultEvents
  by_cases h : s.flt.lockout = none ∧ (s.flt.enter s.now).lockout ≠ none
  · rw [if_pos ⟨h.1, Option.isSome_iff_ne_none.mpr h.2⟩]
    simp [EventRecord.add, h]
  · rw [if_neg fun k => h ⟨k.1, Option.isSome_iff_ne_none.mp k.2⟩]
    simp [EventRecord.add, h]

/-! ## What clears the lockout -/

/-- A cooling restart empties the list and clears the lockout; its due test adds nothing (R159). -/
theorem State.coolingRestart_clearsFaults (s : State) : s.coolingRestart.flt.times = [] ∧ s.coolingRestart.flt.lockout = none := by
  obtain ⟨stall, ro, hr⟩ := State.restarted_eq s
  have hcool : s.coolingRestart = (s.cooledDown stall ro).dueTest := congrArg State.dueTest hr
  have hflt : (s.cooledDown stall ro).dueTest.flt = (s.cooledDown stall ro).flt := by
    by_cases hready : s.ready = true
    · rw [State.dueTest_rests (s := s.cooledDown stall ro) hready rfl rfl rfl rfl (CycleRecord.cooled_rests _ _) rfl rfl]
      rfl
    · rw [State.dueTest_before_ready (s := s.cooledDown stall ro) (Bool.eq_false_iff.mpr hready)]
  rw [hcool, hflt]
  exact ⟨rfl, rfl⟩

theorem State.tick_lockout {s t : State} (hl : s.flt.lockout ≠ none) (hp : s.pending = []) (h : step s = .next t) :
    t.flt.lockout = s.flt.lockout := by
  cases (State.step_empty hp).symm.trans h
  exact s.tick_drives.lockout hl

end Sys2Proof.Machine

namespace Sys2Proof

open Sys2Proof.Machine

/-- Settles O25: an entry of the list by its cases, the fault's record and kinds, and the lockout that only the restarts clear. -/
theorem faultListAndLockout : Obligations.FaultListAndLockout := by
  intro r t
  refine ⟨fun hl => DriveFaultRecord.enter_short hl, fun a b c hl ht hlt => ?_, fun a b c hl ht hle => ?_,
    fun hl => DriveFaultRecord.enter_locked hl t, ?_⟩
  · rw [DriveFaultRecord.enter_full hl ht, if_pos hlt]
  · rw [DriveFaultRecord.enter_full hl ht, if_neg (Nat.not_lt.mpr hle)]
  · rintro s cause code rfl rfl
    rw [State.driveFault_eq]
    have hrestart := s.coolingRestart_clearsFaults
    refine ⟨rfl, rfl, fun hl hlocks p => ?_, fun h p => ?_, rfl, rfl, s.faultEvents_told, fun hl => ?_, hrestart.1, hrestart.2,
      fun raw => ⟨rfl, rfl⟩, fun u => State.tick_lockout, fun c u hl hr hn h => (exec_drives h hr hn).lockout hl⟩
    · rw [s.faultEvents_holds]
      simp [hl, hlocks]
    · have hno : ¬ (s.flt.lockout = none ∧ (s.flt.enter s.now).lockout ≠ none) := fun k => h.elim (· k.1) k.2
      rw [s.faultEvents_holds]
      simp [hno]
    · simp [State.startBarred, Option.isSome_iff_ne_none.mpr hl]

end Sys2Proof
end

section
/-!
The speed update (R90 to R92): the terms of the raw speed as the rules write them, and the two events that make an update.
-/
namespace Sys2Proof.Machine

/-! ## The terms of the raw speed (R91) -/

theorem CallLevel.weight_eq (l : CallLevel) : l.weight = if l = .one then 300 else if l = .two then 700 else 1200 := by
  cases l <;> rfl

theorem servedWeight_eq (l : List Entry) :
    servedWeight l = (l.map fun e => if e.level = .one then 300 else if e.level = .two then 700 else 1200 : List Int).sum := by
  rw [List.sum_eq_foldl, List.foldl_map]
  simp only [← CallLevel.weight_eq]
  rfl

theorem baseSpeed_eq (p : Path) : baseSpeed p = if p = .upper then 1600 else 2000 := by cases p <;> rfl

theorem ambientTerm_some (gain : Nat) (ta : Int) :
    ambientTerm gain (some ta) = max (-400) (min 800 (((ta - 250) * (gain : Int)).tdiv 10)) := clampInt_eq (by decide) _

theorem State.rawSpeed_holdover {s : State} (h : s.arb.holdover = true) : s.rawSpeed = 1200 := if_pos h

theorem State.rawSpeed_none {s : State} (h : s.cyc.path = none) : s.rawSpeed = 1200 := by
  unfold State.rawSpeed
  rw [h, ite_self]

theorem State.rawSpeed_some {s : State} {p : Path} (ho : s.arb.holdover = false) (h : s.cyc.path = some p) :
    s.rawSpeed = baseSpeed p + servedWeight s.arb.served + ambientTerm s.tables.ambientGain s.ambient := by
  unfold State.rawSpeed
  rw [ho, h]
  rfl

theorem State.targetSpeed_eq (s : State) : s.targetSpeed = s.cap.bound (max 1200 (min 4500 s.rawSpeed)).toNat / 10 * 10 := by
  unfold State.targetSpeed downToTen
  rw [clampInt_eq (by decide)]

/-- The target of an update is admitted by the caps (R92, R97). -/
theorem State.targetSpeed_admits {s : State} (hc : ∀ p, s.cap.power = some p → 1200 ≤ p.rpm) : s.cap.admits s.targetSpeed :=
  CapRecord.admits_down hc (clampInt_speed _).1 (clampInt_speed _).2

/-! ## The events of an update (R90, R92) -/

theorem exec_startHoldEnd_due {s : State} {n : Nat} (hs : s.cyc.state = .running) (hh : s.cyc.startHold = some n) (hn : 60 ≤ n) :
    exec .startHoldEnd s = .next s.updateSpeed.settle :=
  State.event_same (by simp [State.due, hs, reached_of_le hh hn]) State.updateSpeed rfl rfl

theorem exec_speedUpdate_due {s : State} (hs : s.cyc.state = .running) (hp : s.cyc.path ≠ none) (hh : s.cyc.startHold = none)
    (hu : 5 ≤ s.cyc.sinceUpdate) : exec .speedUpdate s = .next s.updateSpeed.settle :=
  State.event_same (by simp [State.due, hs, hh, hu, Option.isSome_iff_ne_none.mpr hp]) State.updateSpeed rfl rfl

end Sys2Proof.Machine

namespace Sys2Proof

open Sys2Proof.Machine

/-- Settles O26: the raw speed term by term, the clamp, the caps and the rounding of the target, and the slew toward it. -/
theorem speedUpdateSlewsToTheTarget : Obligations.SpeedUpdateSlewsToTheTarget := by
  intro s c n hs hdue ambient raw target
  have hambient : ambientTerm s.tables.ambientGain s.ambient = ambient := by
    unfold ambient
    change ambientTerm s.tables.ambientGain s.ambient = match s.ambient with | none => 0 | some ta => _
    cases s.ambient with
    | none => rfl
    | some ta => exact ambientTerm_some _ ta
  have hraw : s.rawSpeed = raw := by
    unfold raw
    cases ho : s.arb.holdover with
    | true => exact State.rawSpeed_holdover ho
    | false =>
      cases hp : s.cyc.path with
      | none => exact State.rawSpeed_none hp
      | some p => rw [State.rawSpeed_some ho hp, baseSpeed_eq, servedWeight_eq, hambient]
  have htarget : s.targetSpeed = target := by rw [State.targetSpeed_eq, hraw]
  have hexec : exec c s = .next s.updateSpeed.settle := by
    rcases hdue with ⟨rfl, hh, hn⟩ | ⟨rfl, hp, hh, hu⟩
    · exact exec_startHoldEnd_due hs hh hn
    · exact exec_speedUpdate_due hs hp hh hu
  rw [hexec, ← htarget]
  exact ⟨rfl, fun h => State.targetSpeed_admits fun p hp => (h p hp).1⟩

end Sys2Proof
end

section
/-!
The caps as they arrive and as they are lifted (R93 to R96, R104): the cycle record after each, and the power cap's request and expiry.
-/
namespace Sys2Proof.Machine

/-! ## The cycle record under new caps -/

/-- The cycle record after a lift that leaves these caps: a forced run takes its bound at once, else the speed stands (R95, R104). -/
def State.liftedCycle (s : State) (c : CapRecord) : CycleRecord :=
  match s.drive.forcedRun with
  | some g => { s.cyc with speed := c.bound g.speed / 10 * 10 }
  | none => s.cyc

/-- The cycle record after an arrival that leaves these caps (R93, R104). -/
def State.cappedCycle (s : State) (c : CapRecord) : CycleRecord :=
  match s.drive.forcedRun with
  | some g => { s.cyc with speed := c.bound g.speed / 10 * 10 }
  | none => if s.cyc.runFlag then { s.cyc with speed := c.bound s.cyc.speed, target := s.cyc.target.map c.bound } else s.cyc

section caps
variable {s : State} {c : CapRecord} {g : Forced}

theorem State.forcedRun_some (h : s.cyc.runFlag = true ∧ s.cyc.path = none ∧ s.act.forced ≠ none) (hg : s.act.forced = some g) :
    s.drive.forcedRun = some g := s.drive.forcedRun_eq_some.mpr ⟨h.1, h.2.1, hg⟩

theorem State.forcedRun_none (h : ¬ (s.cyc.runFlag = true ∧ s.cyc.path = none ∧ s.act.forced ≠ none)) : s.drive.forcedRun = none :=
  s.drive.forcedRun_eq_none.mpr h

theorem State.liftedCycle_forced (h : s.drive.forcedRun = some g) :
    s.liftedCycle c = { s.cyc with speed := c.bound g.speed / 10 * 10 } := by
  unfold State.liftedCycle
  rw [h]

theorem State.liftedCycle_plain (h : s.drive.forcedRun = none) : s.liftedCycle c = s.cyc := by
  unfold State.liftedCycle
  rw [h]

theorem State.cappedCycle_forced (h : s.drive.forcedRun = some g) :
    s.cappedCycle c = { s.cyc with speed := c.bound g.speed / 10 * 10 } := by
  unfold State.cappedCycle
  rw [h]

theorem State.cappedCycle_plain (h : s.drive.forcedRun = none) : s.cappedCycle c
    = if s.cyc.runFlag then { s.cyc with speed := c.bound s.cyc.speed, target := s.cyc.target.map c.bound } else s.cyc := by
  unfold State.cappedCycle
  rw [h]

variable (s c)

theorem State.capLifted_eq : State.capLifted { s with cap := c } = { s with cap := c, cyc := s.liftedCycle c } := by
  cases h : s.drive.forcedRun with
  | some g => rw [State.capLifted_forced (s := { s with cap := c }) h, State.liftedCycle_forced h]
  | none => rw [State.capLifted_plain (s := { s with cap := c }) h, State.liftedCycle_plain h]

theorem State.applyCaps_eq : State.applyCaps { s with cap := c } = { s with cap := c, cyc := s.cappedCycle c } := by
  cases h : s.drive.forcedRun with
  | some g => rw [State.applyCaps_forced (s := { s with cap := c }) h, State.cappedCycle_forced h]
  | none => rw [State.applyCaps_plain (s := { s with cap := c }) h, State.cappedCycle_plain h]

/-- A lift hands nothing over. -/
theorem State.liftedCycle_same : (s.liftedCycle c).state = s.cyc.state ∧ (s.liftedCycle c).path = s.cyc.path := by
  unfold State.liftedCycle
  split <;> exact ⟨rfl, rfl⟩

/-- An arrival hands nothing over. -/
theorem State.cappedCycle_same : (s.cappedCycle c).state = s.cyc.state ∧ (s.cappedCycle c).path = s.cyc.path := by
  unfold State.cappedCycle
  split
  · exact ⟨rfl, rfl⟩
  · split <;> exact ⟨rfl, rfl⟩

end caps

/-! ## The power cap (R94, R95) -/

/-- The caps without the power cap. -/
def CapRecord.unpowered (c : CapRecord) : CapRecord := { c with power := none }

/-- The caps with a power cap set to a speed for some minutes. -/
def CapRecord.powered (c : CapRecord) (rpm now minutes : Nat) : CapRecord :=
  { c with power := some { rpm := rpm, expiry := now + 60 * minutes } }

/-- The expiry removes the power cap and leaves the speed, but for a forced run. -/
theorem exec_powerCapExpiry_due {s : State} {k : PowerCap} (hk : s.cap.power = some k) (ht : k.expiry ≤ s.now) :
    exec .powerCapExpiry s = .next (State.settle { s with cap := s.cap.unpowered, cyc := s.liftedCycle s.cap.unpowered }) := by
  have hdue : s.due .powerCapExpiry = true := by simp [State.due, State.come, hk, ht]
  obtain ⟨hs, hp⟩ := s.liftedCycle_same s.cap.unpowered
  have heq : (s.setPowerCap none).capLifted = { s with cap := s.cap.unpowered, cyc := s.liftedCycle s.cap.unpowered } :=
    s.capLifted_eq s.cap.unpowered
  exact (State.event_due hdue fun t => (t.setPowerCap none).capLifted).trans ((congrArg s.finish heq).trans (State.finish_same hs hp))

theorem clampStatus_or (rpm asked m minutes : Nat) : clampStatus (decide (rpm ≠ asked) || decide (m ≠ minutes))
    = if rpm ≠ asked ∨ m ≠ minutes then .okClamped else .ok := by
  rw [← Bool.decide_or]
  by_cases h : rpm ≠ asked ∨ m ≠ minutes <;> simp [clampStatus, h]

section request
variable {s : State} {e : Ending} {p : Port} {f : Frame} {q : Ports} (h : Admitted s e .limitPower p f q)
include h

/-- LIMIT_POWER 0 removes the power cap as its expiry does. -/
theorem Admitted.powerCancelled (h0 : f.arg16 0 = 0) : exec (.limitPower e) s = .next (State.settle (State.respond
    { s with ports := q, cap := s.cap.unpowered, cyc := s.liftedCycle s.cap.unpowered } p
    { status := .ok, echo := 0x20, data := be16 0 ++ be32 0 })) := by
  have hrule : ruleLimitPower { s with ports := q } p f
      = { state := { s with ports := q, cap := s.cap.unpowered, cyc := s.liftedCycle s.cap.unpowered }, status := .ok,
          data := be16 0 ++ be32 0 } := by
    unfold ruleLimitPower
    rw [if_pos h0]
    exact congrArg (Answer.mk · _ _) (State.capLifted_eq { s with ports := q } s.cap.unpowered)
  obtain ⟨hs, hp⟩ := s.liftedCycle_same s.cap.unpowered
  exact (congrArg s.finish (h.request hrule)).trans (State.finish_same hs hp)

/-- LIMIT_POWER sets or replaces the power cap, whose arrival lowers the speed at once. -/
theorem Admitted.powerSet (h0 : f.arg16 0 ≠ 0) {rpm minutes : Nat} (hr : rpm = max 1200 (min 4500 (f.arg16 0)) / 10 * 10)
    (hm : minutes = max 1 (min 1440 (f.arg16 2))) : exec (.limitPower e) s = .next (State.settle (State.respond
      { s with ports := q, cap := s.cap.powered rpm s.now minutes, cyc := s.cappedCycle (s.cap.powered rpm s.now minutes) } p
      { status := if rpm ≠ f.arg16 0 ∨ minutes ≠ f.arg16 2 then .okClamped else .ok, echo := 0x20,
        data := be16 rpm ++ be32 (60 * minutes) })) := by
  have hrule : ruleLimitPower { s with ports := q } p f
      = { state := { s with
            ports := q, cap := s.cap.powered rpm s.now minutes, cyc := s.cappedCycle (s.cap.powered rpm s.now minutes) },
          status := if rpm ≠ f.arg16 0 ∨ minutes ≠ f.arg16 2 then .okClamped else .ok, data := be16 rpm ++ be32 (60 * minutes) } := by
    have hrpm : downToTen (clampNat 1200 4500 (f.arg16 0)) = rpm := by rw [hr, downToTen, clampNat_eq (by decide)]
    have hmin : clampNat 1 1440 (f.arg16 2) = minutes := by rw [hm, clampNat_eq (by decide)]
    unfold ruleLimitPower
    rw [if_neg h0]
    simp only [hrpm, hmin, clampStatus_or]
    exact congrArg (Answer.mk · _ _) (State.applyCaps_eq { s with ports := q } (s.cap.powered rpm s.now minutes))
  obtain ⟨hs, hp⟩ := s.cappedCycle_same (s.cap.powered rpm s.now minutes)
  exact (congrArg s.finish (h.request hrule)).trans (State.finish_same hs hp)

end request

/-! ## The condenser cap (R96) -/

theorem State.setCondenserCap_eq {s : State} (h : s.cap.condenser = false) : s.setCondenserCap
    = { s with cap := { s.cap with condenser := true }, cyc := s.cappedCycle { s.cap with condenser := true } } := by
  unfold State.setCondenserCap
  rw [h]
  exact s.applyCaps_eq _

theorem State.clearCondenserCap_eq {s : State} (h : s.cap.condenser = true) : s.clearCondenserCap
    = { s with cap := { s.cap with condenser := false }, cyc := s.liftedCycle { s.cap with condenser := false } } := by
  unfold State.clearCondenserCap
  rw [if_pos h]
  exact s.capLifted_eq _

end Sys2Proof.Machine

namespace Sys2Proof

open Sys2Proof.Machine

/-- Settles O27: the bound is one of the speed and the caps, an arrival lowers the speed and the target to it, and a lift leaves them;
a forced run takes its bound at both. -/
theorem capsBindArriveAndExpire : Obligations.CapsBindArriveAndExpire := by
  refine ⟨fun c v => ⟨c.bound_le v, fun p hp => CapRecord.bound_le_power hp v, fun hc => CapRecord.bound_le_condenser hc v,
    c.bound_cases v⟩, fun s => ?_, fun s => ?_⟩
  · intro forcedRun without lifted
    have hlifted : s.liftedCycle s.cap.unpowered = lifted := by
      unfold lifted
      cases hg : s.act.forced with
      | none => exact State.liftedCycle_plain (State.forcedRun_none fun k => k.2.2 hg)
      | some g =>
        by_cases hr : s.cyc.runFlag = true ∧ s.cyc.path = none
        · exact (State.liftedCycle_forced (State.forcedRun_some ⟨hr.1, hr.2, by simp [hg]⟩ hg)).trans (if_pos hr).symm
        · exact (State.liftedCycle_plain (State.forcedRun_none fun k => hr ⟨k.1, k.2.1⟩)).trans (if_neg hr).symm
    refine ⟨fun k hk ht => ?_, fun e p f q h => ⟨fun h0 => ?_, fun h0 => ?_⟩⟩
    · rw [← hlifted]
      exact exec_powerCapExpiry_due hk ht
    · rw [← hlifted]
      exact h.powerCancelled h0
    · intro rpm minutes cap answered
      have hset : exec (.limitPower e) s = answered (s.cappedCycle cap) := h.powerSet h0 rfl rfl
      refine ⟨fun hno => ?_, fun g hf hg => ?_⟩
      · rw [hset, State.cappedCycle_plain (State.forcedRun_none hno)]
      · rw [hset, State.cappedCycle_forced (State.forcedRun_some hf hg)]
  · intro forcedRun on off forcedSpeed
    refine ⟨fun h => if_pos h, fun h => if_neg (by simp [h]), fun h hno => ?_, fun h hno => ?_, fun g hf hg => ⟨fun h => ?_, fun h => ?_⟩⟩
    · rw [State.setCondenserCap_eq h, State.cappedCycle_plain (State.forcedRun_none hno)]
    · rw [State.clearCondenserCap_eq h, State.liftedCycle_plain (State.forcedRun_none hno)]
    · rw [State.setCondenserCap_eq h, State.cappedCycle_forced (State.forcedRun_some hf hg)]
    · rw [State.clearCondenserCap_eq h, State.liftedCycle_forced (State.forcedRun_some hf hg)]

end Sys2Proof
end

section
/-!
The forced outputs (R104, R122): the domains of the outputs, a value that is recorded alone, and the compressor's forced speed.
-/
namespace Sys2Proof.Machine

/-! ## The domains (R122, spec/11) -/

theorem forceOutOfDomain_iff (output v : Nat) : forceOutOfDomain output v = true
    ↔ 10 ≤ output ∨ (2 ≤ output ∧ output ≤ 4 ∧ 100 < v) ∨ ((output = 1 ∨ 5 ≤ output) ∧ 1 < v) := by
  unfold forceOutOfDomain
  split
  case h_1 => simp
  case h_2 | h_3 | h_4 => simp
  case h_5 h0 h2 h3 h4 =>
    have hrest : output = 1 ∨ 5 ≤ output := by
      have hne : output ≠ 0 ∧ output ≠ 2 ∧ output ≠ 3 ∧ output ≠ 4 := ⟨h0, h2, h3, h4⟩
      omega
    simp only [Bool.or_eq_true, decide_eq_true_eq]
    omega

/-! ## The forced speed (R104) -/

theorem clampStatus_clamped (w v : Nat) : clampStatus (decide (w ≠ v)) = if w = v then .ok else .okClamped := by
  by_cases h : w = v <;> simp [clampStatus, h]

section compressor
variable {s : State} {g : Forced} {v w : Nat}

theorem State.forceRefused_iff (s : State) :
    s.forceRefused = true ↔ s.cyc.state = .stopping ∨ (s.cyc.state = .off ∧ s.startBarred = true) := by
  simp [State.forceRefused]

theorem forceCompressor_refused (hv : v ≠ 0) (hr : s.forceRefused = true) : forceCompressor s g v = .refuse s .busy := by
  have hw := (clampNat_mem (lo := 1200) (hi := 4500) (by decide) v).1
  unfold forceCompressor
  simp only [if_neg hv]
  exact if_pos ⟨by omega, hr⟩

/-- A forced speed that is not refused is clamped, recorded and handed on. -/
theorem forceCompressor_taken (hv : v ≠ 0) (hr : s.forceRefused = false) (hw : w = max 1200 (min 4500 v)) : forceCompressor s g v
    = { state := (s.setForced { g with speed := w }).forceSpeed w, status := if w = v then .ok else .okClamped, data := be16 w } := by
  have hclamp : clampNat 1200 4500 v = w := by rw [hw, clampNat_eq (by decide)]
  unfold forceCompressor
  simp only [if_neg hv, hclamp, clampStatus_clamped, hr]
  exact if_neg fun k => Bool.false_ne_true k.2

theorem State.forceSpeed_off (hw : w ≠ 0) (hs : s.cyc.state = .off) :
    s.forceSpeed w = (s.enterStarting none .run).enterRunPhase (s.forcedRunSpeed w) := by
  unfold State.forceSpeed
  rw [if_neg hw, if_pos hs]

theorem State.forceSpeed_turning (hw : w ≠ 0) (hs : s.cyc.state ≠ .off) (hr : s.cyc.runFlag = true) :
    s.forceSpeed w = { s with cyc := { s.cyc with speed := s.forcedRunSpeed w } } := by
  unfold State.forceSpeed
  rw [if_neg hw, if_neg hs, if_pos hr]

/-- A stop order neither reads nor writes the ports. -/
theorem State.stopOrder_ports (s : State) (q : Ports) : State.stopOrder { s with ports := q } = { s.stopOrder with ports := q } := by
  by_cases h : s.cyc.state = .off ∨ s.cyc.state = .stopping
  · rw [State.stopOrder_rest (s := { s with ports := q }) h, State.stopOrder_rest h]
  · obtain ⟨ho, hs⟩ := not_or.mp h
    rw [State.stopOrder_stops (s := { s with ports := q }) ho hs, State.stopOrder_stops ho hs]
    rfl

end compressor

/-! ## The request (R122) -/

/-- Under service hold a value in its domain is taken by its output. -/
theorem ruleForceOutput_taken {s : State} (p : Port) {f : Frame} {g : Forced} {n : Nat}
    (hb : forceOutOfDomain (f.arg 0) (f.arg16 1) = false) (hg : s.act.forced = some g) (hn : f.arg 0 = n) :
    ruleForceOutput s p f = forceOutput s g n (f.arg16 1) := by
  unfold ruleForceOutput
  rw [hb, hg, hn]
  rfl

/-- Without service hold nothing is taken. -/
theorem ruleForceOutput_notHeld {s : State} (p : Port) {f : Frame} (hb : forceOutOfDomain (f.arg 0) (f.arg16 1) = false)
    (hf : s.act.forced = none) : ruleForceOutput s p f = .refuse s .notRunning := by
  unfold ruleForceOutput
  rw [hb, hf]
  rfl

section request
variable {s : State} {e : Ending} {p : Port} {f : Frame} {q : Ports} (h : Admitted s e .forceOutput p f q)
include h

theorem Admitted.forceBad (hb : forceOutOfDomain (f.arg 0) (f.arg16 1) = true) : exec (.forceOutput e) s
    = .next (State.settle (State.respond { s with ports := q } p { status := .badArgument, echo := 0x33, data := [] })) :=
  h.next (a := .refuse { s with ports := q } .badArgument) (if_pos hb) rfl

theorem Admitted.forceNotHeld (hb : forceOutOfDomain (f.arg 0) (f.arg16 1) = false) (hf : s.act.forced = none) : exec (.forceOutput e) s
    = .next (State.settle (State.respond { s with ports := q } p { status := .notRunning, echo := 0x33, data := [] })) :=
  h.next (ruleForceOutput_notHeld (s := { s with ports := q }) p hb hf) rfl

variable {g : Forced} (hb : forceOutOfDomain (f.arg 0) (f.arg16 1) = false) (hg : s.act.forced = some g)
include hb hg

/-- The answer of the output ends the command. -/
theorem Admitted.forceTaken {n : Nat} (hn : f.arg 0 = n) {a : Answer} (ha : forceOutput { s with ports := q } g n (f.arg16 1) = a) :
    exec (.forceOutput e) s = s.finish (a.respond p .forceOutput) :=
  h.answered h.names ((ruleForceOutput_taken (s := { s with ports := q }) p hb hg hn).trans ha)

/-- A value that leaves the cycle state and path alone hands nothing over. -/
theorem Admitted.forceSame {n : Nat} (hn : f.arg 0 = n) {a : Answer} (ha : forceOutput { s with ports := q } g n (f.arg16 1) = a)
    (hs : a.state.cyc.state = s.cyc.state) (hp : a.state.cyc.path = s.cyc.path) :
    exec (.forceOutput e) s = .next (a.respond p .forceOutput).settle :=
  (h.forceTaken hb hg hn ha).trans (State.finish_same hs hp)

/-- A stop of the forced run (R104). -/
theorem Admitted.forceStop (hn : f.arg 0 = 0) (hv : f.arg16 1 = 0) : exec (.forceOutput e) s
    = s.finish (State.respond { (s.setForced { g with speed := 0 }).stopOrder with ports := q } p
        { status := .ok, echo := 0x33, data := be16 0 }) := by
  refine h.forceTaken hb hg hn
    (a := { state := { (s.setForced { g with speed := 0 }).stopOrder with ports := q }, status := .ok, data := be16 0 }) ?_
  rw [hv, ← State.stopOrder_ports]
  rfl

/-- A start of a forced run (R104). -/
theorem Admitted.forceStart (hn : f.arg 0 = 0) (hv : f.arg16 1 ≠ 0) (hs : s.cyc.state = .off) (hbar : s.startBarred = false) {w : Nat}
    (hw : w = max 1200 (min 4500 (f.arg16 1))) : exec (.forceOutput e) s
    = s.finish (State.respond
        { ((s.setForced { g with speed := w }).enterStarting none .run).enterRunPhase (s.forcedRunSpeed w) with ports := q } p
        { status := if w = f.arg16 1 then .ok else .okClamped, echo := 0x33, data := be16 w }) := by
  have hr : State.forceRefused { s with ports := q } = false := by
    have hno : ¬ s.forceRefused = true := fun k => by simp [State.forceRefused, hs, hbar] at k
    exact Bool.eq_false_iff.mpr hno
  have htaken := forceCompressor_taken (g := g) hv hr hw
  rw [State.forceSpeed_off (by omega) (by exact hs)] at htaken
  exact h.forceTaken hb hg hn htaken

/-- Another speed of a compressor that turns (R104). -/
theorem Admitted.forceAgain (hn : f.arg 0 = 0) (hv : f.arg16 1 ≠ 0) (hs : s.cyc.state = .starting ∨ s.cyc.state = .running)
    (hf : s.cyc.runFlag = true) {w : Nat} (hw : w = max 1200 (min 4500 (f.arg16 1))) : exec (.forceOutput e) s
    = .next (State.settle (State.respond
        { s.setForced { g with speed := w } with ports := q, cyc := { s.cyc with speed := s.forcedRunSpeed w } } p
        { status := if w = f.arg16 1 then .ok else .okClamped, echo := 0x33, data := be16 w })) := by
  have hoff : s.cyc.state ≠ .off := by rcases hs with hs | hs <;> simp [hs]
  have hr : State.forceRefused { s with ports := q } = false := by
    rcases hs with hs | hs <;> simp [State.forceRefused, hs]
  have htaken := forceCompressor_taken (g := g) hv hr hw
  rw [State.forceSpeed_turning (by omega) (by exact hoff) (by exact hf)] at htaken
  exact h.forceSame hb hg hn htaken rfl rfl

end request

end Sys2Proof.Machine

namespace Sys2Proof

open Sys2Proof.Machine

/-- Settles O34: a refusal changes nothing, outputs 1 to 9 record the value alone, and output 0 hands the speed to the cycle
controller, by its state. -/
theorem forcedOutputsAreTaken : Obligations.ForcedOutputsAreTaken := by
  intro s e p f q h output v answered bad
  have hbad : forceOutOfDomain (f.arg 0) (f.arg16 1) = true ↔ bad := forceOutOfDomain_iff _ _
  refine ⟨fun hb => h.forceBad (hbad.mpr hb), fun hb => h.forceNotHeld (Bool.eq_false_iff.mpr (mt hbad.mp hb)), fun g hb hg => ?_⟩
  replace hb : forceOutOfDomain (f.arg 0) (f.arg16 1) = false := Bool.eq_false_iff.mpr (mt hbad.mp hb)
  intro forced
  have hplain (n : Nat) (hs : (forceOutput { s with ports := q } g n v).state.cyc = s.cyc) (hn : output = n) :
      exec (.forceOutput e) s = .next ((forceOutput { s with ports := q } g n v).respond p .forceOutput).settle :=
    h.forceSame hb hg hn rfl (congrArg CycleRecord.state hs) (congrArg CycleRecord.path hs)
  refine ⟨hplain 1 rfl, hplain 2 rfl, hplain 3 rfl, hplain 4 rfl, hplain 5 rfl, hplain 6 rfl, hplain 7 rfl, hplain 8 rfl, hplain 9 rfl,
    fun hn hv hr => ?_, fun hn hv hs hbar => ?_, fun hn hv hs hf => ?_, fun hn hv hs => ?_, fun hn hv => h.forceStop hb hg hn hv,
    fun hn hv hs hm => ?_⟩
  · exact h.forceSame hb hg hn (forceCompressor_refused hv ((State.forceRefused_iff { s with ports := q }).mpr hr)) rfl rfl
  · have hstart := h.forceStart hb hg hn hv hs hbar rfl
    exact ⟨hstart, fun hm => hstart.trans (State.finish_idle hm)⟩
  · exact h.forceAgain hb hg hn hv hs hf rfl
  · have hstop := h.forceStop hb hg hn hv
    rw [State.stopOrder_rest (s := s.setForced { g with speed := 0 }) hs] at hstop
    exact hstop.trans (State.finish_same rfl rfl)
  · have hway : s.cyc.state.underWay := hs.imp_right .inl
    have hstop := h.forceStop hb hg hn hv
    rw [State.stopOrder_stops (s := s.setForced { g with speed := 0 }) hway.ne_off hway.ne_stopping] at hstop
    exact ⟨_, hstop.trans (State.finish_idle hm), rfl, rfl, rfl, State.respond_answer _ p _⟩

end Sys2Proof
end

section
/-!
What a state with its outputs recomputed says of the lower defrost heater, and the step that leaves such a state (R117; log entry 18).
-/
namespace Sys2Proof.Machine

/-! ## The interlock of the lower defrost heater -/

/-- The interlock is off exactly where R117 lets the heater be on. -/
theorem State.interlocked_eq_false {s : State} :
    s.interlocked = false ↔ s.cyc.state = .off ∨ s.act.valve = .standing .upper := by
  simp [State.interlocked, Valve.standsAt, or_iff_not_imp_left]

theorem State.interlocked_iff {s : State} :
    s.interlocked = true ↔ s.cyc.state ≠ .off ∧ s.act.valve ≠ .standing .upper := by
  rw [← Bool.not_eq_false, State.interlocked_eq_false, not_or]

theorem DefrostHeater.follow_output (h : DefrostHeater) (request interlocked : Bool) :
    (h.follow request interlocked).output = true ↔ request = true ∧ interlocked = false ∧ h.limited = false := by
  simp [DefrostHeater.follow, and_assoc]

/-- In a settled state the heater is what it takes from its request and the interlock. -/
theorem State.Settled.lowerHeater {s : State} (h : s.Settled) :
    s.act.lowerHeater.follow s.lowerHeaterRequest s.interlocked = s.act.lowerHeater :=
  congrArg Actuators.lowerHeater h.act

theorem State.Settled.heaterInterlocked {s : State} (h : s.Settled) : s.HeaterInterlocked := by
  intro hon
  rw [← h.lowerHeater, DefrostHeater.follow_output] at hon
  obtain ⟨-, hfree, -⟩ := hon
  exact State.interlocked_eq_false.mp hfree

/-! ## Every step -/

theorem State.tick_settled (s : State) : s.tick.Settled := State.queueDue_settled (State.settle_settled _)

/-- A command leaves the state alone or recomputes the outputs last. -/
theorem State.Settled.exec {c : Instr} {s t : State} (hs : s.Settled) (h : exec c s = .next t) : t.Settled := by
  obtain rfl | ⟨u, rfl⟩ := exec_settles h
  · exact hs
  · exact u.settle_settled

theorem State.Settled.step {s t : State} (hs : s.Settled) (h : step s = .next t) : t.Settled := by
  obtain rfl | ⟨c, rest, h⟩ := step_cases h
  · exact s.tick_settled
  · exact (hs.queue rest s.free).exec h

end Sys2Proof.Machine

namespace Sys2Proof

open Sys2Proof.Machine

/-- Settles O53: every step ends with the outputs recomputed or leaves them as they were, and a recomputed heater is off under the
interlock. -/
theorem outputsStaySettled : Obligations.OutputsStaySettled :=
  ⟨fun _ _ hs h => hs.step h, fun _ hs => hs.heaterInterlocked⟩

end Sys2Proof
end

section
/-!
What each output takes when the outputs are recomputed: the duties of the fans, the targets of the dampers and the requests of the
heaters by what they follow, and what a fan loses at a change of its duty (R108 to R119, R139; log entry 18).
-/
namespace Sys2Proof.Machine

/-! ## The step that the actuators of a path follow -/

section path
variable {s : State} {p : Path}

/-- With no running program on a path its actuators follow no step. -/
theorem State.stepOn_free (h : ∀ g, s.runningProgram = some g → g.path ≠ p) : s.stepOn p = none := by
  unfold State.stepOn
  cases hg : s.runningProgram with
  | none => rfl
  | some g => exact if_neg (h g hg)

theorem State.stepOn_running {g : Program} {st : Step} (hg : s.runningProgram = some g) (hst : s.runningStep = some st) :
    s.stepOn p = if g.path = p then some st else none := by
  rw [State.stepOn, hg, hst]

end path

/-! ## The duties of the fans -/

section duties
variable {s : State}

theorem State.freshStopping_eq_false :
    s.freshStopping = false ↔ s.doors.leftFresh.stopping = false ∧ s.doors.rightFresh.stopping = false := Bool.or_eq_false_iff

theorem State.upperDuty_forced {g : Forced} (h : s.act.forced = some g) : s.upperDuty = g.fans.upper := by
  rw [State.upperDuty, h]

/-- The upper fan stands in TRANSFER and while UPPER is faulted or locked (R109, R113). -/
theorem State.upperDuty_heldOff (hf : s.act.forced = none) (h : s.cyc.state = .transfer ∨ s.arb.paths.upper.fault ≠ .none) :
    s.upperDuty = 0 := by
  rw [State.upperDuty, hf]
  exact if_pos h

theorem State.upperDuty_step {st : Step} (hf : s.act.forced = none) (ht : s.cyc.state ≠ .transfer)
    (hp : s.arb.paths.upper.fault = .none) (hst : s.stepOn .upper = some st) :
    s.upperDuty = if st.upperFan = true ∧ s.freshStopping = false then 70 else 0 := by
  simp [State.upperDuty, hf, ht, hp, hst]

theorem State.upperDuty_turn (hf : s.act.forced = none) (ht : s.cyc.state ≠ .transfer) (hp : s.arb.paths.upper.fault = .none)
    (hst : s.stepOn .upper = none) : s.upperDuty =
      if (s.cyc.state = .running ∧ s.cyc.path = some .upper ∧ s.freshStopping = false) ∨ s.act.afterRun.isSome = true then 70
      else 0 := by
  simp [State.upperDuty, hf, ht, hp, hst]

/-- Without a program, a turn with its doors closed and an after-run the upper fan stands, held off or not (R109, R110). -/
theorem State.upperDuty_idle (hf : s.act.forced = none) (hst : s.stepOn .upper = none) (ha : s.act.afterRun = none)
    (hno : ¬ (s.cyc.state = .running ∧ s.cyc.path = some .upper ∧ s.freshStopping = false)) : s.upperDuty = 0 := by
  by_cases h : s.cyc.state = .transfer ∨ s.arb.paths.upper.fault ≠ .none
  · exact State.upperDuty_heldOff hf h
  · obtain ⟨ht, hp⟩ := not_or.mp h
    rw [State.upperDuty_turn hf ht (not_not.mp hp) hst, if_neg]
    simp [hno, ha]

theorem State.lowerDuty_forced {g : Forced} (h : s.act.forced = some g) : s.lowerDuty = g.fans.lower := by
  rw [State.lowerDuty, h]

/-- The lower fan stands in TRANSFER, while LOWER is faulted or locked, and while the freezer drawer stops it (R111, R113). -/
theorem State.lowerDuty_heldOff (hf : s.act.forced = none)
    (h : s.cyc.state = .transfer ∨ s.arb.paths.lower.fault ≠ .none ∨ s.doors.freezerDrawer.stopping = true) : s.lowerDuty = 0 := by
  rw [State.lowerDuty, hf]
  exact if_pos h

theorem State.lowerDuty_step {st : Step} (hf : s.act.forced = none) (ht : s.cyc.state ≠ .transfer)
    (hp : s.arb.paths.lower.fault = .none) (hst : s.stepOn .lower = some st) :
    s.lowerDuty = if st.lowerFan = true ∧ s.doors.freezerDrawer.stopping = false then 80 else 0 := by
  cases hd : s.doors.freezerDrawer.stopping
  · simp [State.lowerDuty, hf, ht, hp, hst, hd]
  · exact (State.lowerDuty_heldOff hf (.inr (.inr hd))).trans (if_neg (by simp)).symm

theorem State.lowerDuty_turn (hf : s.act.forced = none) (hst : s.stepOn .lower = none)
    (h : ¬ (s.cyc.state = .transfer ∨ s.arb.paths.lower.fault ≠ .none ∨ s.doors.freezerDrawer.stopping = true)) : s.lowerDuty =
      if s.cyc.state = .running ∧ s.cyc.path = some .lower ∧ s.act.fanDelay ≠ .active then 80 else 0 := by
  rw [State.lowerDuty, hf]
  dsimp only
  rw [if_neg h, hst]

/-- Without a program and a turn past its fan delay the lower fan stands, held off or not (R111). -/
theorem State.lowerDuty_idle (hf : s.act.forced = none) (hst : s.stepOn .lower = none)
    (hno : ¬ (s.cyc.state = .running ∧ s.cyc.path = some .lower ∧ s.act.fanDelay ≠ .active)) : s.lowerDuty = 0 := by
  by_cases h : s.cyc.state = .transfer ∨ s.arb.paths.lower.fault ≠ .none ∨ s.doors.freezerDrawer.stopping = true
  · exact State.lowerDuty_heldOff hf h
  · exact (State.lowerDuty_turn hf hst h).trans (if_neg hno)

theorem State.condenserDuty_forced {g : Forced} (h : s.act.forced = some g) :
    s.condenserDuty = max g.fans.condenser (if s.cyc.state ≠ .off ∨ s.act.runOn.isSome = true then 100 else 0) := by
  rw [State.condenserDuty, h]

theorem State.condenserDuty_free (h : s.act.forced = none) :
    s.condenserDuty = if s.cyc.state ≠ .off ∨ s.act.runOn.isSome = true then 100 else 0 := by
  rw [State.condenserDuty, h]

/-! ## The targets of the dampers and the requests of the heaters -/

theorem State.damperOpen_forced {g : Forced} (h : s.act.forced = some g) (d : Damper) : s.damperOpen d = g.dampers.get d := by
  simp only [State.damperOpen, h]

/-- The dampers of the flex zone follow its turn, and each of them one path (R114). -/
theorem State.damperOpen_flexLower (h : s.act.forced = none) : s.damperOpen .flexLower = true ↔
    s.arb.serves .flex = true ∧ s.arb.turnPath = some .lower ∧ s.doors.flexDrawer.stopping = false := by
  simp [State.damperOpen, h, and_assoc]

theorem State.damperOpen_flexUpper (h : s.act.forced = none) : s.damperOpen .flexUpper = true ↔
    s.arb.serves .flex = true ∧ s.arb.turnPath = some .upper ∧ s.doors.flexDrawer.stopping = false := by
  simp [State.damperOpen, h, and_assoc]

theorem State.damperOpen_ice (h : s.act.forced = none) : s.damperOpen .ice = true ↔
    s.arb.serves .ice = true ∧ s.doors.leftFresh.stopping = false := by
  simp [State.damperOpen, h]

theorem State.lowerHeaterRequest_forced {g : Forced} (h : s.act.forced = some g) : s.lowerHeaterRequest = g.lowerHeater := by
  rw [State.lowerHeaterRequest, h]

theorem State.lowerHeaterRequest_free (hf : s.act.forced = none) (hst : s.stepOn .lower = none) : s.lowerHeaterRequest = false := by
  rw [State.lowerHeaterRequest, hf, hst]

theorem State.lowerHeaterRequest_running {g : Program} {st : Step} (hf : s.act.forced = none) (hg : s.runningProgram = some g)
    (hst : s.runningStep = some st) : s.lowerHeaterRequest = (decide (g.path = .lower) && st.heater) := by
  rw [State.lowerHeaterRequest, hf, State.stepOn_running hg hst]
  by_cases hp : g.path = .lower <;> simp [hp]

theorem State.flexHeaterRequest_forced {g : Forced} (h : s.act.forced = some g) : s.flexHeaterRequest = g.flexHeater := by
  rw [State.flexHeaterRequest, h]

theorem State.flexHeaterRequest_free (h : s.act.forced = none) :
    s.flexHeaterRequest = (s.zones.flex.heat && !s.doors.flexDrawer.isOpen) := by
  rw [State.flexHeaterRequest, h]

end duties

/-! ## What the outputs then are -/

section settled
variable (s : State)

/-- Each fan takes one duty. -/
theorem State.settle_fan (f : Fan) : ∃ duty, s.settle.act.fans.get f = (s.act.fans.get f).drive duty := by
  cases f
  · exact ⟨s.upperDuty, rfl⟩
  · exact ⟨s.lowerDuty, rfl⟩
  · exact ⟨s.condenserDuty, rfl⟩

theorem State.settle_upperDuty : s.settle.act.fans.upper.duty = s.upperDuty := FanRecord.drive_duty _ _

theorem State.settle_lowerDuty : s.settle.act.fans.lower.duty = s.lowerDuty := FanRecord.drive_duty _ _

theorem State.settle_condenserDuty : s.settle.act.fans.condenser.duty = s.condenserDuty := FanRecord.drive_duty _ _

theorem State.settle_damperTarget (d : Damper) :
    (s.settle.act.dampers.get d).target = if s.damperOpen d then 400 else 0 := by
  rw [State.settle_damper, DamperRecord.aim_target]

theorem State.settle_lowerHeater : s.settle.act.lowerHeater = s.act.lowerHeater.follow s.lowerHeaterRequest s.interlocked := rfl

theorem State.settle_flexHeater : s.settle.act.flexHeater = s.act.flexHeater.follow s.flexHeaterRequest := rfl

end settled

theorem FlexHeater.follow_output (h : FlexHeater) (request : Bool) :
    (h.follow request).output = true ↔ request = true ∧ h.rest = none := by
  simp [FlexHeater.follow]

theorem FanRecord.drive_stops {f : FanRecord} {duty : Nat} (h0 : duty = 0) (hd : f.duty ≠ 0) :
    f.drive duty = { f with duty := 0, spinUp := 0, low := 0, good := 0 } := by
  rw [FanRecord.drive, if_neg (h0 ▸ hd.symm), if_pos h0]

theorem FanRecord.drive_changes {f : FanRecord} {duty : Nat} (h0 : duty ≠ 0) (hd : duty ≠ f.duty) :
    f.drive duty = { f with duty := duty, spinUp := 0 } := by
  rw [FanRecord.drive, if_neg hd, if_neg h0]

end Sys2Proof.Machine

namespace Sys2Proof

open Sys2Proof.Machine

/-- Settles O3: an output is the value it takes from what it follows, and each clause is a case of that value. -/
theorem outputsFollowTheirRules : Obligations.OutputsFollowTheirRules := by
  refine ⟨?_, ?_⟩
  · intro s t free
    have hupper : t.act.fans.upper.duty = s.upperDuty := s.settle_upperDuty
    have hlower : t.act.fans.lower.duty = s.lowerDuty := s.settle_lowerDuty
    have hcondenser : t.act.fans.condenser.duty = s.condenserDuty := s.settle_condenserDuty
    rw [hupper, hlower, hcondenser]
    refine ⟨rfl, rfl, fun hf hs hp hfree hfault hl hr => ?_, fun hf ha ht hfree hfault => ?_, fun hf hno ha hfree => ?_,
      fun hf => State.upperDuty_heldOff hf, fun hf hs hp hfree hfault hd hfan => ?_, fun hf => State.lowerDuty_heldOff hf,
      fun hf hno hfree => ?_, fun hf hfree => State.lowerHeaterRequest_free hf (State.stepOn_free hfree),
      fun hf => State.condenserDuty_free hf, fun g hg => ?_, fun hf => ?_, DefrostHeater.follow_output _ _ _,
      FlexHeater.follow_output _ _, State.interlocked_iff, fun f => ?_⟩
    · rw [State.upperDuty_turn hf (by simp [hs]) hfault (State.stepOn_free hfree)]
      exact if_pos (.inl ⟨hs, hp, State.freshStopping_eq_false.mpr ⟨hl, hr⟩⟩)
    · rw [State.upperDuty_turn hf ht hfault (State.stepOn_free hfree)]
      exact if_pos (.inr ha)
    · refine State.upperDuty_idle hf (State.stepOn_free hfree) ha fun ⟨hs, hp, hd⟩ => ?_
      obtain ⟨hl, hr⟩ := State.freshStopping_eq_false.mp hd
      simp [hs, hp, hl, hr] at hno
    · rw [State.lowerDuty_turn hf (State.stepOn_free hfree) (by simp [hs, hfault, hd])]
      exact if_pos ⟨hs, hp, hfan⟩
    · refine State.lowerDuty_idle hf (State.stepOn_free hfree) fun ⟨hs, hp, hfan⟩ => ?_
      simp [hs, hp, hfan] at hno
    · refine ⟨State.upperDuty_forced hg, State.lowerDuty_forced hg, State.condenserDuty_forced hg, fun d => ?_,
        State.lowerHeaterRequest_forced hg, State.flexHeaterRequest_forced hg⟩
      rw [← State.damperOpen_forced hg]
      exact s.settle_damperTarget d
    · refine ⟨?_, ?_, ?_, State.flexHeaterRequest_free hf⟩
      · simp only [← State.damperOpen_flexLower hf]
        exact s.settle_damperTarget .flexLower
      · simp only [← State.damperOpen_flexUpper hf]
        exact s.settle_damperTarget .flexUpper
      · simp only [← State.damperOpen_ice hf]
        exact s.settle_damperTarget .ice
    · intro r u
      obtain ⟨duty, hu⟩ := s.settle_fan f
      have hdrive : u = r.drive duty := hu
      rw [hdrive, FanRecord.drive_duty]
      exact ⟨fun h => FanRecord.drive_same h.symm, FanRecord.drive_stops, FanRecord.drive_changes⟩
  · intro s g st hf hg hst t
    have hpath : s.stepOn g.path = some st := (State.stepOn_running hg hst).trans (if_pos rfl)
    refine ⟨fun hp hfault ht => ?_, fun hp hfault ht => ?_, State.lowerHeaterRequest_running hf hg hst⟩
    · exact s.settle_upperDuty.trans (State.upperDuty_step hf ht hfault (hp ▸ hpath))
    · exact s.settle_lowerDuty.trans (State.lowerDuty_step hf ht hfault (hp ▸ hpath))

end Sys2Proof
end

section
/-!
Reception at the three ports (R151, R152): what each byte makes of a receive state, what ends a frame and the frame it takes; and the
response that is recorded and queued (R120, R152, R157).
-/
namespace Sys2Proof.Machine

/-! ## The bytes of a frame -/

section receive
variable {b : Byte} {n : Nat} {l : List Byte}

/-- The first 24 bytes of a write transaction are kept, and every one is counted (R151). -/
theorem I2cReceive.take_keeps (h : l.length < 24) : I2cReceive.take (.writing n l) b = .writing (n + 1) (l ++ [b]) := by
  rw [I2cReceive.take, if_pos h]

theorem I2cReceive.take_drops (h : 24 ≤ l.length) : I2cReceive.take (.writing n l) b = .writing (n + 1) l := by
  rw [I2cReceive.take, if_neg (Nat.not_lt.mpr h)]

theorem lengthFits_iff : lengthFits b = true ↔ 2 ≤ b.toNat ∧ b.toNat ≤ 23 := by simp [lengthFits]

theorem lengthFits_eq_false : lengthFits b = false ↔ b.toNat < 2 ∨ 23 < b.toNat := by simp [lengthFits]; omega

theorem SReceive.take_hunt : SReceive.take .hunt b = some (if b = 0xA5#8 then .length else .hunt) := by
  exact (apply_ite some _ _ _).symm

theorem SReceive.take_length (h : lengthFits b = true) : SReceive.take .length b = some (.body b.toNat []) := if_pos h

theorem SReceive.take_body (h : l.length + 1 < n) : SReceive.take (.body n l) b = some (.body n (l ++ [b])) := if_pos h

end receive

/-! ## What ends a frame -/

section taken
variable {r : Ports} {clock n : Nat} {l : List Byte} {b : Byte} {p : I2cPort}

theorem Ports.taken_writing (h : r.rx p = .writing n l) :
    r.taken clock (.stop p) = some { port := p.port, frame := { count := n, bytes := l }, ports := r.setRx p .idle } := by
  rw [Ports.taken, h]

theorem Ports.taken_idle (h : r.rx p = .idle) : r.taken clock (.stop p) = none := by rw [Ports.taken, h]

theorem Ports.taken_body (h : r.rxS = .body n l) (hn : l.length + 1 = n) : r.taken clock (.lastByteS b) =
    some { port := .s, frame := { count := n + 1, bytes := byte n :: l ++ [b] },
           ports := { r with rxS := .hunt, lastByteS := clock } } := by
  rw [Ports.taken, h]
  exact if_pos hn

theorem Ports.taken_partial (h : r.rxS = .body n l) (hn : l.length + 1 < n) : r.taken clock (.lastByteS b) = none := by
  rw [Ports.taken, h]
  exact if_neg hn.ne

theorem Ports.taken_noBody (h : r.rxS = .hunt ∨ r.rxS = .length) : r.taken clock (.lastByteS b) = none := by
  rcases h with h | h <;> rw [Ports.taken, h]

end taken

/-! ## The response -/

/-- A valid request is one that passes steps 1 to 3 on size, check and command (R120). -/
theorem Status.validS_iff (x : Status) : x.validS = true ↔ x ≠ .checkError ∧ x ≠ .badLength ∧ x ≠ .unknownCommand := by
  cases x <;> decide

theorem Ports.respond_eq (r : Ports) (p : Port) (x : Response) : r.respond p x = { r with
    responses := r.responses.set p x,
    txS := if p = .s ∧ r.txS.length < 4 then r.txS ++ [x.bytes] else r.txS } := by
  unfold Ports.respond Ports.transmit
  by_cases hp : p = .s <;> by_cases hl : r.txS.length < 4 <;> simp [hp, hl]

theorem State.respond_ports (s : State) (p : Port) (x : Response) : (s.respond p x).ports = { s.ports with
    responses := s.ports.responses.set p x,
    txS := if p = .s ∧ s.ports.txS.length < 4 then s.ports.txS ++ [x.bytes] else s.ports.txS } := s.ports.respond_eq p x

theorem State.respond_answer_other (s : State) {p r : Port} (h : r ≠ p) (x : Response) : (s.respond p x).answer r = s.answer r := by
  rw [State.answer, State.respond_ports]
  exact PerPort.get_set_other _ h _

theorem State.respond_lastValidS (s : State) (p : Port) (x : Response) : (s.respond p x).act.lastValidS =
    if p = .s ∧ x.status.validS = true then s.now else s.act.lastValidS := by
  unfold State.respond
  dsimp only
  split <;> rfl

/-! ## The commands of reception -/

section reception
variable (s : State)

theorem exec_writeTransactionByte (p : I2cPort) (b : Byte) : exec (.writeTransactionByte p b) s
    = .next (State.settle { s with ports := s.ports.setRx p ((s.ports.rx p).take b) }) := State.finish_same rfl rfl

theorem exec_portSFrameSent : exec .portSFrameSent s
    = .next (State.settle { s with ports := { s.ports with txS := s.ports.txS.drop 1 } }) := State.finish_same rfl rfl

variable {s}

/-- A byte that Port S takes into its receive state is the last one received (R152). -/
theorem exec_portSByteReceived {b : Byte} {x y : SReceive} (hx : s.ports.rxS = x) (h : x.take b = some y) :
    exec (.portSByteReceived b) s = .next (State.settle { s with ports := { s.ports with rxS := y, lastByteS := s.clock } }) := by
  show execPortSByteReceived b s = _
  rw [execPortSByteReceived, hx, h]
  exact State.finish_same rfl rfl

theorem exec_portSLengthReject {b : Byte} (hx : s.ports.rxS = .length) (h : lengthFits b = false) :
    exec (.portSLengthReject b) s = .next s.rejectLength.settle := by
  show execPortSLengthReject b s = _
  rw [execPortSLengthReject, if_pos ⟨hx, h⟩]
  exact State.finish_same rfl rfl

theorem State.gapDue_iff : s.due .portSGapTimeout = true ↔ s.ports.rxS ≠ .hunt ∧ s.ports.lastByteS + 5 < s.clock := by
  simp [State.due, State.gapDue]

theorem exec_portSGapTimeout (hx : s.ports.rxS ≠ .hunt) (h : s.ports.lastByteS + 5 < s.clock) :
    exec .portSGapTimeout s = .next (State.settle { s with ports := { s.ports with rxS := .hunt } }) := by
  show execPortSGapTimeout s = _
  exact State.event_same (State.gapDue_iff.mpr ⟨hx, h⟩) _ rfl rfl

theorem exec_portSGapTimeout_not (h : s.ports.rxS = .hunt ∨ s.clock ≤ s.ports.lastByteS + 5) :
    exec .portSGapTimeout s = .next s := by
  show execPortSGapTimeout s = _
  refine State.event_not (Bool.eq_false_iff.mpr fun hdue => ?_) _
  obtain ⟨hx, hlt⟩ := State.gapDue_iff.mp hdue
  exact h.elim hx hlt.not_ge

end reception

end Sys2Proof.Machine

namespace Sys2Proof

open Sys2Proof.Machine

/-- Settles O39: reception by the receive state that a byte meets, the endings by the receive state they find, and a response by the
records that it replaces. -/
theorem framesArriveAndAreAnswered : Obligations.FramesArriveAndAreAnswered := by
  refine ⟨⟨exec_writeTransactionByte, fun b n l => ⟨rfl, I2cReceive.take_keeps, I2cReceive.take_drops⟩, fun s b => ?_,
      fun s => exec_portSGapTimeout, fun s => exec_portSGapTimeout_not, exec_portSFrameSent⟩, fun r clock => ?_, fun s p x => ?_⟩
  · intro taken
    refine ⟨fun hx => exec_portSByteReceived hx SReceive.take_hunt, fun hx hlo hhi => ?_, fun n l hx hn => ?_, fun hx hb => ?_⟩
    · exact exec_portSByteReceived hx (SReceive.take_length (lengthFits_iff.mpr ⟨hlo, hhi⟩))
    · exact exec_portSByteReceived hx (SReceive.take_body hn)
    · exact exec_portSLengthReject hx (lengthFits_eq_false.mpr hb)
  · exact ⟨fun n l => Ports.taken_writing (p := .a), fun n l => Ports.taken_writing (p := .b), Ports.taken_idle (p := .a),
      Ports.taken_idle (p := .b), fun n l b => Ports.taken_body, fun n l b => Ports.taken_partial, fun b => Ports.taken_noBody⟩
  · intro t
    have hports : t.ports = _ := s.respond_ports p x
    refine ⟨?_, s.respond_answer p x, fun r hr => s.respond_answer_other hr x, ?_⟩
    · obtain ⟨n, hact⟩ := s.respond_act p x
      have hlast : t.act = { s.act with lastValidS := t.act.lastValidS } := by rw [hact]
      rw [← hlast]
      rfl
    · rw [hports]
      refine ⟨rfl, rfl, rfl, rfl, rfl, ?_, rfl⟩
      simp only [← Status.validS_iff]
      exact s.respond_lastValidS p x

end Sys2Proof
end

section
/-!
The due test and the deferral of an automatic defrost (R128 to R133, R148, R170): when DEFROST_AGE_LIMIT and DEFERRAL_END are due, and what
the path wait that they begin comes to.
-/
namespace Sys2Proof.Machine

/-! ## The begin condition (R132) -/

theorem Valve.movingToward_eq_false (v : Valve) (p : Path) : v.movingToward p = false ↔ ∀ d n, v ≠ .moving p d n := by
  cases v with
  | standing x => simp [Valve.movingToward]
  | moving x d n => simp [Valve.movingToward]

theorem State.beginCondition_iff (s : State) (p : Path) : s.beginCondition p = true
    ↔ (s.cyc.state = .off ∨ ((s.cyc.state = .starting ∨ s.cyc.state = .running ∨ s.cyc.state = .transfer)
        ∧ s.cyc.path = some p.other)) ∧ ∀ d n, s.act.valve ≠ .moving p d n := by
  rw [State.beginCondition, Bool.and_eq_true, Bool.or_eq_true, decide_eq_true_iff, CycleRecord.currentOn_iff, Bool.not_eq_true',
    Valve.movingToward_eq_false]

/-! ## DUE entered, and a path wait that begins (R129, R131) -/

theorem State.enterDue_deferred {s : State} {m : Nat} (hd : s.mgr.deferralEnd = some m) (h : s.now < m) : s.enterDue = s.dueRecord := by
  unfold State.enterDue
  rw [hd]
  exact if_pos h

/-- With no deferral in force the path wait begins with DUE. -/
theorem State.enterDue_waits {s : State} (hd : s.mgr.deferralEnd.getD 0 ≤ s.now) :
    s.enterDue = State.managerReact { s with mgr := s.waiting } := if_neg (Nat.not_lt.mpr hd)

/-- Without the begin condition the auto-defrost program waits for its path; with it, it begins at once (R132). -/
theorem State.enterDue_stays {s : State} (hd : s.mgr.deferralEnd.getD 0 ≤ s.now)
    (hb : s.beginCondition (s.tables.program s.tables.autoProgram).path = false) : s.enterDue = { s with mgr := s.waiting } := by
  rw [State.enterDue_waits hd, State.managerReact_fresh (i := s.tables.autoProgram) rfl rfl rfl]
  exact if_neg (Bool.eq_false_iff.mp hb)

theorem State.enterDue_begins {s : State} (hd : s.mgr.deferralEnd.getD 0 ≤ s.now)
    (hb : s.beginCondition (s.tables.program s.tables.autoProgram).path = true) :
    s.enterDue = State.beginProgram { s with mgr := s.waiting } (s.tables.program s.tables.autoProgram) := by
  rw [State.enterDue_waits hd, State.managerReact_fresh (i := s.tables.autoProgram) rfl rfl rfl]
  exact if_pos hb

/-- Before its wait has lasted 1800 s a due program makes the begin test alone. -/
theorem State.Waits.managerReact_early {s : State} {i w : Nat} (h : s.Waits i w) (hn : s.now < w + 1800) :
    s.managerReact = s.beginTest := by
  rw [h.managerReact, if_neg fun k => by omega]

/-- A program that has begun takes no hand-over (R133). -/
theorem State.finish_begins (s u : State) (g : Program) : s.finish (u.beginProgram g) = .next (u.beginProgram g).settle :=
  State.finish_idle (by rw [State.beginProgram_eq]; simp)

/-! ## DEFROST_AGE_LIMIT and DEFERRAL_END (R128, R131) -/

theorem exec_defrostAgeLimit_due {s : State} (hc : s.clock % 100 = 0) (ha : s.acct.age = 259200) :
    exec .defrostAgeLimit s = s.finish s.dueTest := by
  have hdue : s.due .defrostAgeLimit = true := by
    show (decide (s.clock % 100 = 0) && decide (s.acct.age = 259200)) = true
    rw [decide_eq_true hc, decide_eq_true ha]
    rfl
  exact State.event_due hdue State.dueTest

theorem exec_deferralEnd_due {s : State} {m d : Nat} (hs : s.mgr.state = .due) (hk : s.mgr.kind = some .automatic)
    (hw : s.mgr.waitStart = none) (hm : s.mgr.deferralEnd = some m) (hd : s.mgr.dueMoment = some d) (hle : m ≤ s.now) :
    exec .deferralEnd s = s.finish (s.beginWait (max d m)) := by
  have hdue : s.due .deferralEnd = true := by
    show s.deferralDue = true
    simp [State.deferralDue, hs, hk, hw, hm, hle]
  have hend : s.endDeferral = s.beginWait (max d m) := by
    rw [State.endDeferral, hd, hm]
    rfl
  exact (State.event_due hdue State.endDeferral).trans (congrArg s.finish hend)

end Sys2Proof.Machine

namespace Sys2Proof

open Sys2Proof.Machine

/-- Settles O35: the due test finds the age at its limit and enters DUE, deferred, waiting or with the program begun; the deferral's end
begins the same path wait. -/
theorem defrostFallsDueAndWaits : Obligations.DefrostFallsDueAndWaits := by
  refine ⟨?_, ?_⟩
  · intro s hc ha i g
    have hexec := exec_defrostAgeLimit_due hc ha
    have henter (hr : s.ready = true) (hs : s.mgr.state = .idle) (hf : s.act.forced = none) :
        exec .defrostAgeLimit s = s.finish s.enterDue :=
      hexec.trans (congrArg s.finish (State.dueTest_due hs ⟨hr, hf, .inr ha.ge⟩))
    refine ⟨fun hno => ?_, fun m hr hs hf hm hlt => ?_, fun hr hs hf hd hb => ?_, fun hr hs hf hd hb => ?_, s.beginCondition_iff⟩
    · have hstands : s.dueTest = s := State.dueTest_not fun ⟨hs, hr, hf, _⟩ => by
        rcases hno with h | h | h
        · exact absurd (h.symm.trans hr) (by simp)
        · exact h hs
        · exact h hf
      rw [hexec, hstands]
      exact State.finish_same rfl rfl
    · rw [henter hr hs hf, State.enterDue_deferred hm hlt]
      exact State.finish_same rfl rfl
    · rw [henter hr hs hf, State.enterDue_stays hd hb]
      exact State.finish_same rfl rfl
    · refine ⟨_, (henter hr hs hf).trans ((congrArg s.finish (State.enterDue_begins hd hb)).trans (State.finish_begins _ _ _)), ?_⟩
      rw [State.beginProgram_eq]
      refine ⟨rfl, ?_, fun ho => ?_, fun hp => ?_, fun hp => ?_, rfl, rfl, rfl⟩
      · exact congrArg PathRecord.blocked (PerPath.get_set_same _ _ _)
      · exact Bool.or_eq_true_iff.mpr (.inr ho)
      · exact if_pos hp
      · exact if_pos hp
  · intro s i m d hs hk hi hw hm hd hle waiting
    have hexec : exec .deferralEnd s = s.finish waiting.managerReact := exec_deferralEnd_due hs hk hw hm hd hle
    have h : waiting.Waits i (max d m) := ⟨hs, hi, rfl⟩
    refine ⟨hexec, fun hn hb => ?_, fun hn hb => ?_⟩
    · rw [hexec, h.managerReact_early hn, h.beginTest_stays hb]
      exact State.finish_same rfl rfl
    · rw [h.managerReact_early hn, h.beginTest_begins hb] at hexec
      refine ⟨_, hexec.trans (State.finish_begins _ _ _), ?_⟩
      rw [State.beginProgram_eq]
      exact ⟨rfl, hi, rfl, rfl, if_pos hk⟩

end Sys2Proof
end

section
/-!
DEFER_DEFROST, RUN_PROGRAM and ABORT_PROGRAM (R130, R143, R146; log entry 27): each command's rule by its cases, and how the admitted
request ends.
-/
namespace Sys2Proof.Machine

section rules
variable {s : State} {p : Port} {f : Frame}

/-! ## DEFER_DEFROST (R130) -/

/-- A deferral is answered as clamped where its minutes were, or where the limit on the total deferral cut it short. -/
theorem clampStatus_deferral {asked minutes ends now limit : Nat} (he : ends = min (now + 60 * minutes) limit) :
    clampStatus (decide (minutes ≠ asked) || decide (ends < now + 60 * minutes))
      = if minutes = asked ∧ ends = now + 60 * minutes then .ok else .okClamped := by
  have hcut : (minutes ≠ asked ∨ ends < now + 60 * minutes) ↔ ¬ (minutes = asked ∧ ends = now + 60 * minutes) := by omega
  rw [← Bool.decide_or]
  by_cases h : minutes = asked ∧ ends = now + 60 * minutes
  · rw [if_pos h, decide_eq_false fun k => hcut.mp k h]
    rfl
  · rw [if_neg h, decide_eq_true (hcut.mpr h)]
    rfl

theorem ruleDeferDefrost_eq {minutes ends : Nat} (hm : minutes = max 1 (min 240 (f.arg16 0)))
    (he : ends = min (s.now + 60 * minutes) (s.deferralBase + 14400)) :
    ruleDeferDefrost s p f =
      { state := s.defer ends,
        status := if minutes = f.arg16 0 ∧ ends = s.now + 60 * minutes then .ok else .okClamped,
        data := be32 (ends - s.now) } := by
  have hclamp : clampNat 1 240 (f.arg16 0) = minutes := (clampNat_eq (by decide) _).trans hm.symm
  have hends : s.deferralEndFor minutes = ends := he.symm
  unfold ruleDeferDefrost
  simp only [hclamp, hends, clampStatus_deferral he]

/-! ## RUN_PROGRAM (R146) -/

theorem ruleRunProgram_unknown (h : 8 ≤ f.arg 0 ∨ (s.tables.program (f.arg 0)).valid = false) :
    ruleRunProgram s p f = .refuse s .badArgument := if_pos h

theorem ruleRunProgram_busy (hi : f.arg 0 < 8) (hv : (s.tables.program (f.arg 0)).valid = true)
    (h : s.mgr.state ≠ .idle ∨ s.act.forced ≠ none) : ruleRunProgram s p f = .refuse s .busy := by
  have hbusy : s.mgr.state ≠ .idle ∨ s.serviceHold = true := h.imp_right Option.isSome_iff_ne_none.mpr
  unfold ruleRunProgram
  dsimp only
  rw [if_neg (by simp [hv, hi]), if_pos hbusy]

theorem ruleRunProgram_taken (hi : f.arg 0 < 8) (hv : (s.tables.program (f.arg 0)).valid = true)
    (hs : s.mgr.state = .idle) (hf : s.act.forced = none) : ruleRunProgram s p f = .ok (s.runManual (f.arg 0)) := by
  unfold ruleRunProgram
  dsimp only
  rw [if_neg (by simp [hv, hi]), if_neg (by simp [hs, State.serviceHold, hf])]

/-- The manual run of a program is due, and its path wait begins at once (R146). -/
def State.manualDue (s : State) (i : Nat) : State :=
  { s with
    mgr := { s.mgr with
      state := .due, program := some i, kind := some .manual, dueMoment := some s.now, releaseAsked := false,
      waitStart := some s.now } }

/-- A manual run waits for its path where the begin condition does not hold, and begins where it does (R132). -/
theorem State.runManual_waits {i : Nat} (hb : s.beginCondition (s.tables.program i).path = false) : s.runManual i = s.manualDue i :=
  (State.managerReact_fresh (s := s.manualDue i) rfl rfl rfl).trans (if_neg (Bool.eq_false_iff.mp hb))

theorem State.runManual_begins {i : Nat} (hb : s.beginCondition (s.tables.program i).path = true) :
    s.runManual i = (s.manualDue i).beginProgram (s.tables.program i) :=
  (State.managerReact_fresh (s := s.manualDue i) rfl rfl rfl).trans (if_pos hb)

/-! ## ABORT_PROGRAM (R143) -/

theorem ruleAbortProgram_running {i : Nat} (hs : s.mgr.state = .running) (hi : s.mgr.program = some i) :
    ruleAbortProgram s p f = .ok (s.abort (s.tables.program i)) := by
  unfold ruleAbortProgram State.programRecord
  rw [hs, hi]
  rfl

theorem ruleAbortProgram_exiting (hs : s.mgr.state = .exiting) : ruleAbortProgram s p f = .refuse s .busy := by
  unfold ruleAbortProgram
  rw [hs]

theorem ruleAbortProgram_notRunning (h : s.mgr.state = .idle ∨ s.mgr.state = .due ∨ s.mgr.state = .holdoff) :
    ruleAbortProgram s p f = .refuse s .notRunning := by
  unfold ruleAbortProgram
  rcases h with h | h | h <;> rw [h]

end rules

end Sys2Proof.Machine

namespace Sys2Proof

open Sys2Proof.Machine

/-- Settles O47: each rule answers by its cases, and none of the three moves the cycle, so that nothing is handed over. -/
theorem deferralsManualRunsAndAborts : Obligations.DeferralsManualRunsAndAborts := by
  refine ⟨fun s e p f q => ⟨?_, ?_⟩, ?_⟩
  · intro h minutes base ends
    exact h.next (ruleDeferDefrost_eq (minutes := minutes) (ends := ends) rfl rfl) rfl
  · intro h i answered
    refine ⟨fun hbad => h.next (ruleRunProgram_unknown hbad) rfl, fun hi hv hbusy => h.next (ruleRunProgram_busy hi hv hbusy) rfl,
      fun hi hv hs hf => ?_⟩
    let u : State := { s with ports := q }
    have hrule : ruleRunProgram u p f = .ok (u.runManual i) := ruleRunProgram_taken hi hv hs hf
    cases hb : s.beginCondition (s.tables.program i).path with
    | false =>
      rw [State.runManual_waits (s := u) hb] at hrule
      exact ⟨_, h.next hrule rfl, State.respond_answer _ p _, rfl, rfl, rfl, fun _ => ⟨rfl, rfl, rfl, rfl⟩, nofun, rfl, rfl⟩
    | true =>
      rw [State.runManual_begins (s := u) hb, State.beginProgram_eq] at hrule
      exact ⟨_, h.next hrule rfl, State.respond_answer _ p _, rfl, rfl, rfl, nofun, fun _ => ⟨rfl, rfl, rfl⟩, rfl, rfl⟩
  · intro s e p f q h answered
    exact ⟨fun i hs hi => h.next (ruleAbortProgram_running hs hi) rfl, fun hs => h.next (ruleAbortProgram_exiting hs) rfl,
      fun hs => h.next (ruleAbortProgram_notRunning hs) rfl⟩

end Sys2Proof
end

section
/-!
The end of a step, whatever ends it (R140, R141, R143, R144): what its events and its measurement are, and what follows in RUNNING and
EXITING.
-/
namespace Sys2Proof.Machine

/-! ## The events of a step's end (R141) -/

theorem sensorEvents_sub (before after : ChannelRecord) : sensorEvents before after ⊆ [.sensor] := by
  unfold sensorEvents
  split <;> simp

/-- Until the manager takes a sample, SENSOR is the one kind that it can have raised. -/
theorem State.reported_grow (s : State) (ch : Channel) (code : Nat) : EventsGrow [.sensor] s (s.reported ch code) := by
  let u : State := { s with channels := s.channels.set ch (sampleRecord s.tables.conv code (s.channels.get ch)) }
  have hsensed : EventsGrow [.sensor] u (s.sensed ch code) := (u.raiseAll_grow _).mono (sensorEvents_sub _ _)
  have hreport := (State.evaporatorReport_turn (s.sensed ch code) (s.sampleReport ch code)).grow [.sensor]
  have hchannel : EventsGrow [.sensor] s u := .of_events rfl
  exact hchannel.trans (hsensed.trans hreport)

/-- The end of a step raises STEP_TIMEOUT at a timeout, and PROGRAM_STEP where the step asks for it. -/
theorem State.noteStepEnd_holds (s : State) (st : Step) (cause : EndCause) (p : Port) (k : EventKind) :
    holdsKind ((s.noteStepEnd st cause).events.get p).set k
      = (holdsKind (s.events.get p).set k || (decide (cause = .timeout) && decide (k = .stepTimeout))
          || (st.notify && decide (k = .programStep))) := by
  have hraise (b : Bool) (u : State) (j : EventKind) : holdsKind ((if b = true then u.raise j else u).events.get p).set k
      = (holdsKind (u.events.get p).set k || (b && decide (k = j))) := by
    cases b with
    | false => simp
    | true => simp [State.raise_holds]
  have hmeasure (b : Bool) (u : State) : (if b = true then u.measureStep cause else u).events = u.events := by cases b <;> rfl
  have hcause (u v : State) : (if cause = .timeout then u else v) = if decide (cause = .timeout) = true then u else v := by simp
  unfold State.noteStepEnd
  extract_lets s1 s2
  rw [hmeasure]
  unfold s2 s1
  rw [hraise, hcause, hraise]

/-- What a step's end tells, among what later acts of the event leave: its events and its measurement. -/
structure StepTold (s : State) (st : Step) (cause : EndCause) (t : State) : Prop where
  timeout : ∀ p, holdsKind (t.events.get p).set .stepTimeout = (holdsKind (s.events.get p).set .stepTimeout || decide (cause = .timeout))
  notify : ∀ p, holdsKind (t.events.get p).set .programStep = (holdsKind (s.events.get p).set .programStep || st.notify)
  measurement : t.mgr.lastMeasurement = (s.measured st cause).lastMeasurement

/-- The kinds that the begin and the end of a program raise. -/
def programKinds : List EventKind := [.defrostBegin, .defrostEnd]

theorem Reacts.programs {s t : State} (h : Reacts s t) : EventsGrow programKinds s t := h.grow.mono (by simp [programKinds])

/-- From a state that has at most sensed, the end of a step is told, whatever begins or ends after it. -/
theorem StepTold.of_noted {s u t : State} {st : Step} {cause : EndCause} (hu : Sensed s u) (hs : EventsGrow [.sensor] s u)
    (ht : EventsGrow programKinds (u.noteStepEnd st cause) t)
    (hm : t.mgr.lastMeasurement = (u.noteStepEnd st cause).mgr.lastMeasurement) : StepTold s st cause t where
  timeout p := by
    rw [ht.only p .stepTimeout (by simp [programKinds]), u.noteStepEnd_holds, hs.only p .stepTimeout (by simp)]
    simp
  notify p := by
    rw [ht.only p .programStep (by simp [programKinds]), u.noteStepEnd_holds, hs.only p .programStep (by simp)]
    simp
  measurement := hm.trans (congrArg Manager.lastMeasurement (hu.noted st cause).mgr)

/-! ## What ends a step -/

section running
variable {s : State} {g : Program} {st : Step} {n : Nat} (hg : s.runningProgram = some g) (hst : s.runningStep = some st)
include hg hst

theorem exec_stepDurationExpiry_due (hk : st.endKind = .time) (hn : s.mgr.stepTimer = some n) (hd : st.duration ≤ n) :
    exec .stepDurationExpiry s = s.finish (s.endStep g st .time) := by
  have hdue : s.due .stepDurationExpiry = true := by
    show s.durationDue = true
    rw [State.durationDue, hst]
    simp [hk, reached_of_le hn hd]
  exact (State.event_due hdue fun t => t.stepEnds .time).trans (congrArg s.finish (State.stepEnds_running hg hst .time))

theorem exec_stepTimeoutExpiry_due (hk : st.endKind ≠ .time) (hn : s.mgr.stepTimer = some n) (hd : st.timeout ≤ n) :
    exec .stepTimeoutExpiry s = s.finish (s.endStep g st .timeout) := by
  have hdue : s.due .stepTimeoutExpiry = true := by
    show s.timeoutDue = true
    rw [State.timeoutDue, hst]
    simp [hk, reached_of_le hn hd]
  exact (State.event_due hdue fun t => t.stepEnds .timeout).trans (congrArg s.finish (State.stepEnds_running hg hst .timeout))

theorem State.sample_ends {ch : Channel} {code : Nat} {t : Int} (hch : ch = evaporatorChannel g.path)
    (ht : (s.sampleReport ch code).trusted = some t) (hmet : st.met t = true) :
    s.sample ch code = (s.reported ch code).endStep g st .condition := by
  have hair : airZone ch = none := by rw [hch]; cases g.path <;> rfl
  obtain ⟨rg, rst⟩ := s.reported_running ch code
  rw [State.sample_evaporator s hair, State.stepReport_running (rg.trans hg) (rst.trans hst) hch, ht]
  exact if_pos hmet

end running

/-- Whatever ends a step, it ends it from a state that the command has at most sensed in, with no kind raised but SENSOR. -/
theorem State.EndsStep.ends_grow {s : State} {i j n : Nat} {c : Instr} {cause : EndCause} (h : s.EndsStep i j n c cause) :
    ∃ u, Sensed s u ∧ EventsGrow [.sensor] s u
      ∧ exec c s = s.finish (u.endStep (s.tables.program i) (s.tables.step j) cause) := by
  obtain ⟨hg, hst⟩ := h.runs
  have hself : Sensed s s := ⟨_, _, _, rfl, rfl⟩
  obtain ⟨-, -, -, hn, hcause⟩ := h
  rcases hcause with ⟨rfl, rfl, hk, hd⟩ | ⟨rfl, rfl, hk, hd⟩ | ⟨rfl, him, hse, code, t, rfl, ht, hmet⟩
  · exact ⟨s, hself, .refl _ s, exec_stepDurationExpiry_due hg hst hk hn hd⟩
  · exact ⟨s, hself, .refl _ s, exec_stepTimeoutExpiry_due hg hst hk hn hd⟩
  · have hch : (if (s.tables.program i).path = .upper then Channel.ch4 else .ch5) = evaporatorChannel (s.tables.program i).path := by
      cases (s.tables.program i).path <;> rfl
    have hmeets : (s.tables.step j).met t = true := by
      rcases hmet with ⟨hk, hm⟩ | ⟨hk, hm⟩ <;> simp [Step.met, hk, hm]
    exact ⟨_, s.reported_sensed _ code.toNat, s.reported_grow _ code.toNat,
      (exec_sampleCompletion him hse _ code).trans (congrArg s.finish (State.sample_ends hg hst hch ht hmeets))⟩

/-! ## What follows a step's end (R141) -/

section ending
variable {s : State} {g : Program} {st : Step} {cause : EndCause}

theorem State.endStep_aborts (h : s.mgr.state = .running ∧ cause = .timeout ∧ st.abortOnTimeout = true) :
    s.endStep g st cause = (s.noteStepEnd st cause).abort g := if_pos h

theorem State.endStep_next (h : ¬ (s.mgr.state = .running ∧ cause = .timeout ∧ st.abortOnTimeout = true)) (hl : st.last = false) :
    s.endStep g st cause = (s.noteStepEnd st cause).beginStep st.next := by
  unfold State.endStep
  simp only [if_neg h, hl, Bool.false_eq_true, if_false]

theorem State.measured_eq {i n : Nat} (hi : s.mgr.program = some i) (hn : s.mgr.stepTimer = some n) : s.measured st cause = { s.mgr with
    runMeasurement := if st.measure then some { elapsed := n, cause := cause } else s.mgr.runMeasurement,
    lastMeasurement := if st.measure then some (i, { elapsed := n, cause := cause }) else s.mgr.lastMeasurement } := by
  simp only [State.measured, hi, hn, Option.getD_some, Option.map_some]

end ending

theorem State.dueTest_measured (s : State) : s.dueTest.mgr.lastMeasurement = s.mgr.lastMeasurement := by
  by_cases h : s.mgr.state = .idle ∧ s.FallsDue
  · rw [State.dueTest_due h.1 h.2, s.enterDue_activates.measured]
    rfl
  · rw [State.dueTest_not h]

theorem State.completed_grow (s : State) (g : Program) : EventsGrow programKinds s (s.completed g) := by
  unfold State.completed
  extract_lets s1 s2 s3
  have h2 : s2.events = s.events := by unfold s2; split <;> rfl
  have h3 : EventsGrow programKinds (s2.programEnded g) s3 := .raise _ (by simp [programKinds])
  exact (EventsGrow.of_events ((s2.programEnded_keeps g).1.trans h2)).trans (h3.trans (.of_events rfl))

theorem State.exitEnded_programs (s : State) (g : Program) : EventsGrow programKinds s (s.exitEnded g) := by
  have hended : EventsGrow programKinds s ((s.recordOutcome .aborted).programEnded g) :=
    .of_events ((s.recordOutcome .aborted).programEnded_keeps g).1
  have hraised : EventsGrow programKinds ((s.recordOutcome .aborted).programEnded g) (s.exitEnded g) :=
    (EventsGrow.raise _ (by simp [programKinds])).trans (.of_events rfl)
  exact hended.trans hraised

/-- What the end of a last step leaves at the end of its event: no kind raised but those of a program's end and begin, the last
measurement as the step left it, the outcome noted, and the end told in every event set. -/
structure EndTold (v : State) (o : ProgramOutcome) (t : State) : Prop where
  grow : EventsGrow programKinds v t
  measurement : t.mgr.lastMeasurement = v.mgr.lastMeasurement
  outcome : t.mgr.lastOutcome = v.mgr.program.map fun i => (i, o, v.now)
  told : ∀ p, holdsKind (t.events.get p).set .defrostEnd = true

/-- A completion, its due test and the hand-over of the cycle state (R142). -/
theorem State.complete_endTold (s v : State) (g : Program) : EndTold v .completed (State.handOver s (v.complete g)) := by
  have hreacts : Reacts (v.completed g) (State.handOver s (v.complete g)) :=
    (State.dueTest_reacts _).trans (State.handOver_reacts s _)
  have hmeas : (State.handOver s (v.complete g)).mgr.lastMeasurement = (v.completed g).mgr.lastMeasurement :=
    (State.handOver_activates s _).measured.trans (State.dueTest_measured _)
  have hmgr := v.completed_mgr g
  exact
    { grow := (v.completed_grow g).trans hreacts.programs
      measurement := hmeas.trans (by rw [hmgr]; rfl)
      outcome := hreacts.outcome.trans (by rw [hmgr]; rfl)
      told := fun p => hreacts.grow.keeps p _ ((v.completed_finished g).told p) }

/-- The end of an exit chain (R144). -/
theorem State.exitEnded_endTold (v : State) (g : Program) : EndTold v .aborted (v.exitEnded g) := by
  have hmgr := v.exitEnded_mgr g
  exact
    { grow := v.exitEnded_programs g
      measurement := by rw [hmgr]; rfl
      outcome := by rw [hmgr]; rfl
      told := (v.exitEnded_finished g).told }

end Sys2Proof.Machine

namespace Sys2Proof

open Sys2Proof.Machine

/-- Settles O37: the end of a step is noted in one way, and what follows it raises neither of the step's kinds and leaves the last
measurement. -/
theorem stepsEnd : Obligations.StepsEnd := by
  intro s i j n c cause h st m measured aborts
  obtain ⟨u, hu, hgrow, hexec⟩ := h.ends_grow
  obtain ⟨hrun, hi, hj, htimer, -⟩ := h
  let g := s.tables.program i
  let v := u.noteStepEnd st cause
  have hv : Noted s st cause v := hu.noted st cause
  have hm : s.measured st cause = measured := State.measured_eq hi htimer
  have hvm : v.mgr = measured := hv.mgr.trans hm
  have hstate : u.mgr.state = s.mgr.state := congrArg Manager.state hu.mgr
  have told (t : State) (ht : EventsGrow programKinds v t) (hl : t.mgr.lastMeasurement = v.mgr.lastMeasurement) :
      StepTold s st cause t.settle ∧ t.settle.mgr.lastMeasurement = measured.lastMeasurement :=
    ⟨.of_noted hu hgrow (ht.trans (.of_events rfl)) hl, hl.trans (congrArg Manager.lastMeasurement hvm)⟩
  by_cases ha : aborts
  · have hend : exec c s = s.finish (v.abort g) :=
      hexec.trans (congrArg s.finish (State.endStep_aborts (by rw [hstate]; exact ha)))
    have hmgr : (v.abort g).mgr = { v.mgr with state := .exiting, step := some g.exitHead, stepTimer := some 0 } := rfl
    obtain ⟨htold, hlast⟩ := told (v.abort g) (.of_events rfl) rfl
    refine ⟨_, hend.trans (State.finish_idle (by rw [hmgr]; simp)), htold.timeout, htold.notify, hlast,
      fun _ => ⟨hmgr.trans (by rw [hvm]), hv.arb, hv.window, hv.acct⟩, fun hn => absurd ha hn, fun hn => absurd ha hn⟩
  have hno : ¬ (u.mgr.state = .running ∧ cause = .timeout ∧ st.abortOnTimeout = true) := by rw [hstate]; exact ha
  cases hl : st.last with
  | false =>
    have hend : exec c s = s.finish (v.beginStep st.next) := hexec.trans (congrArg s.finish (State.endStep_next hno hl))
    have hmgr : (v.beginStep st.next).mgr = { v.mgr with step := some st.next, stepTimer := some 0 } := rfl
    have hidle : (v.beginStep st.next).mgr.state ≠ .due := by
      rw [hmgr, hvm]
      rcases hrun with hr | hr <;> simp [measured, hr]
    obtain ⟨htold, hlast⟩ := told (v.beginStep st.next) (.of_events rfl) rfl
    exact ⟨_, hend.trans (State.finish_idle hidle), htold.timeout, htold.notify, hlast, fun h => absurd h ha,
      fun _ _ => ⟨hmgr.trans (by rw [hvm]), hv.arb, hv.window, hv.acct⟩, nofun⟩
  | true =>
    have houtcome (o : ProgramOutcome) : (v.mgr.program.map fun x => (x, o, v.now)) = some (i, o, s.now) := by
      rw [hvm, hv.now]
      simp [measured, hi]
    rcases hrun with hr | hr
    · have hend : exec c s = s.finish (v.complete g) :=
        hexec.trans (congrArg s.finish (State.endStep_completes g (hstate.trans hr) hl fun k => ha ⟨hr, k⟩))
      have hdone := State.complete_endTold s v g
      obtain ⟨htold, hlast⟩ := told _ hdone.grow hdone.measurement
      exact ⟨_, hend, htold.timeout, htold.notify, hlast, fun h => absurd h ha, nofun, fun _ _ =>
        ⟨fun _ => hdone.outcome.trans (houtcome _), fun hx => absurd (hr.symm.trans hx) (by simp), hdone.told⟩⟩
    · have hend : exec c s = s.finish (v.exitEnded g) :=
        hexec.trans (congrArg s.finish (State.endStep_exits g (hstate.trans hr) hl))
      have hmgr := v.exitEnded_mgr g
      have hover := v.exitEnded_endTold g
      obtain ⟨htold, hlast⟩ := told _ hover.grow hover.measurement
      exact ⟨_, hend.trans (State.finish_idle (by simp [hmgr, State.ended, Manager.atRest])), htold.timeout, htold.notify, hlast,
        fun h => absurd h ha, nofun, fun _ _ => ⟨fun hx => absurd (hr.symm.trans hx) (by simp),
          fun _ => ⟨hover.outcome.trans (houtcome _), congrArg Manager.state hmgr⟩, hover.told⟩⟩

end Sys2Proof
end

section
/-!
The writes of steps, programs and global parameters (R134, R136, R137, R160): what a valid chain and a step in use are, told by lists of
steps, and the rules in the order of their checks.
-/
namespace Sys2Proof.Machine

/-! ## Valid chains (R134, R136) -/

theorem Step.ownedBy_iff (st : Step) (p : Path) : st.ownedBy p = true
    ↔ (p = .lower → st.upperFan = false) ∧ (p = .upper → st.heater = false ∧ st.lowerFan = false) := by
  cases p <;> simp [Step.ownedBy]

/-- A list of steps runs to a step with LAST: each is a step that the path owns, the end of the list is the one with LAST, and every other
names the next (R134, R136). -/
def RunsToLast (steps : List Step) (p : Path) (l : List Nat) : Prop :=
  ∀ k i, l[k]? = some i → ∃ st, steps[i]? = some st ∧ (p = .lower → st.upperFan = false)
    ∧ (p = .upper → st.heater = false ∧ st.lowerFan = false) ∧ (st.last = true ↔ k + 1 = l.length)
    ∧ (st.last = false → l[k + 1]? = some st.next)

section chains
variable {steps : List Step} {p : Path}

theorem RunsToLast.nil : RunsToLast steps p [] := by
  intro k i h
  simp at h

/-- A list runs to LAST where its first step leads into the rest, which runs to LAST. -/
theorem RunsToLast.cons_iff {i : Nat} {l : List Nat} : RunsToLast steps p (i :: l)
    ↔ (∃ st, steps[i]? = some st ∧ st.ownedBy p = true ∧ (st.last = true ↔ l = []) ∧ (st.last = false → l[0]? = some st.next))
      ∧ RunsToLast steps p l := by
  simp only [Step.ownedBy_iff, and_assoc]
  constructor
  · intro h
    refine ⟨?_, fun k j hk => ?_⟩
    · simpa using h 0 i rfl
    · simpa using h (k + 1) j (by simpa using hk)
  · rintro ⟨hfirst, hrest⟩ k j hk
    cases k with
    | zero =>
      obtain rfl : i = j := by simpa using hk
      simpa using hfirst
    | succ k => simpa using hrest k j (by simpa using hk)

theorem chainFrom_none {n : Nat} {visited : List Nat} {i : Nat} (h : steps[i]? = none) : chainFrom steps p (n + 1) visited i = false := by
  rw [chainFrom, h]

theorem chainFrom_some {n : Nat} {visited : List Nat} {i : Nat} {st : Step} (h : steps[i]? = some st) :
    chainFrom steps p (n + 1) visited i = true
      ↔ i ∉ visited ∧ st.ownedBy p = true ∧ (st.last = true ∨ chainFrom steps p n (i :: visited) st.next = true) := by
  rw [chainFrom, h]
  simp [and_assoc]

/-- The chain test follows the steps as a list that runs to LAST and comes to no step again. -/
theorem chainFrom_iff {n : Nat} {visited : List Nat} {i : Nat} : chainFrom steps p n visited i = true
    ↔ ∃ l, (i :: l).length ≤ n ∧ (i :: l).Nodup ∧ (∀ x ∈ i :: l, x ∉ visited) ∧ RunsToLast steps p (i :: l) := by
  induction n generalizing visited i with
  | zero => simp [chainFrom]
  | succ n ih =>
    constructor
    · intro h
      cases hst : steps[i]? with
      | none => simp [chainFrom_none hst] at h
      | some st =>
        obtain ⟨hnew, hown, hon⟩ := (chainFrom_some hst).mp h
        cases hl : st.last with
        | true =>
          exact ⟨[], by simp, by simp, by simpa using hnew,
            RunsToLast.cons_iff.mpr ⟨⟨st, hst, hown, by simp [hl], by simp [hl]⟩, .nil⟩⟩
        | false =>
          obtain ⟨l, hlen, hnodup, hfresh, hrun⟩ := ih.mp (hon.resolve_left (by simp [hl]))
          have hi : i ∉ st.next :: l := fun k => hfresh i k List.mem_cons_self
          refine ⟨st.next :: l, Nat.succ_le_succ hlen, List.nodup_cons.mpr ⟨hi, hnodup⟩, fun x hx => ?_,
            RunsToLast.cons_iff.mpr ⟨⟨st, hst, hown, by simp [hl], fun _ => rfl⟩, hrun⟩⟩
          rcases List.mem_cons.mp hx with rfl | hx
          · exact hnew
          · exact fun k => hfresh x hx (List.mem_cons_of_mem i k)
    · rintro ⟨l, hlen, hnodup, hfresh, hrun⟩
      obtain ⟨⟨st, hst, hown, hlast, hnext⟩, hrest⟩ := RunsToLast.cons_iff.mp hrun
      obtain ⟨hi, hnodup⟩ := List.nodup_cons.mp hnodup
      refine (chainFrom_some hst).mpr ⟨hfresh i List.mem_cons_self, hown, ?_⟩
      cases l with
      | nil => exact .inl (hlast.mpr rfl)
      | cons j l =>
        have hl : st.last = false := Bool.eq_false_iff.mpr fun k => by simpa using hlast.mp k
        obtain rfl : j = st.next := by simpa using hnext hl
        refine .inr (ih.mpr ⟨l, Nat.le_of_succ_le_succ hlen, hnodup, fun x hx => ?_, hrest⟩)
        rw [List.mem_cons, not_or]
        exact ⟨fun k => hi (k ▸ hx), hfresh x (List.mem_cons_of_mem i hx)⟩

theorem chainValid_iff {head : Nat} : chainValid steps p head = true
    ↔ ∃ l : List Nat, l[0]? = some head ∧ l.length ≤ 16 ∧ l.Nodup ∧ RunsToLast steps p l := by
  rw [chainValid, chainFrom_iff]
  constructor
  · rintro ⟨l, hlen, hnodup, -, hrun⟩
    exact ⟨_, rfl, hlen, hnodup, hrun⟩
  · rintro ⟨_ | ⟨i, l⟩, h0, hlen, hnodup, hrun⟩
    · simp at h0
    · obtain rfl : i = head := by simpa using h0
      exact ⟨l, hlen, hnodup, by simp, hrun⟩

/-- A head with LAST is a chain of its own. -/
theorem chainValid_last {head : Nat} {st : Step} (hst : steps[head]? = some st) (hl : st.last = true) :
    chainValid steps p head = true ↔ if p = .lower then st.upperFan = false else st.heater = false ∧ st.lowerFan = false := by
  have h : chainValid steps p head = st.ownedBy p := by simp [chainValid, chainFrom, hst, hl]
  rw [h]
  cases p <;> simp [Step.ownedBy]

/-! ## Steps in use (R137) -/

/-- Each step of a list names the one that follows it. -/
def Linked (steps : List Step) (l : List Nat) : Prop :=
  ∀ n i j, l[n]? = some i → l[n + 1]? = some j → ∃ st, steps[i]? = some st ∧ st.last = false ∧ st.next = j

theorem Linked.single (i : Nat) : Linked steps [i] := by
  intro n a b _ hb
  simp at hb

theorem Linked.cons_cons_iff {i j : Nat} {l : List Nat} : Linked steps (i :: j :: l)
    ↔ (∃ st, steps[i]? = some st ∧ st.last = false ∧ st.next = j) ∧ Linked steps (j :: l) := by
  constructor
  · intro h
    exact ⟨h 0 i j rfl rfl, fun n a b ha hb => h (n + 1) a b (by simpa using ha) (by simpa using hb)⟩
  · rintro ⟨hfirst, hrest⟩ n a b ha hb
    cases n with
    | zero =>
      obtain rfl : i = a := by simpa using ha
      obtain rfl : j = b := by simpa using hb
      exact hfirst
    | succ n => exact hrest n a b (by simpa using ha) (by simpa using hb)

theorem mem_chainSteps_succ {n i k : Nat} : k ∈ chainSteps steps (n + 1) i
    ↔ ∃ st, steps[i]? = some st ∧ (k = i ∨ (st.last = false ∧ k ∈ chainSteps steps n st.next)) := by
  rw [chainSteps]
  cases hst : steps[i]? with
  | none => simp
  | some st => cases hl : st.last <;> simp [hl]

/-- A step is among those a chain visits where a linked list leads to it. -/
theorem mem_chainSteps_iff {n i k : Nat} : k ∈ chainSteps steps n i
    ↔ ∃ l, (i :: l).length ≤ n ∧ (i :: l).getLast? = some k ∧ steps[k]?.isSome = true ∧ Linked steps (i :: l) := by
  induction n generalizing i with
  | zero => simp [chainSteps]
  | succ n ih =>
    rw [mem_chainSteps_succ]
    constructor
    · rintro ⟨st, hst, rfl | ⟨hl, hk⟩⟩
      · exact ⟨[], by simp, rfl, by simp [hst], .single k⟩
      · obtain ⟨l, hlen, hlast, hsome, hlinked⟩ := ih.mp hk
        exact ⟨st.next :: l, Nat.succ_le_succ hlen, by simpa using hlast, hsome,
          Linked.cons_cons_iff.mpr ⟨⟨st, hst, hl, rfl⟩, hlinked⟩⟩
    · rintro ⟨l, hlen, hlast, hsome, hlinked⟩
      cases l with
      | nil =>
        obtain rfl : i = k := by simpa using hlast
        obtain ⟨st, hst⟩ := Option.isSome_iff_exists.mp hsome
        exact ⟨st, hst, .inl rfl⟩
      | cons j l =>
        obtain ⟨⟨st, hst, hl, rfl⟩, hrest⟩ := Linked.cons_cons_iff.mp hlinked
        exact ⟨st, hst, .inr ⟨hl, ih.mpr ⟨l, Nat.le_of_succ_le_succ hlen, by simpa using hlast, hsome, hrest⟩⟩⟩

theorem mem_chainSteps_list {n i k : Nat} : k ∈ chainSteps steps n i
    ↔ ∃ l : List Nat, l[0]? = some i ∧ l.length ≤ n ∧ l.getLast? = some k ∧ steps[k]?.isSome = true ∧ Linked steps l := by
  rw [mem_chainSteps_iff]
  constructor
  · rintro ⟨l, h⟩
    exact ⟨_, rfl, h⟩
  · rintro ⟨_ | ⟨j, l⟩, h0, h⟩
    · simp at h0
    · obtain rfl : j = i := by simpa using h0
      exact ⟨l, h⟩

theorem Program.usesStep_iff {g : Program} {k : Nat} : g.usesStep steps k = true
    ↔ ∃ l : List Nat, (l[0]? = some g.head ∨ l[0]? = some g.exitHead) ∧ l.length ≤ 16 ∧ l.getLast? = some k
      ∧ steps[k]?.isSome = true ∧ Linked steps l := by
  rw [Program.usesStep, Bool.or_eq_true, List.contains_iff_mem, List.contains_iff_mem, mem_chainSteps_list, mem_chainSteps_list]
  simp only [or_and_right, exists_or]

end chains

theorem Program.chainsValid_iff (steps : List Step) (g : Program) : g.chainsValid steps = true
    ↔ (g.valid = true → chainValid steps g.path g.head = true ∧ chainValid steps g.path g.exitHead = true) := by
  cases hv : g.valid <;> simp [Program.chainsValid, hv]

theorem Tables.chainsValid_iff (t : Tables) : t.chainsValid = true
    ↔ ∀ g ∈ t.programs, g.valid = true →
        chainValid t.steps g.path g.head = true ∧ chainValid t.steps g.path g.exitHead = true := by
  simp only [Tables.chainsValid, List.all_eq_true, Program.chainsValid_iff]

/-! ## The three rules, in the order of their checks (R137, R160) -/

section rules
variable {s : State} {p : Port} {f : Frame}

theorem State.stepBusy_iff {i : Nat} : s.stepBusy i = true ↔ ∃ g, s.runningProgram = some g ∧ g.usesStep s.tables.steps i = true := by
  unfold State.stepBusy
  cases s.runningProgram <;> simp

theorem ruleWriteStep_undecoded (h : Step.read (f.entry .step) = none) : ruleWriteStep s p f = .refuse s .badArgument := by
  unfold ruleWriteStep
  rw [h]

theorem ruleWriteStep_busy {st : Step} (h : Step.read (f.entry .step) = some st) (hb : s.stepBusy f.tableIndex = true) :
    ruleWriteStep s p f = .refuse s .busy := by
  unfold ruleWriteStep
  rw [h]
  exact if_pos hb

theorem ruleWriteStep_invalid {st : Step} (h : Step.read (f.entry .step) = some st) (hb : ¬ s.stepBusy f.tableIndex = true)
    (hc : Tables.chainsValid { s.tables with steps := s.tables.steps.set f.tableIndex st } = false) :
    ruleWriteStep s p f = .refuse s .invalidChain := by
  unfold ruleWriteStep
  rw [h]
  exact (if_neg hb).trans (if_pos hc)

theorem ruleWriteStep_taken {st : Step} (h : Step.read (f.entry .step) = some st) (hb : ¬ s.stepBusy f.tableIndex = true)
    (hc : Tables.chainsValid { s.tables with steps := s.tables.steps.set f.tableIndex st } = true) :
    ruleWriteStep s p f = .ok (s.setTables { s.tables with steps := s.tables.steps.set f.tableIndex st }) := by
  unfold ruleWriteStep
  rw [h]
  exact (if_neg hb).trans (if_neg (by simp [hc]))

theorem Manager.holds_iff (m : Manager) (i : Nat) : m.holds i = true
    ↔ (m.state = .due ∨ m.state = .running ∨ m.state = .exiting) ∧ m.program = some i := by
  simp [Manager.holds, Manager.inProgram]

theorem Tables.losesAuto_iff (t : Tables) (i : Nat) (g : Program) : t.losesAuto i g = true
    ↔ i = t.autoProgram ∧ (g.valid = false ∨ g.path = .upper) := by
  simp [Tables.losesAuto]

theorem ruleWriteProgram_bad (h : Program.read (f.entry .program) = none ∨ 8 ≤ f.tableIndex) :
    ruleWriteProgram s p f = .refuse s .badArgument := by
  unfold ruleWriteProgram
  dsimp only
  split
  case h_1 => rfl
  case h_2 g hg => exact if_pos (h.resolve_left (by simp [hg]))

/-- What the rule answers for an entry in its domain: the remaining checks, in their order. -/
theorem ruleWriteProgram_read {g : Program} (h : Program.read (f.entry .program) = some g) (hi : f.tableIndex < 8) :
    ruleWriteProgram s p f
    = if s.mgr.holds f.tableIndex then .refuse s .busy
      else if s.tables.losesAuto f.tableIndex g then .refuse s .badArgument
      else if g.chainsValid s.tables.steps = false then .refuse s .invalidChain
      else .ok (s.setTables { s.tables with programs := s.tables.programs.set f.tableIndex g }) := by
  unfold ruleWriteProgram
  rw [h]
  exact if_neg (Nat.not_le.mpr hi)

/-- The kinds end at the six (R160). -/
theorem Frame.tableKind_none (h : 6 ≤ f.arg 0 / 32) : f.tableKind = none := by
  unfold Frame.tableKind TableKind.ofCode
  split
  case h_7 => rfl
  all_goals omega

/-- The one byte of a global entry, which is 0xFF where the frame has none. -/
theorem Frame.entry_global (f : Frame) : byteAt (f.entry .global) 0 = (f.bytes.getD 3 0xFF).toNat := by
  have hbyte : (f.entry .global).getD 0 0xFF = f.bytes.getD 3 0xFF := by
    simp only [Frame.entry, areaAt, TableKind.entrySize, List.getD_eq_getElem?_getD, List.getElem?_take, List.getElem?_append,
      List.getElem?_drop, List.length_drop]
    by_cases h : 3 < f.bytes.length <;> simp [h]
  exact congrArg BitVec.toNat hbyte

theorem ruleWriteGlobal_taken (h : f.tableKind = some .global) {t : Tables}
    (ht : s.tables.writeGlobal f.tableIndex (f.bytes.getD 3 0xFF).toNat = some t) : ruleWriteGlobal s p f = .ok (s.setTables t) := by
  unfold ruleWriteGlobal
  rw [h]
  simp only [f.entry_global, ht]

theorem ruleWriteGlobal_refused (h : f.tableKind = some .global)
    (ht : s.tables.writeGlobal f.tableIndex (f.bytes.getD 3 0xFF).toNat = none) : ruleWriteGlobal s p f = .refuse s .badArgument := by
  unfold ruleWriteGlobal
  rw [h]
  simp only [f.entry_global, ht]

theorem ruleWriteGlobal_unknown (h : f.tableKind = none) : ruleWriteGlobal s p f = .refuse s .badArgument := by
  unfold ruleWriteGlobal
  rw [h]

end rules

/-! ## Global parameters (R160) -/

section global
variable {t : Tables} {i v : Nat}

theorem Tables.writeGlobal_gain (h : v ≤ 40) : t.writeGlobal 0 v = some { t with ambientGain := v } := if_pos h

theorem Tables.writeGlobal_weight (h : v ≤ 15) : t.writeGlobal 1 v = some { t with doorWeight := v } := if_pos h

/-- Where a program may be the auto-defrost program: one of the eight, valid and on LOWER (R137). -/
theorem Tables.autoValid_iff : Tables.autoValid { t with autoProgram := v } = true
    ↔ v ≤ 7 ∧ (t.program v).valid = true ∧ (t.program v).path = .lower := by
  have hsame : Tables.program { t with autoProgram := v } v = t.program v := rfl
  simp [Tables.autoValid, hsame, and_assoc]

theorem Tables.writeGlobal_auto (h : v ≤ 7) (hv : (t.program v).valid = true) (hp : (t.program v).path = .lower) :
    t.writeGlobal 2 v = some { t with autoProgram := v } := if_pos (Tables.autoValid_iff.mpr ⟨h, hv, hp⟩)

theorem Tables.writeGlobal_none (h : 3 ≤ i ∨ (i = 0 ∧ 40 < v) ∨ (i = 1 ∧ 15 < v)
    ∨ (i = 2 ∧ (7 < v ∨ (t.program v).valid = false ∨ (t.program v).path = .upper))) : t.writeGlobal i v = none := by
  rcases h with h | ⟨rfl, h⟩ | ⟨rfl, h⟩ | ⟨rfl, h⟩
  · unfold Tables.writeGlobal
    split
    case h_4 => rfl
    all_goals omega
  · exact if_neg (Nat.not_le.mpr h)
  · exact if_neg (Nat.not_le.mpr h)
  · refine if_neg fun k => ?_
    obtain ⟨hle, hv, hp⟩ := Tables.autoValid_iff.mp k
    rcases h with h | h | h
    · omega
    · exact absurd (h.symm.trans hv) (by simp)
    · exact absurd (h.symm.trans hp) (by simp)

end global

end Sys2Proof.Machine

namespace Sys2Proof

open Sys2Proof.Machine

/-- Settles O50: each rule answers at the first check that fails, and what the checks of chains follow is told by lists of steps. -/
theorem programTableWrites : Obligations.ProgramTableWrites := by
  refine ⟨?_, fun steps path head => chainValid_iff⟩
  intro s e p f q h i answered
  refine ⟨?_, ?_, ?_, ?_, Tables.chainsValid_iff, fun steps g k => Program.usesStep_iff, fun steps path head st => chainValid_last⟩
  · intro hk
    have hw := Frame.writes_of h (k := .step) (congrArg TableKind.ofCode hk)
    refine ⟨fun hbad => finish_write h hw (ruleWriteStep_undecoded hbad) rfl rfl, ?_⟩
    intro st hst t busy
    have hbusy : State.stepBusy { s with ports := q } i = true ↔ busy := State.stepBusy_iff
    exact ⟨fun hb => finish_write h hw (ruleWriteStep_busy hst (hbusy.mpr hb)) rfl rfl,
      fun hb hc => finish_write h hw (ruleWriteStep_invalid hst (mt hbusy.mp hb) hc) rfl rfl,
      fun hb hc => finish_write h hw (ruleWriteStep_taken hst (mt hbusy.mp hb) hc) rfl rfl⟩
  · intro hk
    have hw := Frame.writes_of h (k := .program) (congrArg TableKind.ofCode hk)
    refine ⟨fun hbad => finish_write h hw (ruleWriteProgram_bad hbad) rfl rfl, ?_⟩
    intro g hg hi busy loses broken
    have hbusy : s.mgr.holds i = true ↔ busy := s.mgr.holds_iff i
    have hloses : s.tables.losesAuto i g = true ↔ loses := s.tables.losesAuto_iff i g
    have hbroken : g.chainsValid s.tables.steps = false ↔ broken := by
      rw [← Bool.not_eq_true, Program.chainsValid_iff, Classical.not_imp]
    have hrule := ruleWriteProgram_read (s := { s with ports := q }) (p := p) hg hi
    refine ⟨fun hb => ?_, fun hb hl => ?_, fun hb hl hc => ?_, fun hb hl hc => ?_⟩
    · exact finish_write h hw (hrule.trans (if_pos (hbusy.mpr hb))) rfl rfl
    · exact finish_write h hw (hrule.trans ((if_neg (mt hbusy.mp hb)).trans (if_pos (hloses.mpr hl)))) rfl rfl
    · exact finish_write h hw (hrule.trans ((if_neg (mt hbusy.mp hb)).trans ((if_neg (mt hloses.mp hl)).trans
        (if_pos (hbroken.mpr hc))))) rfl rfl
    · exact finish_write h hw (hrule.trans ((if_neg (mt hbusy.mp hb)).trans ((if_neg (mt hloses.mp hl)).trans
        (if_neg (mt hbroken.mp hc))))) rfl rfl
  · intro hk v
    have hkind : f.tableKind = some .global := congrArg TableKind.ofCode hk
    have hw : f.writesGlobal = true := by simp [Frame.writesGlobal, h.names, hkind]
    have taken (t : Tables) (ht : s.tables.writeGlobal i v = some t) :
        exec (.writeTableGlobal e) s = answered { s with tables := t } .ok :=
      finish_write h hw (ruleWriteGlobal_taken (s := { s with ports := q }) hkind ht) rfl rfl
    refine ⟨fun hi hv => ?_, fun hi hv => ?_, fun hi hv hvalid hp => ?_, fun hbad => ?_⟩
    · exact taken _ (by rw [hi, Tables.writeGlobal_gain hv])
    · exact taken _ (by rw [hi, Tables.writeGlobal_weight hv])
    · exact taken _ (by rw [hi, Tables.writeGlobal_auto hv hvalid hp])
    · exact finish_write h hw
        (ruleWriteGlobal_refused (s := { s with ports := q }) hkind (Tables.writeGlobal_none hbad)) rfl rfl
  · intro hk
    have hkind : f.tableKind = none := Frame.tableKind_none hk
    have hw : f.writesGlobal = true := by simp [Frame.writesGlobal, h.names, hkind]
    exact finish_write h hw (ruleWriteGlobal_unknown hkind) rfl rfl

end Sys2Proof
end

section
/-!
Refused requests (R150, R153 to R156, R174): each step of R154 by what fails it, the catalogue as the commands' own values, and the one
answer that a refused request has, whatever row its frame belongs to.
-/
namespace Sys2Proof.Machine

/-! ## The steps of R154 -/

/-- Step 1: the size fits where 3 to 24 bytes were received and the length byte counts those behind it. -/
theorem Frame.wrongSize_eq_false (f : Frame) : f.wrongSize = false
    ↔ 3 ≤ f.count ∧ f.count ≤ 24 ∧ (f.bytes.getD 0 0xFF).toNat + 1 = f.count := by
  simp [Frame.wrongSize, Frame.lengthByte, byteAt, and_assoc]

/-- Step 2: the check byte is the CRC-8 of the bytes before it (R153). -/
theorem Frame.checkFails_eq_false (f : Frame) : f.checkFails = false ↔ crc8 f.bytes.dropLast = f.bytes.getLastD 0 := by
  simp [Frame.checkFails, Frame.checked, Frame.check]

section steps
variable {s : State} {p : Port} {f : Frame} {c : Command}

theorem State.refusal_wrongSize (h : f.wrongSize = true) : s.refusal p f = some .badLength := if_pos h

theorem State.refusal_checkFails (hs : f.wrongSize = false) (h : f.checkFails = true) : s.refusal p f = some .checkError := by
  simp [State.refusal, hs, h]

theorem State.refusal_unknown (hs : f.wrongSize = false) (hk : f.checkFails = false) (h : f.command = none) :
    s.refusal p f = some .unknownCommand := by
  simp [State.refusal, hs, hk, h]

/-- Past steps 1 to 3, what the command asks for decides. -/
theorem State.refusal_known (hs : f.wrongSize = false) (hk : f.checkFails = false) (h : f.command = some c) :
    s.refusal p f = s.commandRefusal p c f := by
  simp [State.refusal, hs, hk, h]

theorem State.commandRefusal_wrongLength (h : c.wrongLength f = true) : s.commandRefusal p c f = some .badLength := if_pos h

theorem State.commandRefusal_starting (hl : c.wrongLength f = false) (hr : s.ready = false) (hc : c ≠ .identify) :
    s.commandRefusal p c f = some .starting := by
  simp [State.commandRefusal, hl, hr, hc]

/-- Past steps 4 and 5, the access level of the port decides, and then the panel map. -/
theorem State.commandRefusal_started (hl : c.wrongLength f = false) (hr : s.ready = true ∨ c = .identify) :
    s.commandRefusal p c f = if c.maxLevel < p.level then some .denied else s.mapRefusal p c f := by
  have hstart : ¬ (s.ready = false ∧ c ≠ .identify) := by
    rintro ⟨hno, hc⟩
    exact hr.elim (fun h => absurd (h.symm.trans hno) (by simp)) hc
  rw [State.commandRefusal, hl, if_neg Bool.false_ne_true, if_neg hstart]

theorem State.mapRefusal_unmapped (h : p ≠ .b ∨ c.mapped = false) : s.mapRefusal p c f = none := by
  refine if_neg ?_
  rintro ⟨hp, hc⟩
  exact h.elim (absurd hp) fun hno => absurd (hno.symm.trans hc) (by simp)

theorem State.mapRefusal_noZone (hp : p = .b) (hc : c.mapped = true) (hz : f.zone = none) :
    s.mapRefusal p c f = some .badArgument := by
  simp [State.mapRefusal, hp, hc, hz]

theorem State.mapRefusal_zone (hp : p = .b) (hc : c.mapped = true) {z : Zone} (hz : f.zone = some z) :
    s.mapRefusal p c f = if s.panel.get z then none else some .denied := by
  simp [State.mapRefusal, hp, hc, hz]

end steps

/-! ## The catalogue (spec/08, spec/11) -/

/-- The commands in the order of their codes. -/
def Command.all : List Command :=
  [.identify, .getSystem, .readEvents, .ackEvents, .setEventMask, .getZone, .setSetpoint, .setMode, .startBoost, .cancelBoost,
    .limitPower, .deferDefrost, .runProgram, .abortProgram, .setPanelMap, .restart, .readTable, .writeTable, .saveTables,
    .serviceHold, .forceOutput]

theorem Command.mem_all (c : Command) : c ∈ Command.all := by cases c <;> decide

theorem Command.ofCode_code (c : Command) : Command.ofCode c.code = some c := by cases c <;> rfl

/-- The length byte of a command whose frames all have one length: what it requires of the empty frame, but for the table commands. -/
def Command.fixedLength (c : Command) : Option Nat :=
  if c = .readTable ∨ c = .writeTable then none else c.lengthByte { count := 0, bytes := [] }

theorem Command.lengthByte_of_fixedLength {c : Command} {n : Nat} (h : c.fixedLength = some n) (f : Frame) :
    c.lengthByte f = some n := by
  cases c <;> first | exact h | cases h

theorem Command.wrongLength_iff {c : Command} {f : Frame} {n : Nat} (h : c.lengthByte f = some n) :
    c.wrongLength f = true ↔ f.lengthByte ≠ n := by
  simp [Command.wrongLength, h]

theorem Command.wrongLength_none {c : Command} {f : Frame} (h : c.lengthByte f = none) : c.wrongLength f = false := by
  rw [Command.wrongLength, h]

/-- The row of a command: its code, itself, its greatest level, whether the panel map governs it, and its one length byte. -/
def Command.catalogueRow (c : Command) : Nat × Command × Nat × Bool × Option Nat :=
  (c.code, c, c.maxLevel, c.mapped, c.fixedLength)

/-- A code outside the catalogue names no command. -/
theorem Command.ofCode_none {n : Nat} (h : ∀ c : Command, c.code ≠ n) : Command.ofCode n = none := by
  cases hn : Command.ofCode n with
  | none => rfl
  | some c => exact absurd (Command.code_of_ofCode hn).symm (h c)

/-! ## The table commands' length -/

theorem TableKind.ofCode_entrySize {n : Nat} (h : n ≤ 5) :
    ∃ k, TableKind.ofCode n = some k ∧ k.entrySize = [2, 16, 20, 9, 3, 1].getD n 0 := by
  interval_cases n <;> exact ⟨_, rfl, rfl⟩

section tableLength
variable {f : Frame}

/-- A frame too short to name a kind has none of the lengths required (log entry 31). -/
theorem Command.tableLength_short (h : f.lengthByte < 3) :
    Command.readTable.wrongLength f = true ∧ Command.writeTable.wrongLength f = true := by
  have hread : Command.readTable.lengthByte f = some 3 := if_pos (.inl h)
  have hwrite : Command.writeTable.lengthByte f = some 4 := if_pos h
  rw [Command.wrongLength_iff hread, Command.wrongLength_iff hwrite]
  omega

/-- A kind outside the six passes step 4. -/
theorem Command.tableLength_unknownKind (h : 3 ≤ f.lengthByte) (hk : f.tableKind = none) :
    Command.readTable.wrongLength f = false ∧ Command.writeTable.wrongLength f = false := by
  have hlong : ¬ f.lengthByte < 3 := Nat.not_lt.mpr h
  exact ⟨Command.wrongLength_none (by simp [Command.lengthByte, hlong, hk]),
    Command.wrongLength_none (by simp [Command.lengthByte, hlong, hk])⟩

theorem Command.tableLength_kind (h : 3 ≤ f.lengthByte) {k : TableKind} (hk : f.tableKind = some k) :
    (Command.readTable.wrongLength f = true ↔ f.lengthByte ≠ 3)
      ∧ (Command.writeTable.wrongLength f = true ↔ f.lengthByte ≠ 3 + k.entrySize) := by
  have hlong : ¬ f.lengthByte < 3 := Nat.not_lt.mpr h
  exact ⟨Command.wrongLength_iff (by simp [Command.lengthByte, hk]),
    Command.wrongLength_iff (by simp [Command.lengthByte, hlong, hk])⟩

end tableLength

theorem zoneOf_eq_getElem? (n : Nat) : zoneOf n = [Zone.fresh, .flex, .freezer, .ice][n]? := by
  rcases n with _ | _ | _ | _ | n <;> rfl

/-! ## What a refused request leaves -/

/-- A row of the catalogue answers its frames as a request; a full restart alone has no response of a command rule. -/
theorem Instr.row_request {c : Instr} {e : Ending} {mine : Frame → Bool} (h : c.row = some (e, mine)) :
    (∃ rule, ∀ s, exec c s = s.finish (s.request e mine rule)) ∨ (c = .fullRestart e ∧ mine = Frame.fullRestart) := by
  cases c <;> cases h
  case fullRestart => exact .inr ⟨rfl, rfl⟩
  all_goals exact .inl ⟨_, fun _ => rfl⟩

section refused
variable {s : State} {e : Ending} {mine : Frame → Bool} {p : Port} {f : Frame} {q : Ports} {st : Status}

theorem State.request_refused (hq : s.ports.taken s.clock e = some { port := p, frame := f, ports := q }) (hm : mine f = true)
    (hr : s.refusal p f = some st) (rule : State → Port → Frame → Answer) :
    s.request e mine rule = State.respond { s with ports := q } p { status := st, echo := f.echo, data := [] } := by
  have hr' : (s.afterTaking { port := p, frame := f, ports := q }).refusal p f = some st := hr
  simp only [State.request, hq, hm, if_true, hr']
  rfl

theorem State.fullRestart_refused (hq : s.ports.taken s.clock e = some { port := p, frame := f, ports := q })
    (hm : f.fullRestart = true) (hr : s.refusal p f = some st) :
    s.fullRestart e = State.respond { s with ports := q } p { status := st, echo := f.echo, data := [] } := by
  have hr' : (s.afterTaking { port := p, frame := f, ports := q }).refusal p f = some st := hr
  simp only [State.fullRestart, hq, hm, if_true, hr']
  rfl

/-- A request that fails one of steps 1 to 7 is answered with that step's status, in every row of the catalogue (R154). -/
theorem exec_refused {c : Instr} (hrow : c.row = some (e, mine)) (hm : mine f = true)
    (hq : s.ports.taken s.clock e = some { port := p, frame := f, ports := q }) (hr : s.refusal p f = some st) :
    exec c s = .next (State.settle (State.respond { s with ports := q } p { status := st, echo := f.echo, data := [] })) := by
  obtain ⟨rule, hexec⟩ | ⟨rfl, rfl⟩ := Instr.row_request hrow
  · rw [hexec, State.request_refused hq hm hr]
    exact State.finish_same rfl rfl
  · show Host.Outcome.next (s.fullRestart e).settle = _
    rw [State.fullRestart_refused hq hm hr]

end refused

end Sys2Proof.Machine

namespace Sys2Proof

open Sys2Proof.Machine

/-- Settles O1: by the step's case of a queue with a front. -/
theorem frontCommandRuns : Obligations.FrontCommandRuns := fun _ _ _ => rfl

/-- Settles O40: the steps of R154 by what fails each, the catalogue as the list of the commands' own rows, and the one answer of a
refused request. -/
theorem failingStepsRefuse : Obligations.FailingStepsRefuse := by
  refine ⟨?_, ?_, fun c s e mine p f q st hrow hm hq hr => exec_refused hrow hm hq hr, ?_⟩
  · intro s p f size check
    have hsize : f.wrongSize = false ↔ size := f.wrongSize_eq_false
    have hcheck : f.checkFails = false ↔ check := f.checkFails_eq_false
    refine ⟨fun h => State.refusal_wrongSize (by simpa using mt hsize.mp h),
      fun hs h => State.refusal_checkFails (hsize.mpr hs) (by simpa using mt hcheck.mp h),
      fun hs hk => State.refusal_unknown (hsize.mpr hs) (hcheck.mpr hk), fun c hs hk hc => ?_⟩
    rw [State.refusal_known (hsize.mpr hs) (hcheck.mpr hk) hc]
    refine ⟨State.commandRefusal_wrongLength, fun hl => ⟨State.commandRefusal_starting hl, fun hr => ?_⟩⟩
    rw [State.commandRefusal_started hl hr]
    refine ⟨fun h => if_pos h, fun h => ?_⟩
    rw [if_neg (Nat.not_lt.mpr h)]
    exact ⟨State.mapRefusal_unmapped, fun hp hm hz => State.mapRefusal_noZone hp hm (Frame.zone_none hz),
      fun z hp hm hz => State.mapRefusal_zone hp hm hz⟩
  · intro catalogue
    have hrows : catalogue = Command.all.map Command.catalogueRow := rfl
    rw [hrows]
    simp only [List.forall_mem_map]
    refine ⟨fun c _ => ⟨c.ofCode_code, rfl, rfl⟩,
      fun c _ f n hn => Command.wrongLength_iff (Command.lengthByte_of_fixedLength hn f),
      fun n hn => Command.ofCode_none fun c => hn c c.mem_all, fun f => ⟨?_, Command.tableLength_short,
        fun hl hk => Command.tableLength_unknownKind hl (Frame.tableKind_none hk), fun hl hk => ?_⟩,
      fun f => ⟨rfl, zoneOf_eq_getElem? _⟩, rfl, rfl, rfl⟩
    · unfold Frame.command Frame.code
      cases f.bytes[1]? <;> rfl
    · obtain ⟨k, hkind, hsize⟩ := TableKind.ofCode_entrySize hk
      rw [← hsize]
      exact Command.tableLength_kind hl hkind
  · intro s e p f q hq hlo hhi hlen hcheck hc
    have hr : s.refusal p f = some .unknownCommand :=
      State.refusal_unknown (f.wrongSize_eq_false.mpr ⟨hlo, hhi, hlen⟩) (f.checkFails_eq_false.mpr hcheck) hc
    exact exec_refused (c := .unknownCommand e) rfl (by rw [hc]; rfl) hq hr

end Sys2Proof
end

section
/-!
Saves (R161, R167, R171 to R173; log entries 21 and 37): what begins one or leaves it to wait, what a page written or failed leads to, and
what begins where a save ends.
-/
namespace Sys2Proof.Machine

/-! ## The start of a save (R171, R173) -/

theorem nextVersion_eq (v : Nat) : nextVersion v = if v < 65535 then v + 1 else 1 := by
  unfold nextVersion
  split <;> split <;> omega

/-- A table save with these operations before it: the pages of the tables as they stand, the header page last (R173). -/
theorem State.beginTablesSave_eq (s : State) (before : List (List Byte)) : s.beginTablesSave before = { s with
    store := { s.store with
      tablesRetry := none, tablesDue := false,
      job := some { kind := .tables, busy := 0, accounting := (0, 0),
                    version := if s.store.imageVersion < 65535 then s.store.imageVersion + 1 else 1,
                    pages := bodyPages s.tables.body
                      ++ [{ address := 0, bytes := fillPage (imageHeader
                              (if s.store.imageVersion < 65535 then s.store.imageVersion + 1 else 1) s.tables.body) }] },
      sent := before ++ [spiWriteEnable, spiPageProgram { address := 0x20, bytes := s.tables.body.take 32 }] } } := by
  rw [← nextVersion_eq]
  rfl

/-- A settings save with these operations before it: one page, of the owners' values as they stand (R171). -/
theorem State.beginSettingsSave_eq (s : State) (before : List (List Byte)) : s.beginSettingsSave before = { s with
    store := { s.store with
      dirty := false, quiet := none, settingsDue := false,
      job := some { kind := .settings, busy := 0, version := 0, accounting := (s.acct.accumulator, s.acct.age),
                    pages := [{ address := 0x1800, bytes := fillPage s.settings.encode }] },
      sent := before ++ [spiWriteEnable, spiPageProgram { address := 0x1800, bytes := fillPage s.settings.encode }] } } := rfl

section due
variable {s : State}

theorem StoreRecord.saveIdle_iff {r : StoreRecord} : r.saveIdle = true ↔ r.job = none := Option.isNone_iff_eq_none

theorem State.settingsSaveDue_begins (hj : s.store.job = none) (hr : s.store.settingsRetry = none) :
    s.settingsSaveDue = s.beginSettingsSave [] := by
  simp [State.settingsSaveDue, StoreRecord.saveIdle, hj, hr]

theorem State.settingsSaveDue_waits (h : s.store.job ≠ none ∨ s.store.settingsRetry ≠ none) :
    s.settingsSaveDue = { s with store := { s.store with settingsDue := true } } := by
  refine if_neg ?_
  rw [Bool.and_eq_true, StoreRecord.saveIdle_iff, Option.isNone_iff_eq_none]
  rintro ⟨hj, hr⟩
  exact h.elim (absurd hj) (absurd hr)

/-- An event of the store ends with the outputs: it hands no cycle state over. -/
theorem State.event_store {i : Instr} (h : s.due i = true) {g : State → State} (hg : StoreOnly s (g s)) :
    s.event i g = .next (g s).settle := by
  rw [State.event_due h, State.finish_eq, hg.handOver]

theorem State.retry_due {k : SaveKind} (h : s.store.retryOf k = some 0) : s.due (.saveRetryExpiry k) = true :=
  decide_eq_true h

theorem State.quiet_due (h : s.store.quiet = some 0) : s.due .quietTimerExpiry = true := decide_eq_true h

theorem State.hourMark_due (h : s.store.hoursMarked < s.now / 3600) : s.due .hourlyMark = true := decide_eq_true h

theorem exec_quietTimerExpiry (h : s.store.quiet = some 0) : exec .quietTimerExpiry s
    = .next (State.settle (State.settingsSaveDue { s with store := { s.store with quiet := none } })) := by
  show execQuietTimerExpiry s = _
  exact State.event_store (State.quiet_due h) (StoreOnly.trans (.record s _) (State.settingsSaveDue_only _))

theorem exec_saveRetryExpiry {k : SaveKind} (h : s.store.retryOf k = some 0) :
    exec (.saveRetryExpiry k) s = .next (s.retrySave k).settle := by
  show execSaveRetryExpiry k s = _
  exact State.event_store (State.retry_due h) (s.retrySave_only k)

theorem State.markHour_only (s : State) : StoreOnly s s.markHour := by
  unfold State.markHour
  dsimp only
  split
  · exact .record s _
  · exact StoreOnly.trans (.record s _) (State.settingsSaveDue_only _)

theorem exec_hourlyMark (h : s.store.hoursMarked < s.now / 3600) : exec .hourlyMark s = .next s.markHour.settle := by
  show execHourlyMark s = _
  exact State.event_store (State.hourMark_due h) s.markHour_only

/-- An hour whose accounting is stored already needs no save (R171). -/
theorem State.markHour_stored (h : s.store.stored = some (s.acct.accumulator, s.acct.age)) :
    s.markHour = { s with store := { s.store with hoursMarked := s.now / 3600 } } := if_pos h

theorem State.markHour_due (h : s.store.stored ≠ some (s.acct.accumulator, s.acct.age)) :
    s.markHour = State.settingsSaveDue { s with store := { s.store with hoursMarked := s.now / 3600 } } := if_neg h

/-- The three events that make a settings save due, each with the record it leaves (R171, R172). -/
theorem exec_settingsSave {c : Instr} {r : StoreRecord}
    (h : (c = .quietTimerExpiry ∧ s.store.quiet = some 0 ∧ r = { s.store with quiet := none })
      ∨ (c = .hourlyMark ∧ s.store.hoursMarked < s.now / 3600
          ∧ s.store.stored ≠ some (s.acct.accumulator, s.acct.age) ∧ r = { s.store with hoursMarked := s.now / 3600 })
      ∨ (c = .saveRetryExpiry .settings ∧ s.store.settingsRetry = some 0 ∧ r = { s.store with settingsRetry := none })) :
    exec c s = .next (State.settle (State.settingsSaveDue { s with store := r })) ∧ r.job = s.store.job := by
  obtain ⟨rfl, hq, rfl⟩ | ⟨rfl, hm, hne, rfl⟩ | ⟨rfl, ht, rfl⟩ := h
  · exact ⟨exec_quietTimerExpiry hq, rfl⟩
  · exact ⟨by rw [exec_hourlyMark hm, State.markHour_due hne], rfl⟩
  · exact ⟨exec_saveRetryExpiry (k := .settings) ht, rfl⟩

theorem State.retrySave_tables_begins (hj : s.store.job = none) :
    s.retrySave .tables = State.beginTablesSave { s with store := { s.store with tablesRetry := none } } [] :=
  if_pos (StoreRecord.saveIdle_iff.mpr hj)

theorem State.retrySave_tables_waits (hj : s.store.job ≠ none) :
    s.retrySave .tables = { s with store := { s.store with tablesRetry := none, tablesDue := true } } :=
  if_neg (mt StoreRecord.saveIdle_iff.mp hj)

theorem ruleSaveTables_begins (hj : s.store.job = none) (p : Port) (f : Frame) :
    ruleSaveTables s p f = .ok (s.beginTablesSave []) := if_pos (StoreRecord.saveIdle_iff.mpr hj)

theorem ruleSaveTables_busy (hj : s.store.job ≠ none) (p : Port) (f : Frame) : ruleSaveTables s p f = .refuse s .busy :=
  if_neg (mt StoreRecord.saveIdle_iff.mp hj)

end due

/-! ## The pages and the end of a save (R172, R173) -/

theorem StoreRecord.saved_eq (r : StoreRecord) (j : SaveJob) : r.saved j =
    if j.kind = .settings then { r with job := none, settingsRetry := none, stored := some j.accounting }
    else { r with job := none, tablesRetry := none, imageState := .accepted, imageVersion := j.version } := by
  unfold StoreRecord.saved
  cases j.kind <;> rfl

theorem StoreRecord.failed_eq (r : StoreRecord) (k : SaveKind) : r.failed k =
    if k = .settings then { r with job := none, settingsRetry := some 600, dirty := true, lastFailure := some .saveSettings }
    else { r with job := none, tablesRetry := some 600, lastFailure := some .saveTables } := by
  unfold StoreRecord.failed
  cases k <;> rfl

section pages
variable {s : State} {j : SaveJob} {pg : Page} {rest : List Page} {readBack : List Byte}

theorem exec_pageWriteComplete (hj : s.store.job = some j) :
    exec (.pageWriteComplete readBack) s = s.finish (s.pageWritten j readBack) := by
  show execPageWriteComplete readBack s = _
  rw [execPageWriteComplete, hj]

theorem State.pageWritten_next (hp : j.pages = pg :: rest) (hb : readBack = pg.bytes) {next : Page} {others : List Page}
    (hr : rest = next :: others) : s.pageWritten j readBack = (s.sends pg.closing).nextPage j next others := by
  subst hr
  simp only [State.pageWritten, hp, if_pos hb]

theorem State.pageWritten_last (hp : j.pages = pg :: rest) (hb : readBack = pg.bytes) (hr : rest = []) :
    s.pageWritten j readBack = (s.sends pg.closing).finishSave j := by
  subst hr
  simp only [State.pageWritten, hp, if_pos hb]

theorem State.pageWritten_differs (hp : j.pages = pg :: rest) (hb : readBack ≠ pg.bytes) :
    s.pageWritten j readBack = (s.sends pg.closing).failSave j := by
  simp only [State.pageWritten, hp, if_neg hb]

theorem exec_pageBusyTimeout (hj : s.store.job = some j) (hb : 5 ≤ j.busy) :
    exec .pageBusyTimeout s = s.finish ((s.sends [spiStatusRead]).failSave j) := by
  have hdue : s.due .pageBusyTimeout = true := reached_of_le (congrArg (Option.map SaveJob.busy) hj) hb
  have hout : s.pageTimedOut = (s.sends [spiStatusRead]).failSave j := by
    unfold State.pageTimedOut
    rw [hj]
  rw [← hout]
  exact State.event_due hdue _

/-- The save that is abandoned after these operations: STORE, 600 s to its retry, and what waits begins (R172). -/
theorem State.failSave_eq (s : State) (j : SaveJob) (ops : List (List Byte)) : (s.sends ops).failSave j = State.nextSave { s with
    events := s.events.map (·.add .store),
    store := if j.kind = .settings then
        { s.store with
          job := none, settingsRetry := some 600, dirty := true, lastFailure := some .saveSettings, sent := ops }
      else { s.store with job := none, tablesRetry := some 600, lastFailure := some .saveTables, sent := ops } } := by
  unfold State.failSave
  rw [StoreRecord.failed_eq]
  split <;> rfl

/-- The save whose last page reads back right: its kind's record is the memory's, and what waits begins (R172, R173). -/
theorem State.finishSave_eq (s : State) (j : SaveJob) (ops : List (List Byte)) : (s.sends ops).finishSave j = State.nextSave { s with
    store := if j.kind = .settings then
        { s.store with job := none, settingsRetry := none, stored := some j.accounting, sent := ops }
      else { s.store with
        job := none, tablesRetry := none, imageState := .accepted, imageVersion := j.version, sent := ops } } := by
  unfold State.finishSave
  rw [StoreRecord.saved_eq]
  split <;> rfl

theorem State.nextPage_eq (s : State) (j : SaveJob) (ops : List (List Byte)) (next : Page) (others : List Page) :
    (s.sends ops).nextPage j next others = { s with store := { s.store with
      job := some { j with pages := next :: others, busy := 0 },
      sent := ops ++ [spiWriteEnable, spiPageProgram next] } } := rfl

end pages

/-! ## What waits for the end of a save (R171, R173; log entry 21) -/

section waits
variable {s : State}

theorem StoreRecord.settingsWaits_iff {r : StoreRecord} : r.settingsWaits = true ↔ r.settingsDue = true ∧ r.settingsRetry = none := by
  simp [StoreRecord.settingsWaits]

theorem State.nextSave_none (ht : s.store.tablesDue = false) (hs : s.store.settingsWaits = false) : s.nextSave = s := by
  simp [State.nextSave, ht, hs]

theorem State.nextSave_tables (ht : s.store.tablesDue = true) (hs : s.store.settingsWaits = false) :
    s.nextSave = s.beginTablesSave s.store.sent := by
  simp [State.nextSave, ht, hs]

theorem State.nextSave_settings (ht : s.store.tablesDue = false) (hs : s.store.settingsWaits = true) :
    s.nextSave = s.beginSettingsSave s.store.sent := by
  simp [State.nextSave, ht, hs]

/-- Of two that wait together either begins: the order is free. -/
theorem State.nextSave_both (ht : s.store.tablesDue = true) (hs : s.store.settingsWaits = true) :
    s.nextSave = State.beginTablesSave { s with free := s.free + 1 } s.store.sent
      ∨ s.nextSave = State.beginSettingsSave { s with free := s.free + 1 } s.store.sent := by
  have hboth : (s.store.tablesDue && s.store.settingsWaits) = true := by rw [ht, hs]; rfl
  rw [State.nextSave, if_pos hboth]
  exact ite_eq_or_eq _ _ _

end waits

end Sys2Proof.Machine

namespace Sys2Proof

open Sys2Proof.Machine

/-- Settles O51: each event by the one operation on the store that it is, and each operation by its equation. -/
theorem savesBeginAndEnd : Obligations.SavesBeginAndEnd := by
  refine ⟨⟨?_, ?_, ?_, ?_⟩, ?_, ?_⟩
  · intro s e p f q h
    refine ⟨fun hj => h.next (ruleSaveTables_busy (s := { s with ports := q }) hj p f) rfl, fun hj => ?_⟩
    have hrule := ruleSaveTables_begins (s := { s with ports := q }) hj p f
    rw [State.beginTablesSave_eq] at hrule
    exact h.next hrule rfl
  · intro s c r hc
    obtain ⟨hexec, hjob⟩ := exec_settingsSave hc
    rw [hexec, ← hjob]
    refine ⟨fun hj hr => ?_, fun hw => ?_⟩
    · rw [State.settingsSaveDue_begins (s := { s with store := r }) hj hr]
      rfl
    · rw [State.settingsSaveDue_waits (s := { s with store := r }) hw]
  · intro s hm hstored
    rw [exec_hourlyMark hm, State.markHour_stored hstored]
  · intro s ht
    have hexec : exec (.saveRetryExpiry .tables) s = _ := exec_saveRetryExpiry ht
    refine ⟨fun hj => ?_, fun hj => ?_⟩
    · rw [State.retrySave_tables_begins hj, State.beginTablesSave_eq] at hexec
      exact ⟨_, _, hexec, rfl, rfl, by simp [bodyPages], rfl, rfl⟩
    · rw [hexec, State.retrySave_tables_waits hj]
  · intro s j pg rest readBack hj hp failed check
    have hfail (ops : List (List Byte)) : s.finish ((s.sends ops).failSave j) = failed ops := by rw [State.failSave_eq]
    refine ⟨fun next others hb hr => ?_, fun hb hr => ?_, fun hb => ?_, fun hb => ?_, rfl, rfl, fun a => rfl, rfl⟩
    · rw [exec_pageWriteComplete hj, State.pageWritten_next hp hb hr, State.nextPage_eq, hr]
      exact State.finish_same rfl rfl
    · rw [exec_pageWriteComplete hj, State.pageWritten_last hp hb hr, State.finishSave_eq]
      rfl
    · rw [exec_pageWriteComplete hj, State.pageWritten_differs hp hb]
      exact hfail _
    · rw [exec_pageBusyTimeout hj hb]
      exact hfail _
  · intro s settingsWaits v tables settings
    have hw : s.store.settingsWaits = true ↔ settingsWaits := StoreRecord.settingsWaits_iff
    have hnot (h : ¬ settingsWaits) : s.store.settingsWaits = false := by simpa using mt hw.mp h
    refine ⟨fun ht hs => State.nextSave_none ht (hnot hs),
      fun ht hs => (State.nextSave_tables ht (hnot hs)).trans (State.beginTablesSave_eq s _),
      fun ht hs => State.nextSave_settings ht (hw.mpr hs), fun ht hs => ?_, fun u hu => ?_⟩
    · have hboth := State.nextSave_both ht (hw.mpr hs)
      rw [State.beginTablesSave_eq] at hboth
      exact hboth
    · have hcyc : u.nextSave.cyc = s.cyc := u.nextSave_only.cyc.trans hu
      exact State.finish_same (congrArg CycleRecord.state hcyc) (congrArg CycleRecord.path hcyc)

end Sys2Proof
end

section
/-!
Fields at an offset of an area, and the entries of the tables (R17, R20, R134, R174, R175): each field reads back as it was written, and so
does each entry in its domain.
-/
namespace Sys2Proof.Machine

/-! ## Fields at an offset (R174) -/

/-- An area has these bytes from offset k on. -/
def HoldsAt (l : List Byte) (k : Nat) (bytes : List Byte) : Prop := ∃ rest, l.drop k = bytes ++ rest

section fields
variable {l x y : List Byte} {b : Byte} {i k n : Nat}

theorem HoldsAt.left (h : HoldsAt l k (x ++ y)) : HoldsAt l k x := by
  obtain ⟨rest, h⟩ := h
  exact ⟨y ++ rest, by rw [h, List.append_assoc]⟩

theorem HoldsAt.right (h : HoldsAt l k (x ++ y)) (hx : x.length = n) : HoldsAt l (k + n) y := by
  obtain ⟨rest, h⟩ := h
  exact ⟨rest, by rw [← List.drop_drop, h, List.append_assoc, List.drop_left' hx]⟩

theorem HoldsAt.tail (h : HoldsAt l k (b :: x)) : HoldsAt l (k + 1) x := HoldsAt.right (x := [b]) h rfl

theorem HoldsAt.getD (h : HoldsAt l k (b :: x)) : l.getD k 0xFF = b := by
  obtain ⟨rest, h⟩ := h
  have hget : l[k]? = some b := by rw [← Nat.add_zero k, ← List.getElem?_drop, h]; rfl
  rw [List.getD_eq_getElem?_getD, hget]
  rfl

theorem HoldsAt.areaAt (h : HoldsAt l k x) : areaAt l k x.length = x := by
  obtain ⟨rest, h⟩ := h
  rw [Machine.areaAt, h, List.append_assoc, List.take_left']
  rfl

theorem HoldsAt.byteAt (h : HoldsAt l k [byte n]) (hn : n ≤ 255) : byteAt l k = n := by
  rw [Machine.byteAt, h.getD]
  exact Nat.mod_eq_of_lt (Nat.lt_succ_of_le hn)

/-- The two bytes of a field, whatever of the value they hold. -/
theorem HoldsAt.word16At_mod (h : HoldsAt l k (be16 n)) : word16At l k = n % 65536 := by
  have hhi : Machine.byteAt l k = n / 256 % 256 := by rw [Machine.byteAt, h.getD]; rfl
  have hlo : Machine.byteAt l (k + 1) = n % 256 := by rw [Machine.byteAt, h.tail.getD]; rfl
  rw [word16At, hhi, hlo]
  omega

theorem HoldsAt.word16At (h : HoldsAt l k (be16 n)) (hn : n ≤ 65535) : word16At l k = n :=
  h.word16At_mod.trans (Nat.mod_eq_of_lt (Nat.lt_succ_of_le hn))

theorem HoldsAt.word32At (h : HoldsAt l k (be32 n)) (hn : n ≤ 4294967295) : word32At l k = n := by
  have hhi : Machine.word16At l k = n / 65536 % 65536 := HoldsAt.word16At_mod (by rw [be32_eq] at h; exact h.left)
  have hlo : Machine.word16At l (k + 2) = n % 65536 := HoldsAt.word16At_mod h.tail.tail
  rw [Machine.word32At, hhi, hlo]
  omega

theorem HoldsAt.int16At {v : Int} (h : HoldsAt l k (beInt16 v)) (hlo : -32768 ≤ v) (hhi : v ≤ 32767) : int16At l k = v := by
  have hword : Machine.word16At l k = (BitVec.ofInt 16 v).toNat := h.word16At (Nat.le_of_lt_succ (BitVec.ofInt 16 v).isLt)
  rw [Machine.int16At, hword, BitVec.ofNat_toNat, BitVec.setWidth_eq, BitVec.toInt_ofInt]
  exact Int.bmod_eq_of_le (by omega) (by omega)

/-! ## Flags (R174) -/

theorem flagBits_lt (fs : List Bool) : flagBits fs < 2 ^ fs.length := by
  induction fs with
  | nil => exact Nat.one_pos
  | cons b fs ih =>
    rw [flagBits, List.length_cons, Nat.pow_succ]
    split <;> omega

/-- A number made from flags has flag k in bit k. -/
theorem testBit_flagBits (fs : List Bool) (k : Nat) : (flagBits fs).testBit k = fs.getD k false := by
  induction fs generalizing k with
  | nil => simp [flagBits]
  | cons b fs ih =>
    cases k with
    | zero => cases b <;> simp [flagBits, Nat.testBit_zero]
    | succ k =>
      have hhalf : flagBits (b :: fs) / 2 = flagBits fs := by rw [flagBits]; split <;> omega
      rw [Nat.testBit_succ, hhalf, ih]
      rfl

theorem HoldsAt.bitAt (h : HoldsAt l i [byte n]) (hk : k < 8) : bitAt l i k = n.testBit k := by
  rw [Machine.bitAt, h.getD, byte, BitVec.getLsbD_ofNat]
  simp [hk]

theorem HoldsAt.flagAt {fs : List Bool} (h : HoldsAt l i [byte (flagBits fs)]) (hk : k < 8) :
    Machine.bitAt l i k = fs.getD k false := by
  rw [h.bitAt hk, testBit_flagBits]

end fields

/-! ## Presets (R17, R175) -/

theorem PathSet.ofCode_code (x : PathSet) : PathSet.ofCode x.code = some x := by cases x <;> rfl
theorem PathSet.code_le (x : PathSet) : x.code ≤ 2 := by cases x <;> decide

theorem inRange700_iff {v : Int} : inRange700 v = true ↔ -500 ≤ v ∧ v ≤ 700 := by simp [inRange700]

/-- The domain of a preset, field by field (R17). -/
theorem Preset.inDomain_iff {p : Preset} : p.inDomain = true ↔ (-500 ≤ p.minSetpoint ∧ p.minSetpoint ≤ 700)
    ∧ (-500 ≤ p.maxSetpoint ∧ p.maxSetpoint ≤ 700) ∧ p.minSetpoint ≤ p.defaultSetpoint ∧ p.defaultSetpoint ≤ p.maxSetpoint
    ∧ p.ladder ≤ 11 ∧ p.shift ≤ 6 ∧ p.doorHold ≤ 600 ∧ p.boostDepth ≤ 100 ∧ 1 ≤ p.boostMax ∧ p.boostMax ≤ 480
    ∧ p.fallbackOn ≤ 60 := by
  simp only [Preset.inDomain, Bool.and_eq_true, decide_eq_true_eq, inRange700_iff, and_assoc]

theorem Preset.decode_encode {p : Preset} (h : p.inDomain = true) : Preset.decode p.encode = some p := by
  obtain ⟨⟨hmin, hmin'⟩, ⟨hmax, hmax'⟩, hlo, hhi, hladder, hshift, hhold, hdepth, -, hboost, hon⟩ := Preset.inDomain_iff.mp h
  have flag {k : Nat} (hk : k < 8) : bitAt p.encode 0 k
      = [p.mask.fresh, p.mask.flex, p.mask.freezer, p.mask.ice, p.disabled, p.heaterEnable].getD k false :=
    HoldsAt.flagAt ⟨_, rfl⟩ hk
  have hpath : byteAt p.encode 1 = p.pathSet.code := HoldsAt.byteAt ⟨_, rfl⟩ (p.pathSet.code_le.trans (by decide))
  have hdefault : int16At p.encode 2 = p.defaultSetpoint := HoldsAt.int16At ⟨_, rfl⟩ (by omega) (by omega)
  have hlow : int16At p.encode 4 = p.minSetpoint := HoldsAt.int16At ⟨_, rfl⟩ (by omega) (by omega)
  have hhigh : int16At p.encode 6 = p.maxSetpoint := HoldsAt.int16At ⟨_, rfl⟩ (by omega) (by omega)
  have hladderByte : byteAt p.encode 8 = p.ladder := HoldsAt.byteAt ⟨_, rfl⟩ (by omega)
  have hshiftByte : byteAt p.encode 9 = p.shift := HoldsAt.byteAt ⟨_, rfl⟩ (by omega)
  have hholdWord : word16At p.encode 10 = p.doorHold := HoldsAt.word16At ⟨_, rfl⟩ (by omega)
  have hdepthByte : byteAt p.encode 12 = p.boostDepth := HoldsAt.byteAt ⟨_, rfl⟩ (by omega)
  have hboostWord : word16At p.encode 13 = p.boostMax := HoldsAt.word16At ⟨_, rfl⟩ (by omega)
  have honByte : byteAt p.encode 15 = p.fallbackOn := HoldsAt.byteAt ⟨_, rfl⟩ (by omega)
  unfold Preset.decode
  rw [hpath, PathSet.ofCode_code, flag (by decide), flag (by decide), flag (by decide), flag (by decide), flag (by decide),
    flag (by decide), hdefault, hlow, hhigh, hladderByte, hshiftByte, hholdWord, hdepthByte, hboostWord, honByte]
  rfl

theorem Preset.encode_length (p : Preset) : p.encode.length = 16 := rfl

theorem Preset.read_encode {p : Preset} (h : p.inDomain = true) : Preset.read p.encode = some p := by
  rw [Preset.read, Preset.decode_encode h, Option.filter_some, if_pos h]

/-! ## Ladders (R20, R175) -/

theorem DemandAttr.ofCode_code (x : DemandAttr) : DemandAttr.ofCode x.code = some x := by cases x <;> rfl
theorem DemandAttr.code_lt (x : DemandAttr) : x.code < 4 := by cases x <;> decide
theorem HeatAttr.ofCode_code (x : HeatAttr) : HeatAttr.ofCode x.code = some x := by cases x <;> rfl
theorem HeatAttr.code_lt (x : HeatAttr) : x.code < 4 := by cases x <;> decide
theorem AlarmAttr.ofCode_code (x : AlarmAttr) : AlarmAttr.ofCode x.code = some x := by cases x <;> rfl
theorem AlarmAttr.code_lt (x : AlarmAttr) : x.code < 4 := by cases x <;> decide

theorem allSome_map_some {α : Type} (xs : List α) : allSome (xs.map some) = some xs := by
  induction xs with
  | nil => rfl
  | cons x xs ih => simp only [List.map_cons, allSome, ih]

section ladder
variable {l : Ladder} {j : Nat}

/-- The domain of a ladder, field by field (R20). -/
theorem Ladder.inDomain_iff : l.inDomain = true ↔ 1 ≤ l.offsets.length ∧ l.offsets.length ≤ 6
    ∧ l.bands.length = l.offsets.length + 1 ∧ (∀ o ∈ l.offsets, -400 ≤ o ∧ o ≤ 400) ∧ rising l.offsets = true ∧ l.delay ≤ 7200 := by
  simp only [Ladder.inDomain, Bool.and_eq_true, decide_eq_true_eq, List.all_eq_true, and_assoc]

theorem Ladder.nibble_lt (l : Ladder) (j : Nat) : l.nibble j < 16 := by
  unfold Ladder.nibble
  split
  · decide
  · rename_i b _
    have hd := b.demand.code_lt
    have hh := b.heat.code_lt
    omega

theorem Ladder.alarmCode_lt (l : Ladder) (j : Nat) : l.alarmCode j < 4 := by
  unfold Ladder.alarmCode
  split
  · decide
  · exact AlarmAttr.code_lt _

/-- A slot holds an offset of the ladder or 0, so it lies within what the offsets lie within. -/
theorem Ladder.offsetSlot_bound (h : ∀ o ∈ l.offsets, -400 ≤ o ∧ o ≤ 400) (j : Nat) :
    -400 ≤ l.offsetSlot j ∧ l.offsetSlot j ≤ 400 := by
  rw [Ladder.offsetSlot]
  by_cases hj : j < l.offsets.length
  · rw [List.getD_eq_getElem _ _ hj]
    exact h _ (List.getElem_mem hj)
  · rw [List.getD_eq_default _ _ (Nat.not_lt.mp hj)]
    decide

/-- The six offset slots follow the separator word. -/
theorem Ladder.holdsAt_slot (hj : j < 6) : HoldsAt l.encode (2 + 2 * j) (beInt16 (l.offsetSlot j)) := by
  interval_cases j <;> exact ⟨_, rfl⟩

/-- The four nibble bytes follow the slots. -/
theorem Ladder.byteAt_nibbles {k : Nat} (hk : k < 4) : byteAt l.encode (14 + k) = l.nibble (2 * k) + 16 * l.nibble (2 * k + 1) := by
  have hlow := l.nibble_lt (2 * k)
  have hhigh := l.nibble_lt (2 * k + 1)
  have hbyte : HoldsAt l.encode (14 + k) [l.nibbleByte k] := by interval_cases k <;> exact ⟨_, rfl⟩
  exact hbyte.byteAt (by omega)

theorem Ladder.nibbleAt_encode (hj : j < 8) : nibbleAt l.encode j = l.nibble j := by
  have hbyte : byteAt l.encode (14 + j / 2) = _ := Ladder.byteAt_nibbles (by omega)
  have hlow := l.nibble_lt (2 * (j / 2))
  rw [nibbleAt, hbyte]
  split
  · rw [show 2 * (j / 2) = j by omega] at hlow ⊢
    omega
  · rw [show 2 * (j / 2) + 1 = j by omega]
    omega

/-- The alarm word holds two bits for each band. -/
theorem Ladder.alarmAt_encode (hj : j < 8) : word16At l.encode 18 / 4 ^ j % 4 = l.alarmCode j := by
  have h0 := l.alarmCode_lt 0
  have h1 := l.alarmCode_lt 1
  have h2 := l.alarmCode_lt 2
  have h3 := l.alarmCode_lt 3
  have h4 := l.alarmCode_lt 4
  have h5 := l.alarmCode_lt 5
  have h6 := l.alarmCode_lt 6
  have h7 := l.alarmCode_lt 7
  have hhigh : byteAt l.encode 18 = l.alarmCode 4 + 4 * l.alarmCode 5 + 16 * l.alarmCode 6 + 64 * l.alarmCode 7 :=
    HoldsAt.byteAt ⟨_, rfl⟩ (by omega)
  have hlow : byteAt l.encode 19 = l.alarmCode 0 + 4 * l.alarmCode 1 + 16 * l.alarmCode 2 + 64 * l.alarmCode 3 :=
    HoldsAt.byteAt ⟨_, rfl⟩ (by omega)
  rw [word16At, hhigh, hlow]
  interval_cases j <;> omega

theorem Ladder.bandAt_encode {b : Band} (hb : l.bands[j]? = some b) (hj : j < 8) : bandAt l.encode j = some b := by
  have hd := b.demand.code_lt
  have hnibble : l.nibble j = b.demand.code + 4 * b.heat.code := by rw [Ladder.nibble, hb]
  have halarm : l.alarmCode j = b.alarm.code := by rw [Ladder.alarmCode, hb]
  have hdemand : (b.demand.code + 4 * b.heat.code) % 4 = b.demand.code := by omega
  have hheat : (b.demand.code + 4 * b.heat.code) / 4 = b.heat.code := by omega
  rw [bandAt, Ladder.nibbleAt_encode hj, Ladder.alarmAt_encode hj, hnibble, halarm, hdemand, hheat, DemandAttr.ofCode_code,
    HeatAttr.ofCode_code, AlarmAttr.ofCode_code]

theorem Ladder.word16At_encode (h : l.inDomain = true) : word16At l.encode 0 = l.offsets.length * 8192 + l.delay := by
  obtain ⟨-, hmax, -, -, -, hdelay⟩ := Ladder.inDomain_iff.mp h
  exact HoldsAt.word16At ⟨_, rfl⟩ (by omega)

theorem Ladder.separatorCount_encode (h : l.inDomain = true) : separatorCount l.encode = l.offsets.length := by
  obtain ⟨-, -, -, -, -, hdelay⟩ := Ladder.inDomain_iff.mp h
  rw [separatorCount, Ladder.word16At_encode h]
  omega

theorem Ladder.decode_encode (h : l.inDomain = true) : Ladder.decode l.encode = some l := by
  obtain ⟨-, hmax, hbands, hoff, -, hdelay⟩ := Ladder.inDomain_iff.mp h
  have hbandList : (List.range (l.offsets.length + 1)).map (bandAt l.encode) = l.bands.map some := by
    refine List.ext_getElem (by simp [hbands]) fun j hj hj' => ?_
    rw [List.length_map] at hj'
    simp only [List.getElem_map, List.getElem_range]
    exact Ladder.bandAt_encode (List.getElem?_eq_getElem hj') (by omega)
  have hoffsets : (List.range l.offsets.length).map (fun j => int16At l.encode (2 + 2 * j)) = l.offsets := by
    refine List.ext_getElem (by simp) fun j hj hj' => ?_
    obtain ⟨hlo, hhi⟩ := Ladder.offsetSlot_bound hoff j
    simp only [List.getElem_map, List.getElem_range]
    rw [(Ladder.holdsAt_slot (hj'.trans_le hmax)).int16At (by omega) (by omega)]
    exact List.getD_eq_getElem _ _ hj'
  have hdelayField : (l.offsets.length * 8192 + l.delay) % 8192 = l.delay := by omega
  rw [Ladder.decode, Ladder.separatorCount_encode h, hbandList, allSome_map_some, hoffsets, Ladder.word16At_encode h, hdelayField]

theorem Ladder.encode_length (l : Ladder) : l.encode.length = 20 := rfl

theorem Ladder.read_encode (h : l.inDomain = true) : Ladder.read l.encode = some l := by
  obtain ⟨hmin, hmax, -, -, -, -⟩ := Ladder.inDomain_iff.mp h
  rw [Ladder.read, Ladder.separatorCount_encode h, if_pos ⟨hmin, hmax⟩, Ladder.decode_encode h, Option.filter_some, if_pos h]

end ladder

/-! ## Steps and programs (R134, R175) -/

theorem EndKind.ofCode_code (x : EndKind) : EndKind.ofCode x.code = some x := by cases x <;> rfl
theorem EndKind.code_lt (x : EndKind) : x.code < 4 := by cases x <;> decide

/-- The domain of a step, field by field (R134). -/
theorem Step.inDomain_iff {st : Step} : st.inDomain = true ↔ 1 ≤ st.duration ∧ st.duration ≤ 65535
    ∧ (-500 ≤ st.threshold ∧ st.threshold ≤ 700) ∧ 1 ≤ st.timeout ∧ st.timeout ≤ 65535 ∧ st.next ≤ 31 := by
  simp only [Step.inDomain, Bool.and_eq_true, decide_eq_true_eq, inRange700_iff, and_assoc]

/-- Flags packed above a two-bit code stand two bits up. -/
theorem testBit_code_flags {c : Nat} (hc : c < 4) (fs : List Bool) (k : Nat) :
    (c + 4 * flagBits fs).testBit (k + 2) = fs.getD k false := by
  have hquot : (c + 4 * flagBits fs) / 2 ^ 2 = flagBits fs := by omega
  rw [← Nat.testBit_div_two_pow, hquot, testBit_flagBits]

theorem Step.decode_encode {st : Step} (h : st.inDomain = true) : Step.decode st.encode = some st := by
  obtain ⟨-, hduration, ⟨hlo, hhi⟩, -, htimeout, hnext⟩ := Step.inDomain_iff.mp h
  have hc := st.endKind.code_lt
  have hflags : flagBits [st.abortOnTimeout, st.last, st.notify, st.measure] < 16 := flagBits_lt _
  have hkind : byteAt st.encode 1 % 4 = st.endKind.code := by
    rw [HoldsAt.byteAt (n := st.endKind.code + 4 * flagBits [st.abortOnTimeout, st.last, st.notify, st.measure]) ⟨_, rfl⟩ (by omega)]
    omega
  have drives {k : Nat} (hk : k < 8) : bitAt st.encode 0 k = [st.heater, st.lowerFan, st.upperFan].getD k false :=
    HoldsAt.flagAt ⟨_, rfl⟩ hk
  have flag {k : Nat} (hk : k + 2 < 8) : bitAt st.encode 1 (k + 2)
      = [st.abortOnTimeout, st.last, st.notify, st.measure].getD k false :=
    (HoldsAt.bitAt ⟨_, rfl⟩ hk).trans (testBit_code_flags hc _ k)
  have hdurationWord : word16At st.encode 2 = st.duration := HoldsAt.word16At ⟨_, rfl⟩ hduration
  have hthreshold : int16At st.encode 4 = st.threshold := HoldsAt.int16At ⟨_, rfl⟩ (by omega) (by omega)
  have htimeoutWord : word16At st.encode 6 = st.timeout := HoldsAt.word16At ⟨_, rfl⟩ htimeout
  have hnextByte : byteAt st.encode 8 = st.next := HoldsAt.byteAt ⟨_, rfl⟩ (by omega)
  unfold Step.decode
  rw [hkind, EndKind.ofCode_code, drives (by decide), drives (by decide), drives (by decide), flag (k := 0) (by decide),
    flag (k := 1) (by decide), flag (k := 2) (by decide), flag (k := 3) (by decide), hdurationWord, hthreshold, htimeoutWord,
    hnextByte]
  rfl

theorem Step.encode_length (st : Step) : st.encode.length = 9 := rfl

theorem Step.read_encode {st : Step} (h : st.inDomain = true) : Step.read st.encode = some st := by
  rw [Step.read, Step.decode_encode h, Option.filter_some, if_pos h]

theorem Program.inDomain_iff {g : Program} : g.inDomain = true ↔ g.head ≤ 31 ∧ g.exitHead ≤ 31 := by simp [Program.inDomain]

theorem Program.decode_encode {g : Program} (h : g.inDomain = true) : Program.decode g.encode = g := by
  obtain ⟨hhead, hexit⟩ := Program.inDomain_iff.mp h
  have flag {k : Nat} (hk : k < 8) : bitAt g.encode 0 k = [g.valid, decide (g.path = .lower), g.compressorOff].getD k false :=
    HoldsAt.flagAt ⟨_, rfl⟩ hk
  have hheadByte : byteAt g.encode 1 = g.head := HoldsAt.byteAt ⟨_, rfl⟩ (by omega)
  have hexitByte : byteAt g.encode 2 = g.exitHead := HoldsAt.byteAt ⟨_, rfl⟩ (by omega)
  have hpath : (if decide (g.path = .lower) then Path.lower else .upper) = g.path := by cases g.path <;> rfl
  unfold Program.decode
  rw [flag (by decide), flag (by decide), flag (by decide), hheadByte, hexitByte]
  exact congrArg (fun p : Path => { g with path := p }) hpath

theorem Program.encode_length (g : Program) : g.encode.length = 3 := rfl

theorem Program.read_encode {g : Program} (h : g.inDomain = true) : Program.read g.encode = some g := by
  rw [Program.read, Program.decode_encode h, Option.filter_some, if_pos h]

end Sys2Proof.Machine
end

section
/-!
The settings record, the image and the CRC-8 of a frame (R153, R168, R169, R175): the record and the image read back as they were written,
and a frame with its check byte has CRC-8 zero.
-/
namespace Sys2Proof.Machine

/-! ## The settings record (R169) -/

section settings
variable {x : Settings}

theorem Settings.encode_length (x : Settings) : x.encode.length = 23 := rfl

/-- The check of a written record matches: the CRC-16 stands behind the fields it was computed over. -/
theorem Settings.crc_encode (x : Settings) : (crc16 (areaAt x.encode 0 21)).toNat = word16At x.encode 21 := by
  have hfields : areaAt x.encode 0 21 = x.fields := HoldsAt.areaAt (x := x.fields) ⟨_, rfl⟩
  have hcrc : word16At x.encode 21 = (crc16 x.fields).toNat := HoldsAt.word16At ⟨_, rfl⟩ (Nat.le_of_lt_succ (crc16 x.fields).isLt)
  rw [hfields, hcrc]

/-- Zone k of a record stands in the three bytes from 3 k on. -/
theorem settingsZone_eq {l : List Byte} {k : Nat} {c : Nat × Int} (h : HoldsAt l (3 * k) ([byte c.1] ++ beInt16 c.2))
    (hp : c.1 ≤ 255) (hlo : -32768 ≤ c.2) (hhi : c.2 ≤ 32767) : settingsZone l k = (c.1, c.2) := by
  rw [settingsZone, h.left.byteAt hp, HoldsAt.int16At (HoldsAt.tail h) hlo hhi]

theorem Settings.panelOf_encode (x : Settings) : panelOf (x.encode.getD 12 0xFF) = x.panel := by
  have flag {k : Nat} (hk : k < 8) : bitAt x.encode 12 k = x.panel.toList.getD k false := HoldsAt.flagAt ⟨_, rfl⟩ hk
  have h0 := flag (k := 0) (by decide)
  have h1 := flag (k := 1) (by decide)
  have h2 := flag (k := 2) (by decide)
  have h3 := flag (k := 3) (by decide)
  rw [bitAt] at h0 h1 h2 h3
  rw [panelOf, h0, h1, h2, h3]
  rfl

theorem Settings.read_encode (hz : ∀ z, (x.zones.get z).1 ≤ 255 ∧ -32768 ≤ (x.zones.get z).2 ∧ (x.zones.get z).2 ≤ 32767)
    (hacc : x.accounting.accumulator ≤ 65535) (hint : x.accounting.interval ≤ 65535) (hage : x.accounting.age ≤ 4294967295) :
    Settings.read x.encode = some x := by
  have zone (z : Zone) {k : Nat} (h : HoldsAt x.encode (3 * k) ([byte (x.zones.get z).1] ++ beInt16 (x.zones.get z).2)) :
      settingsZone x.encode k = x.zones.get z := by
    obtain ⟨hp, hlo, hhi⟩ := hz z
    exact settingsZone_eq h hp hlo hhi
  have hfresh : settingsZone x.encode 0 = x.zones.fresh := zone .fresh ⟨_, rfl⟩
  have hflex : settingsZone x.encode 1 = x.zones.flex := zone .flex ⟨_, rfl⟩
  have hfreezer : settingsZone x.encode 2 = x.zones.freezer := zone .freezer ⟨_, rfl⟩
  have hice : settingsZone x.encode 3 = x.zones.ice := zone .ice ⟨_, rfl⟩
  have haccWord : word16At x.encode 13 = x.accounting.accumulator := HoldsAt.word16At ⟨_, rfl⟩ hacc
  have hintWord : word16At x.encode 15 = x.accounting.interval := HoldsAt.word16At ⟨_, rfl⟩ hint
  have hageWord : word32At x.encode 17 = x.accounting.age := HoldsAt.word32At ⟨_, rfl⟩ hage
  rw [Settings.read, if_pos x.crc_encode, hfresh, hflex, hfreezer, hice, x.panelOf_encode, haccWord, hintWord, hageWord]

end settings

/-! ## Entries in a row (R168, R175) -/

section entries
variable {α : Type} {enc : α → List Byte} {size : Nat} {xs : List α}

theorem length_flatMap_entries (h : ∀ x ∈ xs, (enc x).length = size) : (xs.flatMap enc).length = size * xs.length := by
  rw [List.length_flatMap, List.map_congr_left h, List.map_const', List.sum_replicate, smul_eq_mul, Nat.mul_comm]

/-- Entry i of a row of entries of one size stands i sizes behind the first. -/
theorem holdsAt_flatMap (h : ∀ x ∈ xs, (enc x).length = size) {i : Nat} (hi : i < xs.length) (after : List Byte) :
    HoldsAt (xs.flatMap enc ++ after) (size * i) (enc xs[i]) := by
  induction xs generalizing i with
  | nil => exact absurd hi (Nat.not_lt_zero i)
  | cons x xs ih =>
    obtain ⟨hx, hxs⟩ := List.forall_mem_cons.mp h
    cases i with
    | zero => exact ⟨xs.flatMap enc ++ after, by simp⟩
    | succ i =>
      obtain ⟨rest, hrest⟩ := ih hxs (Nat.lt_of_succ_lt_succ hi)
      refine ⟨rest, ?_⟩
      rw [List.flatMap_cons, List.append_assoc, Nat.mul_succ, Nat.add_comm, ← List.drop_drop, List.drop_left' hx, hrest]
      rfl

theorem HoldsAt.entry {l : List Byte} {k : Nat} (hl : HoldsAt l k (xs.flatMap enc)) (h : ∀ x ∈ xs, (enc x).length = size) {i : Nat}
    (hi : i < xs.length) : HoldsAt l (k + size * i) (enc xs[i]) := by
  obtain ⟨after, hafter⟩ := hl
  obtain ⟨rest, hrest⟩ := holdsAt_flatMap h hi after
  exact ⟨rest, by rw [← List.drop_drop, hafter, hrest]⟩

/-- A row of entries reads back where each entry does. -/
theorem HoldsAt.readEntries {read : List Byte → Option α} {l : List Byte} {k n : Nat} (hl : HoldsAt l k (xs.flatMap enc))
    (hread : ∀ x ∈ xs, read (enc x) = some x) (h : ∀ x ∈ xs, (enc x).length = size) (hn : xs.length = n) :
    readEntries read l k size n = some xs := by
  subst hn
  have hlist : (List.range xs.length).map (fun i => read (Machine.areaAt l (k + size * i) size)) = xs.map some := by
    refine List.ext_getElem (by simp) fun i hi hi' => ?_
    rw [List.length_map] at hi'
    have hmem : xs[i] ∈ xs := List.getElem_mem hi'
    have harea : Machine.areaAt l (k + size * i) size = enc xs[i] := by
      have hat := (hl.entry h hi').areaAt
      rwa [h _ hmem] at hat
    simp only [List.getElem_map, List.getElem_range]
    rw [harea, hread _ hmem]
  rw [Machine.readEntries, hlist, allSome_map_some]

end entries

/-! ## The image (R168) -/

theorem pointInDomain_iff {v : Int} : pointInDomain v = true ↔ -1000 ≤ v ∧ v ≤ 1000 := by simp [pointInDomain]

section image
variable {t : Tables}

theorem Tables.Good.point (h : t.Good) {v : Int} (hv : v ∈ t.conv) : -1000 ≤ v ∧ v ≤ 1000 := by
  have hconv := h.conv
  rw [Tables.convValid, Bool.and_eq_true, List.all_eq_true] at hconv
  exact pointInDomain_iff.mp (hconv.1 v hv)

/-- Where the five rows of entries stand in a body, and how long it is (spec/11). -/
theorem Tables.body_layout (h : t.Good) : t.body.length = 845 ∧ HoldsAt t.body 3 (t.conv.flatMap beInt16)
    ∧ HoldsAt t.body 37 (t.presets.flatMap Preset.encode) ∧ HoldsAt t.body 293 (t.ladders.flatMap Ladder.encode)
    ∧ HoldsAt t.body 533 (t.steps.flatMap Step.encode) ∧ HoldsAt t.body 821 (t.programs.flatMap Program.encode) := by
  have hconv : (t.conv.flatMap beInt16).length = 34 := by
    rw [length_flatMap_entries fun v _ => beInt16_length v, h.points]
  have hpresets : (t.presets.flatMap Preset.encode).length = 256 := by
    rw [length_flatMap_entries fun p _ => p.encode_length, h.presetCount]
  have hladders : (t.ladders.flatMap Ladder.encode).length = 240 := by
    rw [length_flatMap_entries fun l _ => l.encode_length, h.ladderCount]
  have hsteps : (t.steps.flatMap Step.encode).length = 288 := by
    rw [length_flatMap_entries fun st _ => st.encode_length, h.stepCount]
  have hprograms : (t.programs.flatMap Program.encode).length = 24 := by
    rw [length_flatMap_entries fun g _ => g.encode_length, h.programCount]
  have hbody : HoldsAt t.body 0 ([byte t.ambientGain, byte t.doorWeight, byte t.autoProgram] ++ (t.conv.flatMap beInt16
      ++ (t.presets.flatMap Preset.encode ++ (t.ladders.flatMap Ladder.encode ++ (t.steps.flatMap Step.encode
        ++ t.programs.flatMap Program.encode))))) := ⟨[], by simp only [Tables.body, List.drop_zero, List.append_assoc, List.append_nil]⟩
  have hat3 := hbody.right (n := 3) rfl
  have hat37 := hat3.right hconv
  have hat293 := hat37.right hpresets
  have hat533 := hat293.right hladders
  exact ⟨by simp [Tables.body, hconv, hpresets, hladders, hsteps, hprograms], hat3.left, hat37.left, hat293.left, hat533.left,
    hat533.right hsteps⟩

/-- The points of a body read back as they stand in the tables. -/
theorem Tables.readConv_body (h : t.Good) : (List.range 17).map (fun i => int16At t.body (3 + 2 * i)) = t.conv := by
  obtain ⟨-, hconv, -⟩ := Tables.body_layout h
  refine List.ext_getElem (by simp [h.points]) fun i hi hi' => ?_
  obtain ⟨hlo, hhi⟩ := h.point (List.getElem_mem hi')
  simp only [List.getElem_map, List.getElem_range]
  exact (hconv.entry (fun v _ => beInt16_length v) hi').int16At (by omega) (by omega)

/-- The body of good tables reads back as the tables. -/
theorem readBody_body (h : t.Good) : readBody t.body = some t := by
  obtain ⟨-, -, hpresets, hladders, hsteps, hprograms⟩ := Tables.body_layout h
  have hgain : byteAt t.body 0 = t.ambientGain := HoldsAt.byteAt ⟨_, rfl⟩ (h.gain.trans (by decide))
  have hweight : byteAt t.body 1 = t.doorWeight := HoldsAt.byteAt ⟨_, rfl⟩ (h.weight.trans (by decide))
  have hauto : byteAt t.body 2 = t.autoProgram :=
    HoldsAt.byteAt ⟨_, rfl⟩ ((Tables.autoValid_iff.mp h.auto).1.trans (by decide))
  simp only [readBody, hpresets.readEntries (fun p hp => Preset.read_encode (h.presets p hp)) (fun p _ => p.encode_length) h.presetCount,
    hladders.readEntries (fun l hl => Ladder.read_encode (h.ladders l hl)) (fun l _ => l.encode_length) h.ladderCount,
    hsteps.readEntries (fun st hst => Step.read_encode (h.steps st hst)) (fun st _ => st.encode_length) h.stepCount,
    hprograms.readEntries (fun g hg => Program.read_encode (h.programs g hg)) (fun g _ => g.encode_length) h.programCount,
    Tables.readConv_body h, hgain, hweight, hauto]

/-- The header of a body carries the format, the version, the length and the CRC-16 of the body (spec/11). -/
theorem imageHeader_fields {v : Nat} (hv : v ≤ 65535) (body : List Byte) : word16At (imageHeader v body) 0 = 0xE41C
    ∧ byteAt (imageHeader v body) 2 = 1 ∧ word16At (imageHeader v body) 3 = v ∧ word16At (imageHeader v body) 5 = 845
    ∧ word16At (imageHeader v body) 7 = (crc16 body).toNat :=
  ⟨HoldsAt.word16At ⟨_, rfl⟩ (by decide), HoldsAt.byteAt ⟨_, rfl⟩ (by decide), HoldsAt.word16At ⟨_, rfl⟩ hv,
    HoldsAt.word16At ⟨_, rfl⟩ (by decide), HoldsAt.word16At ⟨_, rfl⟩ (Nat.le_of_lt_succ (crc16 body).isLt)⟩

/-- Good tables that serve every zone are accepted as they were written. -/
theorem acceptImage_body {v : Nat} (hv : v ≤ 65535) (h : t.Good) (hz : t.zonesServed = true) :
    acceptImage (imageHeader v t.body) t.body = some (v, t) := by
  obtain ⟨hmagic, hformat, hversion, hlength, hcrc⟩ := imageHeader_fields hv t.body
  have harea : areaAt t.body 0 845 = t.body := by
    rw [← (Tables.body_layout h).1]
    exact HoldsAt.areaAt ⟨[], (List.append_nil _).symm⟩
  rw [acceptImage_iff, headerGood_iff, Tables.valid_iff]
  exact ⟨⟨hmagic, hformat, hlength, hcrc.trans (by rw [harea])⟩, hversion.symm, readBody_body h, h.conv, hz, h.chains, h.auto,
    h.gain, h.weight⟩

end image

/-! ## The CRC-8 of a frame (R153) -/

/-- A byte that equals the CRC so far brings it to zero. -/
theorem crc8Byte_self (c : Byte) : crc8Byte c c = 0 := by
  rw [crc8Byte, BitVec.xor_self]
  decide

theorem crc8_append_check (l : List Byte) : crc8 (l ++ [crc8 l]) = 0 := by
  rw [crc8, List.foldl_append]
  exact crc8Byte_self (crc8 l)

end Sys2Proof.Machine

namespace Sys2Proof

open Sys2Proof.Machine

/-- Settles O60: each encoding is its fields in order, each field reads back, and entries of one size stand one size apart. -/
theorem writtenEntriesReadBack : Obligations.WrittenEntriesReadBack :=
  ⟨⟨fun p h => ⟨Preset.read_encode h, p.encode_length⟩, fun l h => ⟨Ladder.read_encode h, l.encode_length⟩,
      fun st h => ⟨Step.read_encode h, st.encode_length⟩, fun g h => ⟨Program.read_encode h, g.encode_length⟩⟩,
    fun x hz hacc hint hage => ⟨Settings.read_encode hz hacc hint hage, x.encode_length⟩,
    fun _ _ hv h hz => ⟨(Tables.body_layout h).1, acceptImage_body hv h hz⟩, crc8_append_check⟩

end Sys2Proof
end

section
/-!
The event requests (R154, R163 to R166): what an acknowledgement and a new mask do to the event records, and how a frame of a command
that every port may give at every zone is refused.
-/
namespace Sys2Proof.Machine

/-! ## The event records (R163 to R165) -/

section records
variable (s : State) (p : Port) (w : Word16) (k : EventKind)

theorem State.raise_holds_self : holdsKind ((s.raise k).events.get p).set k = true := by
  simp [State.raise_holds]

theorem State.acknowledge_holds : holdsKind ((s.acknowledge p w).events.get p).set k
    = (holdsKind (s.events.get p).set k && !w.getLsbD k.bit) := by
  rw [State.acknowledge, PerPort.get_set_same, holdsKind_and, holdsKind_not]
  rfl

theorem State.acknowledge_mask : ((s.acknowledge p w).events.get p).mask = (s.events.get p).mask := by
  rw [State.acknowledge, PerPort.get_set_same]

theorem State.acknowledge_other {r : Port} (h : r ≠ p) : (s.acknowledge p w).events.get r = s.events.get r :=
  PerPort.get_set_other _ h _

theorem State.setMask_mask : ((s.setMask p w).events.get p).mask = w := by
  rw [State.setMask, PerPort.get_set_same]

theorem State.setMask_other {r : Port} (h : r ≠ p) : (s.setMask p w).events.get r = s.events.get r :=
  PerPort.get_set_other _ h _

theorem State.setMask_set (r : Port) : ((s.setMask p w).events.get r).set = (s.events.get r).set := by
  by_cases h : r = p
  · rw [h, State.setMask, PerPort.get_set_same]
  · rw [State.setMask_other s p w h]

end records

/-! ## Commands that no level and no panel map bars (R154, R156) -/

theorem port_level_le (p : Port) : p.level ≤ 2 := by cases p <;> decide

/-- Every port has the level of the command, at every zone, and the command waits for READY. -/
structure Command.OpenToAll (c : Command) : Prop where
  level : c.maxLevel = 2
  unmapped : c.mapped = false
  waits : c ≠ .identify

section openToAll
variable {c : Command} {f : Frame}

/-- Past step 4, start-up alone can refuse such a command. -/
theorem Command.OpenToAll.commandRefusal (hc : c.OpenToAll) (s : State) (p : Port) (hl : c.wrongLength f = false) :
    s.commandRefusal p c f = if s.ready then none else some .starting := by
  cases hr : s.ready with
  | false => exact State.commandRefusal_starting hl hr hc.waits
  | true =>
    have hlevel : ¬ c.maxLevel < p.level := by
      rw [hc.level]
      exact Nat.not_lt.mpr (port_level_le p)
    rw [State.commandRefusal_started hl (.inl hr), if_neg hlevel]
    exact State.mapRefusal_unmapped (.inr hc.unmapped)

/-- A frame of such a command fails by its bytes, by start-up, or not at all. -/
theorem Command.OpenToAll.refusal (hc : c.OpenToAll) (s : State) (p : Port) (hf : f.command = some c) :
    s.refusal p f = some .badLength ∨ s.refusal p f = some .checkError
      ∨ s.refusal p f = if s.ready then none else some .starting := by
  cases hs : f.wrongSize with
  | true => exact .inl (State.refusal_wrongSize hs)
  | false =>
    cases hk : f.checkFails with
    | true => exact .inr (.inl (State.refusal_checkFails hs hk))
    | false =>
      rw [State.refusal_known hs hk hf]
      cases hl : c.wrongLength f with
      | true => exact .inl (State.commandRefusal_wrongLength hl)
      | false => exact .inr (.inr (hc.commandRefusal s p hl))

theorem Command.OpenToAll.not_denied (hc : c.OpenToAll) (s : State) (p : Port) (hf : f.command = some c) :
    s.refusal p f ≠ some .denied := by
  obtain h | h | h := hc.refusal s p hf
  · rw [h]; nofun
  · rw [h]; nofun
  · rw [h]; split <;> nofun

theorem Command.OpenToAll.starting (hc : c.OpenToAll) {s : State} (p : Port) (hf : f.command = some c) (hr : s.ready = false) :
    s.refusal p f = some .badLength ∨ s.refusal p f = some .checkError ∨ s.refusal p f = some .starting := by
  simpa [hr] using hc.refusal s p hf

end openToAll

theorem Command.readEvents_openToAll : Command.readEvents.OpenToAll := ⟨rfl, rfl, nofun⟩

theorem Command.ackEvents_openToAll : Command.ackEvents.OpenToAll := ⟨rfl, rfl, nofun⟩

theorem Command.setEventMask_openToAll : Command.setEventMask.OpenToAll := ⟨rfl, rfl, nofun⟩

end Sys2Proof.Machine

namespace Sys2Proof

open Sys2Proof.Machine

/-- Settles O43: a read answers with the record as it is, an acknowledgement rewrites the set of its own port's record, and neither
command has a level or a panel map to fail by. -/
theorem acknowledgeRemovesOwnKinds : Obligations.AcknowledgeRemovesOwnKinds := by
  refine ⟨fun s e p f q h => h.next (rule := ruleReadEvents) rfl rfl, fun s e p f q h => ?_, fun s p f hf => ?_⟩
  · refine ⟨_, h.next (rule := ruleAckEvents) rfl rfl, rfl, ?_, ?_, ?_, fun k => State.raise_holds_self _ p k⟩
    · exact State.acknowledge_holds { s with ports := q } p _
    · exact State.acknowledge_mask { s with ports := q } p _
    · exact fun r hr => State.acknowledge_other { s with ports := q } p _ hr
  · obtain ⟨c, hc, hcf⟩ : ∃ c : Command, c.OpenToAll ∧ f.command = some c :=
      hf.elim (fun h => ⟨_, Command.readEvents_openToAll, h⟩) fun h => ⟨_, Command.ackEvents_openToAll, h⟩
    exact ⟨hc.not_denied s p hcf, hc.starting p hcf⟩

/-- Settles O44: a new mask rewrites the mask of its own port's record, which the lines are read from and which a raise does not
consult. -/
theorem maskIsReplaced : Obligations.MaskIsReplaced := by
  refine ⟨fun s e p f q h => ?_, fun s p f hf => Command.setEventMask_openToAll.not_denied s p hf⟩
  refine ⟨_, h.next (rule := ruleSetEventMask) rfl rfl, rfl, ?_, ?_, ?_, fun x => rfl, fun r k => State.raise_holds_self _ r k⟩
  · exact State.setMask_mask { s with ports := q } p _
  · exact State.setMask_set { s with ports := q } p _
  · exact fun r hr => congrArg EventRecord.mask (State.setMask_other { s with ports := q } p _ hr)

end Sys2Proof
end
